-- ==== Sys2Proof/Word.lean ====
section
/-! DEFINITION. The word type of the machine and the register number type (spec/10_state.md R31, spec/30_encoding.md R330). -/

namespace Sys2Proof

/-- A 64-bit register or virtual address: "All registers are 64 bits long" (R31). -/
abbrev Word := BitVec 64

/-- A five-bit register number; 31 names the register that reads zero and discards writes (R330, R31, R33). -/
abbrev Reg := BitVec 5

/-- One byte of memory. -/
abbrev Byte := BitVec 8

end Sys2Proof
end

