-- ==== Sys2Proof/Machine/Bits.lean ====
section
/-! DEFINITION. Bit-field and sign-extension helpers (notation of spec/00_scope.md R15). -/

namespace Sys2Proof.Machine

/-- The word whose low `n` bits are ones. -/
def onesLow (n : Nat) : Word := BitVec.ofNat 64 (2 ^ n - 1)

/-- `old` with the bits that `mask` selects taken from `new`. -/
def mergeMask (old mask new : Word) : Word := (old &&& ~~~mask) ||| (new &&& mask)

/-- A flag as a word. -/
def ofBool (b : Bool) : Word := if b then 1 else 0

/-- A flag as bit `n` of a word. -/
def bitAt (n : Nat) (b : Bool) : Word := ofBool b <<< n

/-- Byte `i` of a quadword, byte 0 least significant. -/
def byteOf (x : Word) (i : Nat) : BitVec 8 := x.extractLsb' (8 * i) 8

/-- 16-bit word `i` of a quadword. -/
def wordOf (x : Word) (i : Nat) : BitVec 16 := x.extractLsb' (16 * i) 16

/-- The longword in bits [31:0]. -/
def longOf (x : Word) : BitVec 32 := x.extractLsb' 0 32

/-- `sext_32`: the low longword, sign-extended. -/
def sextLong (x : Word) : Word := (longOf x).signExtend 64

/-- The quadword of a list of bytes, byte 0 first. -/
def packBytes : List (BitVec 8) → Word
  | [] => 0
  | b :: l => (packBytes l <<< 8) ||| b.setWidth 64

/-- The quadword of a list of 16-bit words, word 0 first. -/
def packWords : List (BitVec 16) → Word
  | [] => 0
  | w :: l => (packWords l <<< 16) ||| w.setWidth 64

/-- The word computed byte by byte. -/
def mapBytes (f : Nat → BitVec 8) : Word := packBytes [f 0, f 1, f 2, f 3, f 4, f 5, f 6, f 7]

/-- The word computed from four 16-bit words. -/
def mapWords (f : Nat → BitVec 16) : Word := packWords [f 0, f 1, f 2, f 3]

end Sys2Proof.Machine
end

