-- ==== Sys2Proof/Config.lean ====
section
/-! DEFINITION. What an implementation fixes, and the free values: opaque constants that no proof can evaluate. -/

namespace Sys2Proof

/-- The free values of the model (log 4): the n-th value the manual leaves open in a run. Nothing constrains it. -/
opaque Config.freeQuad : Nat → Word

/-- The free time amounts: CC and the cycle-counting performance counters advance by one more than this
between two instructions (spec/92_eei_decisions.md D12, D34; log 9). -/
opaque Config.freeTime : Nat → Nat

/-- I_CTL[CHIP_ID], part identity (spec/92_eei_decisions.md D6). -/
opaque Config.chipId : BitVec 6

/-! ### The fixed sizes (spec/00_scope.md R8) -/

/-- A page, and a block of the caches, the granule of coherence and of the lock. -/
abbrev Config.pageBytes : Nat := 8192
abbrev Config.blockBytes : Nat := 64

/-- The entries of each TB. -/
abbrev Config.tbEntries : Nat := 128

/-- The Icache and the Dcache: 64KB, two ways. -/
abbrev Config.icacheBytes : Nat := 0x10000
abbrev Config.icacheWays : Nat := 2
abbrev Config.dcacheBytes : Nat := 0x10000
abbrev Config.dcacheWays : Nat := 2

/-- The Bcache by BC_SIZE (Table 4-42): 0000, 0001, 0011, 0111 and 1111 are 1, 2, 4, 8 and 16MB. -/
abbrev Config.bcacheBytes (size : BitVec 4) : Nat := (size.toNat + 1) * 0x100000

/-- The fetch block of four instructions. -/
abbrev Config.fetchBlockBytes : Nat := 16

/-! The queues and buffers of R8 hold nothing between two steps: an instruction is one step, and what stands in them shows only in the order
that another agent sees and in timing (spec/10_state.md R49 (d); log 24). Their sizes: -/

abbrev Config.instructionsInFlight : Nat := 80
abbrev Config.fetchSlots : Nat := 20
abbrev Config.intIssueQueue : Nat := 20
abbrev Config.fpIssueQueue : Nat := 15
abbrev Config.loadQueue : Nat := 32
abbrev Config.storeQueue : Nat := 32
abbrev Config.missAddressFile : Nat := 8
abbrev Config.ioWriteBuffer : Nat := 4
abbrev Config.victimBuffer : Nat := 8
abbrev Config.probeQueue : Nat := 8

end Sys2Proof
end

