-- ==== Sys2Proof/Machine/State.lean ====
section
/-! DEFINITION. The machine state: every piece of state the spec gives the machine (spec/10_state.md R30), the platform's inputs
held as plain data, and the model's own bookkeeping fields. Reset values: R53; a value marked (X) in INVENTORY.md is the model's
choice (log 1). -/

namespace Sys2Proof.Machine

/-- Why the machine stops. The spec's treatment of each is "refuse" (spec/93_implementation_defined.md Part A): the model has no
transition there. All are safe: the model stops where the hardware goes on in a way the spec does not give. -/
inductive Fault where
  /-- A lookup finds more than one valid matching TB entry (A23; spec/21_translation.md R304). Raised by address translation. Safe. -/
  | multipleTbMatch
  /-- The two DTB banks, or the two DTB_ASN copies, answer a Dstream translation differently (A12; R162). Raised by address translation.
  Safe. -/
  | dtbCopiesDiffer
  /-- Instruction fetch from I/O space (A17; spec/20_memory.md R232). Raised by fetch. Safe. -/
  | fetchFromIoSpace
  /-- A HW_MTPR that sets DC_CTL[F_HIT] (A13; R171). Raised by HW_MTPR. Safe. -/
  | forceHit
  /-- A HW_MTPR that leaves no cache set enabled: I_CTL[IC_EN] = 0 or DC_CTL[SET_EN] = 0 (A16; R118, R171). Raised by HW_MTPR. Safe. -/
  | noCacheSetEnabled
  /-- A HW_MTPR to ITB_TAG, ITB_PTE, ITB_IAP, ITB_IA or ITB_IS in native mode (A24; R313). Raised by HW_MTPR. Safe. -/
  | itbWriteInNativeMode
  /-- A native-mode fetch before the first write of ITB_IA after reset (A37; R1021). Raised by fetch. Safe. -/
  | fetchBeforeItbInit
  /-- A HW_MTPR that leaves a disabled performance counter within one increment of overflow (spec/71_palcode_restrictions.md R1028,
  R1034; log 33). Raised by HW_MTPR. Safe. -/
  | counterNearOverflow
  deriving DecidableEq, Repr

/-- Why the machine has no meaning for an instruction. -/
inductive Refusal where
  /-- The arm of this instruction is not modelled. Raised by the dispatcher. Safe. -/
  | notModelled (mnemonic : String)
  /-- A function code no table of Appendix A lists, in an opcode that Table 6-8 does not cover (A25; spec/30_encoding.md R342).
  Raised by the step. Safe. -/
  | unlistedFunction (opcode : BitVec 6)
  /-- HW_RET with RA other than 31 (A32; D29). Raised by HW_RET. Safe. -/
  | hwRetRa
  /-- HW_LD with TYPE 011, or HW_ST with TYPE 011, 100, 101 or 111 (A33; R806, R808). Raised by HW_LD and HW_ST. Safe. -/
  | unusedAccessType (ty : BitVec 3)
  /-- A HW_MTPR, or a floating operate, branch, FTOI or store, in a fetch block that holds both (spec/71_palcode_restrictions.md R1014;
  log 36). Raised by the step. Safe. -/
  | mixedFetchBlock
  /-- A HW_LD Physical/Lock in the fourth place of its fetch block (R1029). Raised by the step. Safe. -/
  | lockedLoadFourth
  /-- A HW_MTPR with a mispredictable or trappable instruction in its fetch block or in the previous one (R1039; log 36). Raised by the
  step. Safe. -/
  | trappableWithMtpr
  deriving DecidableEq, Repr

/-- The PALcode entry points (spec/60_exceptions.md R832), CALL_PAL apart. -/
inductive Entry where
  | dtbmDouble3 | dtbmDouble4 | fen | unalign | dtbmSingle | dfault | opcdec | iacv | mchk | itbMiss | arith
  | interrupt | mtFpcr | reset
  deriving DecidableEq, Repr

/-! ### Parts of the state -/

/-- Physical memory: the listed bytes, addresses strictly rising, none equal to what an unlisted address reads as
(spec/20_memory.md R220, R221; log 2). -/
structure Memory where
  cells : List Host.Cell
  deriving DecidableEq, Repr

/-- What the ITB and DTB entries have in common (spec/10_state.md R43). `re` holds the read enables, PTE bits [11:8]:
bit m is the enable of mode m. -/
structure TbEntry where
  valid : Bool
  tag : BitVec 35
  asn : BitVec 8
  asm : Bool
  gh : BitVec 2
  pfn : BitVec 31
  re : BitVec 4
  deriving DecidableEq, Repr

/-- A DTB entry: also the write enables (PTE bits [15:12]), fault on read and fault on write. -/
structure DtbEntry extends TbEntry where
  we : BitVec 4
  fOnRead : Bool
  fOnWrite : Bool
  deriving DecidableEq, Repr

/-- One valid Icache block (R49 (a)): the set of the two-way cache that holds it, virtual tag bits [47:6], the PALmode bit, ASN, ASM,
the four access-check bits (bit m: mode m), and its sixteen instruction words. -/
structure IcacheBlock where
  way : Bool
  tag : BitVec 42
  pal : Bool
  asn : BitVec 8
  asm : Bool
  re : BitVec 4
  words : List (BitVec 32)
  deriving DecidableEq, Repr

/-- EXC_SUM, its fields (spec/11_ipr_ebox_ibox.md R112). -/
structure ExcSum where
  setIov : Bool
  setIne : Bool
  setUnf : Bool
  setOvf : Bool
  setDze : Bool
  setInv : Bool
  pcOvfl : Bool
  badIva : Bool
  reg : BitVec 5
  int : Bool
  iov : Bool
  ine : Bool
  unf : Bool
  fov : Bool
  dze : Bool
  inv : Bool
  swc : Bool
  deriving DecidableEq, Repr

/-- PCTR_CTL, its fields (R130). -/
structure Pctr where
  pctr0 : BitVec 20
  pmStalled : Bool
  pmKilledBm : Bool
  pctr1 : BitVec 20
  sl0 : Bool
  sl1 : BitVec 2
  val : Bool
  tak : Bool
  deriving DecidableEq, Repr

/-- The WRITE_ONCE fields that change what a program can observe (spec/12_ipr_mbox_cbox.md R185); loaded at reset, read by no
instruction (log 3). -/
structure WriteOnce where
  io32Byte : Bool
  sysbusMbEnable : Bool
  enableStcCommand : Bool
  bcCleanVictim : Bool
  bcRdvictim : Bool
  dupTagEnable : Bool
  prbTagOnly : Bool
  specReadEnable : Bool
  enableProbeCheck : Bool
  skewedFillMode : Bool
  deriving DecidableEq, Repr

/-- One line of the SROM image (spec/70_reset_and_hazards.md R945, D2): the address of a 16-byte fetch block, and its four instruction
words. -/
structure SromLine where
  addr : BitVec 44
  words : List (BitVec 32)
  deriving DecidableEq, Repr

/-- The SROM image (D2): Icache lines, and the WRITE_ONCE field values. -/
structure SromImage where
  lines : List SromLine
  writeOnce : WriteOnce
  deriving DecidableEq, Repr

/-- A fetch block that the machine has run from: its address without the low four bits, the mode it was fetched in, and its four words
(spec/71_palcode_restrictions.md R1014, R1039). -/
structure FetchBlock where
  addr : BitVec 60
  pal : Bool
  words : List (BitVec 32)
  deriving DecidableEq, Repr

/-- What the machine remembers of the last LDx_L for the erratum of spec/20_memory.md R255: how many instructions ago it was (81 stands
for more than 80), whether another agent has taken its block since, and whether a prefetch to the block stands within 80 instructions
of it, before or after. -/
structure LockWatch where
  age : Nat
  stolen : Bool
  prefetched : Bool
  deriving DecidableEq, Repr

/-- A prefetch of the last 80 instructions: the block it named, and how many instructions ago (R255). -/
structure Prefetch where
  block : BitVec 38
  age : Nat
  deriving DecidableEq, Repr

/-- A 64-byte block of memory whose state in the caches is not Clean (spec/20_memory.md R272). One that the processor has written holds
what main memory has below it, as eight quadwords: Dirty, or Dirty/Shared if another agent may hold a copy; one without is
Clean/Shared. -/
structure CachedBlock where
  block : BitVec 38
  shared : Bool
  below : Option (List Word)
  deriving DecidableEq, Repr

/-- The next state that a probe asks for, Probe[2:0] (spec/20_memory.md R272, Table 4-22). -/
inductive ProbeNext where
  | nop | clean | cleanShared | transition3 | dirtyShared | invalid | transition1
  deriving DecidableEq, Repr

/-! ### Inputs of the platform -/

/-- The error cases of the table of spec/61_errors.md R915. -/
inductive ErrorCase where
  | icacheParity | dcTagPerrIssue | dcTagPerrRetry | dcEccLoad | dcEccSpecLoad | dcEccStore | dcEccVictim | dcStoreSecond
  | dupTagPerr | bcTagPerr | bcEccIfill | bcEccDfill | bcEccSpecDfill | bcVictim | bcVictimOnMiss | bcVictimOnEcb
  | memEccIfill | memEccDfill | memEccSpecDfill | probeBcErr | bcDblIfill | bcDblDfill | memDblIfill | memDblDfill
  deriving DecidableEq, Repr

/-- An error event: its case, the block address C_ADDR[42:6], the two syndromes, the block status, the memory pipe that saw it, and
the bit of PROBE_BC_ERR's code that the manual leaves open (R900, R912). -/
structure ErrorEvent where
  kind : ErrorCase
  addr : BitVec 37
  syn0 : BitVec 8
  syn1 : BitVec 8
  sts : BitVec 4
  pipe1 : Bool
  codeBit : Bool
  deriving DecidableEq, Repr

/-- What the platform may do between two instructions (R280 (b); log 14). -/
inductive EnvEvent where
  /-- Nothing: the core runs one instruction. -/
  | run
  /-- IRQ_H[5:0] take these levels (spec/60_exceptions.md R851). -/
  | irq (levels : BitVec 6)
  /-- SromData_H takes this level; a transition requests the serial-line interrupt (R854). -/
  | serial (level : Bool)
  /-- Another agent's store of one byte; it takes the block, so a lock on it is lost (R42 (a)). -/
  | remoteWrite (pa : BitVec 43) (value : Byte)
  /-- A probe, or the answer to a fill, that puts a block into another state (R42 (a), spec/20_memory.md R272). -/
  | probe (block : BitVec 38) (next : ProbeNext)
  /-- The chip replaces a block in its data caches on its own, a fill of another block having taken its place (R272). -/
  | victim (block : BitVec 38)
  /-- The system's present answer to ChangeToDirty for a store-conditional (spec/20_memory.md R252). -/
  | stcAnswer (grant : Bool)
  /-- The system withholds, or gives again, its acknowledgements of MB and ChangeToDirty (spec/20_memory.md R244, R254, R280 (b)). -/
  | hold (held : Bool)
  /-- The block address ranges (first, count) of absent memory (R248). -/
  | memoryMap (absent : List (Nat × Nat))
  /-- A hardware error event (R900). -/
  | error (e : ErrorEvent)
  /-- The forced bad-parity Icache fill of HW_INT_CLR[FBTP] has happened (R108). -/
  | badParityFill
  /-- The Icache fills the block of a virtual address on its own, as a demand fill would (R270; a stream-buffer prefetch). -/
  | icacheFill (va : Word)
  /-- The Icache replaces its n-th block. -/
  | icacheDrop (n : Nat)
  /-- ClkFwdRst_H is asserted (spec/70_reset_and_hazards.md R946). -/
  | faultReset
  /-- Reset_L is asserted (R947). -/
  | warmReset
  deriving DecidableEq, Repr

/-- A reference to I/O space, handed to the platform exactly once and in program order (spec/20_memory.md R221, R230): its 44-bit
address, its size in bytes, and the data of a write. -/
inductive IoRef where
  | read (pa : BitVec 44) (bytes : Nat)
  | write (pa : BitVec 44) (bytes : Nat) (data : Word)
  deriving DecidableEq, Repr

/-! ### The state -/

/-- The machine state. -/
structure State where
  -- architectural registers (spec/10_state.md)
  intRegs : Vector Word 31
  shadow : Vector Word 8
  fpRegs : Vector Word 31
  pc : Word
  palMode : Bool
  fpcr : Word
  lockFlag : Bool
  lockBlock : BitVec 38
  intrFlag : Bool
  mem : Memory
  -- Ebox and Ibox registers (spec/11_ipr_ebox_ibox.md)
  cc : Word
  ccEna : Bool
  va : Word
  vaCtl : Word
  itbTag : BitVec 35
  itbPte : Word
  itb : List TbEntry
  itbPtr : BitVec 7
  itbInit : Bool
  pmpc : Word
  excAddr : Word
  excSum : ExcSum
  ierCm : Word
  sirr : Word
  slReq : Bool
  crReq : Bool
  pc0Req : Bool
  pc1Req : Bool
  mchkDReq : Bool
  mchkIReq : Bool
  fbtp : Bool
  palBase : Word
  iCtl : Word
  bistFail : Bool
  iStat : Word
  icFlush : Bool
  icFlushAsm : Bool
  sleepArmed : Bool
  asleep : Bool
  pctx : Word
  pctr : Pctr
  pmStopped : Bool
  -- Mbox and Cbox registers (spec/12_ipr_mbox_cbox.md)
  dtbTag0 : BitVec 35
  dtbTag1 : BitVec 35
  dtbPte0 : Word
  dtbPte1 : Word
  dtb0 : List DtbEntry
  dtb1 : List DtbEntry
  dtbPtr : BitVec 7
  dtbAltMode : BitVec 2
  dtbAsn0 : BitVec 8
  dtbAsn1 : BitVec 8
  mmStat : Word
  mCtl : Word
  dcCtl : Word
  dcStat : Word
  cData : BitVec 6
  writeMany : BitVec 36
  writeOnce : WriteOnce
  errorReg : BitVec 66
  -- the Icache (R49 (a))
  icache : List IcacheBlock
  -- the blocks of the data caches that are not Clean (spec/20_memory.md R252, R272)
  cached : List CachedBlock
  -- inputs of the platform
  irqPins : BitVec 6
  slRcv : Bool
  stcGrant : Bool
  ackHeld : Bool
  memMap : List (Nat × Nat)
  srom : Option SromImage
  -- the model's own fields
  free : Nat
  env : List EnvEvent
  ioTrace : List IoRef
  viaJump : Bool
  trap : Option Entry
  tagErr : Bool
  waiting : Bool
  lockWatch : LockWatch
  prefetches : List Prefetch
  blocks : List FetchBlock
  deriving DecidableEq, Repr

/-- No lock has been taken away, and no prefetch has touched its block. -/
def LockWatch.idle : LockWatch := { age := 0, stolen := false, prefetched := false }

/-- A TB entry that is not valid. -/
def TbEntry.empty : TbEntry :=
  { valid := false, tag := 0, asn := 0, asm := false, gh := 0, pfn := 0, re := 0 }

/-- A DTB entry that is not valid. -/
def DtbEntry.empty : DtbEntry :=
  { toTbEntry := TbEntry.empty, we := 0, fOnRead := false, fOnWrite := false }

/-- The state right after power-up reset (spec/10_state.md R53). The values the spec states: pc = 0x780 in PALmode, no lock,
PAL_BASE = 0, I_CTL[IC_EN] = 3, PCTX[FPE] = 1, DC_CTL[SET_EN] = 3, the low three bits of VA_CTL, the DTB holding registers,
DTB_ASN, M_CTL and WRITE_MANY zero, TB pointers zero. Every other register is X there and zero here (log 1); memory lists nothing
(log 2); no SROM image is attached, so the Icache is empty (log 15; `State.powerUp` attaches one); the platform's inputs are idle
(log 3). -/
def State.reset : State :=
  { intRegs := Vector.replicate 31 0
    shadow := Vector.replicate 8 0
    fpRegs := Vector.replicate 31 0
    pc := 0x780
    palMode := true
    fpcr := 0
    lockFlag := false
    lockBlock := 0
    intrFlag := false
    mem := { cells := [] }
    cc := 0
    ccEna := false
    va := 0
    vaCtl := 0
    itbTag := 0
    itbPte := 0
    itb := List.replicate 128 TbEntry.empty
    itbPtr := 0
    itbInit := false
    pmpc := 0
    excAddr := 0
    excSum :=
      { setIov := false, setIne := false, setUnf := false, setOvf := false, setDze := false, setInv := false, pcOvfl := false,
        badIva := false, reg := 0, int := false, iov := false, ine := false, unf := false, fov := false, dze := false,
        inv := false, swc := false }
    ierCm := 0
    sirr := 0
    slReq := false
    crReq := false
    pc0Req := false
    pc1Req := false
    mchkDReq := false
    mchkIReq := false
    fbtp := false
    palBase := 0
    iCtl := 0x6
    bistFail := false
    iStat := 0
    icFlush := false
    icFlushAsm := false
    sleepArmed := false
    asleep := false
    pctx := 0x4
    pctr :=
      { pctr0 := 0, pmStalled := false, pmKilledBm := false, pctr1 := 0, sl0 := false, sl1 := 0, val := false, tak := false }
    pmStopped := false
    dtbTag0 := 0
    dtbTag1 := 0
    dtbPte0 := 0
    dtbPte1 := 0
    dtb0 := List.replicate 128 DtbEntry.empty
    dtb1 := List.replicate 128 DtbEntry.empty
    dtbPtr := 0
    dtbAltMode := 0
    dtbAsn0 := 0
    dtbAsn1 := 0
    mmStat := 0
    mCtl := 0
    dcCtl := 0x3
    dcStat := 0
    cData := 0
    writeMany := 0
    writeOnce :=
      { io32Byte := false, sysbusMbEnable := false, enableStcCommand := false, bcCleanVictim := false, bcRdvictim := false,
        dupTagEnable := false, prbTagOnly := false, specReadEnable := false, enableProbeCheck := false, skewedFillMode := false }
    errorReg := 0
    icache := []
    cached := []
    irqPins := 0
    slRcv := false
    stcGrant := true
    ackHeld := false
    memMap := []
    srom := none
    free := 0
    env := []
    ioTrace := []
    viaJump := false
    trap := none
    tagErr := false
    waiting := false
    lockWatch := LockWatch.idle
    prefetches := []
    blocks := [] }

end Sys2Proof.Machine
end

