-- ==== Sys2Proof/Machine/Memory.lean ====
section
/-! DEFINITION. Physical memory as a canonical list of bytes (spec/20_memory.md R220, R221, R223). -/

namespace Sys2Proof.Machine

/-- What a byte of memory that nothing has written reads as. DESIGN CHOICE, unsafe (log 2): the spec gives memory no reset
contents. -/
def unlistedByte : Byte := 0

def readCells : List Host.Cell → Nat → Byte
  | [], _ => unlistedByte
  | (b, v) :: rest, a => if b = a then v else readCells rest a

/-- Write one byte into a canonical list: the address keeps its place, and a byte equal to what an unlisted address reads as is
not listed. -/
def writeCells : List Host.Cell → Nat → Byte → List Host.Cell
  | [], a, v => if v = unlistedByte then [] else [(a, v)]
  | (b, w) :: rest, a, v =>
    if a < b then (if v = unlistedByte then (b, w) :: rest else (a, v) :: (b, w) :: rest)
    else if a = b then (if v = unlistedByte then rest else (a, v) :: rest)
    else (b, w) :: writeCells rest a v

/-- The byte at an address. -/
def Memory.readByte (m : Memory) (a : Nat) : Byte := readCells m.cells a

def Memory.writeByte (m : Memory) (a : Nat) (v : Byte) : Memory := { cells := writeCells m.cells a v }

/-- `n` bytes from `a`, the byte at the lowest address least significant (R223). -/
def Memory.read (m : Memory) (a : Nat) : Nat → Word
  | 0 => 0
  | n + 1 => (m.read (a + 1) n <<< 8) ||| (m.readByte a).setWidth 64

/-- Store the low `n` bytes of `v` from `a` upwards. -/
def Memory.write (m : Memory) (a : Nat) : Nat → Word → Memory
  | 0, _ => m
  | n + 1, v => (m.writeByte a (v.setWidth 8)).write (a + 1) n (v >>> 8)

/-- `n` quadwords from `a` upwards. -/
def Memory.readQuads (m : Memory) (a : Nat) : Nat → List Word
  | 0 => []
  | n + 1 => m.read a 8 :: m.readQuads (a + 8) n

/-- Store quadwords from `a` upwards. -/
def Memory.writeQuads (m : Memory) (a : Nat) : List Word → Memory
  | [] => m
  | v :: l => (m.write a 8 v).writeQuads (a + 8) l

/-- The addresses of a list of cells all lie above `a`. -/
def cellsAbove (a : Nat) (l : List Host.Cell) : Bool := l.all fun c => a < c.1

/-- The canonical form: addresses strictly rising, no listed byte equal to what an unlisted one reads as. -/
def cellsWf : List Host.Cell → Bool
  | [] => true
  | (a, v) :: rest => v != unlistedByte && cellsAbove a rest && cellsWf rest

def Memory.wf (m : Memory) : Bool := cellsWf m.cells

end Sys2Proof.Machine
end

