-- ==== Sys2Proof/Machine/Ops.lean ====
section
/-! DEFINITION. The named operations over registers and the program counter, free values, and taking an exception and returning
from one (spec/10_state.md, spec/60_exceptions.md R833, R840). -/

namespace Sys2Proof.Machine

/-- What a meaning answers. -/
abbrev Out := Host.Outcome State Fault Refusal

/-! ### Free values -/

/-- The next free value, and the state that has drawn it (log 4). -/
def fresh (s : State) : Word × State := (Config.freeQuad s.free, { s with free := s.free + 1 })

/-! ### Registers -/

/-- The PALshadow registers overlay R4 to R7 and R20 to R23 in PALmode with I_CTL[SDE][1] set (R34). -/
def shadowActive (s : State) : Bool := s.palMode && s.iCtl.getLsbD 7

/-- The PALshadow register that lies over an integer register (R34). -/
def shadowSlot (r : Reg) : Option (Fin 8) :=
  match r.toNat with
  | 4 => some 0
  | 5 => some 1
  | 6 => some 2
  | 7 => some 3
  | 20 => some 4
  | 21 => some 5
  | 22 => some 6
  | 23 => some 7
  | _ => none

/-- The PALshadow register that a register number names at present, if any. -/
def activeSlot (s : State) (r : Reg) : Option (Fin 8) := if shadowActive s then shadowSlot r else none

/-- R[r]: R31 reads zero (R31, R34). -/
def readInt (s : State) (r : Reg) : Word :=
  match activeSlot s r with
  | some i => s.shadow[i]
  | none => if h : r.toNat < 31 then s.intRegs[r.toNat] else 0

/-- R[r] <- v: a write to R31 is discarded (R31, R34). -/
def writeInt (s : State) (r : Reg) (v : Word) : State :=
  match activeSlot s r with
  | some i => { s with shadow := s.shadow.set i v }
  | none => if h : r.toNat < 31 then { s with intRegs := s.intRegs.set r.toNat v } else s

/-- F[r]: F31 reads zero (R33). -/
def readFp (s : State) (r : Reg) : Word := if h : r.toNat < 31 then s.fpRegs[r.toNat] else 0

/-- F[r] <- v: a write to F31 is discarded (R33). -/
def writeFp (s : State) (r : Reg) (v : Word) : State :=
  if h : r.toNat < 31 then { s with fpRegs := s.fpRegs.set r.toNat v } else s

/-! ### Program counter and modes -/

/-- `pc <- pc + 4` (R36). -/
def advance (s : State) : State := { s with pc := s.pc + 4 }

/-- The instruction waits for an acknowledgement that the system withholds: it has no effect yet and is run again by the next step
(spec/20_memory.md R244, R254, A43; log 34). -/
def wait (s : State) : State := { s with waiting := true }

/-- IER_CM[CM], the current mode (R39). -/
def currentMode (s : State) : BitVec 2 := s.ierCm.extractLsb' 3 2

/-- PCTX[ASN]. -/
def currentAsn (s : State) : BitVec 8 := s.pctx.extractLsb' 39 8

/-- PCTX[FPE]. -/
def fpEnabled (s : State) : Bool := s.pctx.getLsbD 2

/-- A PC as a register holds it: bits [63:2], with PALmode in bit 0 (R35). -/
def pcWithMode (pc : Word) (pal : Bool) : Word := (pc &&& ~~~3#64) ||| ofBool pal

/-- What a fault or an interrupt saves: the PC of the instruction that has not executed (R833). -/
def faultPc (s : State) : Word := pcWithMode s.pc s.palMode

/-- What a synchronous trap saves: the PC of the next instruction (R833). -/
def trapPc (s : State) : Word := pcWithMode (s.pc + 4) s.palMode

/-! ### EXC_SUM -/

/-- EXC_SUM as HW_MFPR reads it (spec/11_ipr_ebox_ibox.md R112): bits [63:48] copy SET_IOV. -/
def excSumWord (x : ExcSum) : Word :=
  (if x.setIov then 0xFFFF000000000000 else 0) ||| bitAt 47 x.setIov ||| bitAt 46 x.setIne ||| bitAt 45 x.setUnf
    ||| bitAt 44 x.setOvf ||| bitAt 43 x.setDze ||| bitAt 42 x.setInv ||| bitAt 41 x.pcOvfl ||| bitAt 13 x.badIva
    ||| (x.reg.setWidth 64 <<< 8) ||| bitAt 7 x.int ||| bitAt 6 x.iov ||| bitAt 5 x.ine ||| bitAt 4 x.unf ||| bitAt 3 x.fov
    ||| bitAt 2 x.dze ||| bitAt 1 x.inv ||| bitAt 0 x.swc

/-- The EXC_SUM fields of a word. -/
def excSumOf (w : Word) : ExcSum :=
  { setIov := w.getLsbD 47, setIne := w.getLsbD 46, setUnf := w.getLsbD 45, setOvf := w.getLsbD 44, setDze := w.getLsbD 43,
    setInv := w.getLsbD 42, pcOvfl := w.getLsbD 41, badIva := w.getLsbD 13, reg := w.extractLsb' 8 5, int := w.getLsbD 7,
    iov := w.getLsbD 6, ine := w.getLsbD 5, unf := w.getLsbD 4, fov := w.getLsbD 3, dze := w.getLsbD 2, inv := w.getLsbD 1,
    swc := w.getLsbD 0 }

/-! ### Taking an exception, and returning -/

/-- The offset of an entry from PAL_BASE (spec/60_exceptions.md R832). -/
def entryOffset : Entry → Word
  | .dtbmDouble3 => 0x100
  | .dtbmDouble4 => 0x180
  | .fen => 0x200
  | .unalign => 0x280
  | .dtbmSingle => 0x300
  | .dfault => 0x380
  | .opcdec => 0x400
  | .iacv => 0x480
  | .mchk => 0x500
  | .itbMiss => 0x580
  | .arith => 0x600
  | .interrupt => 0x680
  | .mtFpcr => 0x700
  | .reset => 0x780

/-- PAL_BASE[43:15] with the offset of an entry below it (R840). -/
def entryPc (s : State) (e : Entry) : Word := (s.palBase &&& 0x00000FFFFFFF8000) ||| entryOffset e

/-- Exception and interrupt entry (R840): EXC_ADDR takes `saved`, PALmode is set, and the pc goes to the entry. `named` writes the
EXC_SUM fields that R840 names for the event, over free values: the fields it does not name are UNPREDICTABLE (A7). With
`named = none` EXC_SUM is not written (MT_FPCR, R846). Nothing else changes: not IER_CM, PCTX, a general register, the FPCR, the
lock, the interrupt flag or a request latch. The model's own record of the fetch blocks starts anew at the entry (log 36). -/
def takeException (s : State) (e : Entry) (saved : Word) (named : Option (ExcSum → ExcSum)) : State :=
  match named with
  | none =>
    { s with
      excAddr := saved, palMode := true, pc := entryPc s e, viaJump := false, trap := some e, waiting := false,
      blocks := [] }
  | some f =>
    { s with
      excAddr := saved, excSum := f (excSumOf (Config.freeQuad s.free)), free := s.free + 1, palMode := true,
      pc := entryPc s e, viaJump := false, trap := some e, waiting := false, blocks := [] }

/-- OPCDEC, a fault that names no EXC_SUM field (R834). -/
def opcdecTrap (s : State) : State := takeException s .opcdec (faultPc s) (some id)

/-- The return from an exception, and any HW_RET (spec/49_palcode_instr.md R812): bit 0 of the target is the new PALmode. -/
def palReturn (s : State) (target : Word) : State :=
  { s with pc := target &&& ~~~3#64, palMode := target.getLsbD 0, viaJump := true }

/-- Run `k` where the floating-point unit is enabled; otherwise take FEN, with EXC_SUM[REG] as `named` says (R835, R840). -/
def requireFp (s : State) (named : ExcSum → ExcSum) (k : Out) : Out :=
  if fpEnabled s then k else .next (takeException s .fen (faultPc s) (some named))

/-- EXC_SUM[REG] <- r. -/
def withReg (r : Reg) (x : ExcSum) : ExcSum := { x with reg := r }

end Sys2Proof.Machine
end

