-- ==== Sys2Proof/Syntax.lean ====
section
/-! DEFINITION. The instructions: one constructor for each row of spec/opcode_table.json. A constructor's name is the row's
mnemonic in lower case, its qualifiers capitalised (ADDL_V is `addlV`). Every encoded operand field is kept, also the ones
that the instruction does not read (spec/93_implementation_defined.md A4, A26). -/

namespace Sys2Proof

/-- The second operand of an Opr-format instruction: a register, or a literal that is zero-extended (spec/30_encoding.md R333). -/
inductive Operand where
  | reg (r : Reg)
  | lit (v : BitVec 8)
  deriving DecidableEq, Repr

/-- One constructor per row of spec/opcode_table.json. -/
inductive Instr where
  -- CALL_PAL (spec/49_palcode_instr.md R781), with its whole 26-bit function.
  | callPal (fn : BitVec 26)
  -- The reserved opcodes 01 to 07 (R341): the low 26 bits are carried and never read.
  | opc01 (rest : BitVec 26)
  | opc02 (rest : BitVec 26)
  | opc03 (rest : BitVec 26)
  | opc04 (rest : BitVec 26)
  | opc05 (rest : BitVec 26)
  | opc06 (rest : BitVec 26)
  | opc07 (rest : BitVec 26)
  -- Integer loads, stores, LDA, LDAH (spec/40_int_memory.md), Mem format.
  | lda (ra : Reg) (rb : Reg) (disp : BitVec 16)
  | ldah (ra : Reg) (rb : Reg) (disp : BitVec 16)
  | ldbu (ra : Reg) (rb : Reg) (disp : BitVec 16)
  | ldqU (ra : Reg) (rb : Reg) (disp : BitVec 16)
  | ldwu (ra : Reg) (rb : Reg) (disp : BitVec 16)
  | stw (ra : Reg) (rb : Reg) (disp : BitVec 16)
  | stb (ra : Reg) (rb : Reg) (disp : BitVec 16)
  | stqU (ra : Reg) (rb : Reg) (disp : BitVec 16)
  | ldl (ra : Reg) (rb : Reg) (disp : BitVec 16)
  | ldq (ra : Reg) (rb : Reg) (disp : BitVec 16)
  | ldlL (ra : Reg) (rb : Reg) (disp : BitVec 16)
  | ldqL (ra : Reg) (rb : Reg) (disp : BitVec 16)
  | stl (ra : Reg) (rb : Reg) (disp : BitVec 16)
  | stq (ra : Reg) (rb : Reg) (disp : BitVec 16)
  | stlC (ra : Reg) (rb : Reg) (disp : BitVec 16)
  | stqC (ra : Reg) (rb : Reg) (disp : BitVec 16)
  -- Floating loads and stores (spec/45_fp_memory_branch.md), Mem format; `fa` is a floating register.
  | ldf (fa : Reg) (rb : Reg) (disp : BitVec 16)
  | ldg (fa : Reg) (rb : Reg) (disp : BitVec 16)
  | lds (fa : Reg) (rb : Reg) (disp : BitVec 16)
  | ldt (fa : Reg) (rb : Reg) (disp : BitVec 16)
  | stf (fa : Reg) (rb : Reg) (disp : BitVec 16)
  | stg (fa : Reg) (rb : Reg) (disp : BitVec 16)
  | sts (fa : Reg) (rb : Reg) (disp : BitVec 16)
  | stt (fa : Reg) (rb : Reg) (disp : BitVec 16)
  -- Integer branches, BR, BSR (spec/41_int_control.md), Bra format.
  | br (ra : Reg) (disp : BitVec 21)
  | bsr (ra : Reg) (disp : BitVec 21)
  | blbc (ra : Reg) (disp : BitVec 21)
  | beq (ra : Reg) (disp : BitVec 21)
  | blt (ra : Reg) (disp : BitVec 21)
  | ble (ra : Reg) (disp : BitVec 21)
  | blbs (ra : Reg) (disp : BitVec 21)
  | bne (ra : Reg) (disp : BitVec 21)
  | bge (ra : Reg) (disp : BitVec 21)
  | bgt (ra : Reg) (disp : BitVec 21)
  -- Floating branches (spec/45_fp_memory_branch.md), Bra format.
  | fbeq (fa : Reg) (disp : BitVec 21)
  | fblt (fa : Reg) (disp : BitVec 21)
  | fble (fa : Reg) (disp : BitVec 21)
  | fbne (fa : Reg) (disp : BitVec 21)
  | fbge (fa : Reg) (disp : BitVec 21)
  | fbgt (fa : Reg) (disp : BitVec 21)
  -- Jumps (spec/41_int_control.md), Mbr format with the 14-bit hint.
  | jmp (ra : Reg) (rb : Reg) (hint : BitVec 14)
  | jsr (ra : Reg) (rb : Reg) (hint : BitVec 14)
  | ret (ra : Reg) (rb : Reg) (hint : BitVec 14)
  | jsrCoroutine (ra : Reg) (rb : Reg) (hint : BitVec 14)
  -- Integer operates (spec/42 to 44, 48), Opr format: `rb` is a register or an 8-bit literal.
  | addl (ra : Reg) (rb : Operand) (rc : Reg)
  | s4addl (ra : Reg) (rb : Operand) (rc : Reg)
  | subl (ra : Reg) (rb : Operand) (rc : Reg)
  | s4subl (ra : Reg) (rb : Operand) (rc : Reg)
  | cmpbge (ra : Reg) (rb : Operand) (rc : Reg)
  | s8addl (ra : Reg) (rb : Operand) (rc : Reg)
  | s8subl (ra : Reg) (rb : Operand) (rc : Reg)
  | cmpult (ra : Reg) (rb : Operand) (rc : Reg)
  | addq (ra : Reg) (rb : Operand) (rc : Reg)
  | s4addq (ra : Reg) (rb : Operand) (rc : Reg)
  | subq (ra : Reg) (rb : Operand) (rc : Reg)
  | s4subq (ra : Reg) (rb : Operand) (rc : Reg)
  | cmpeq (ra : Reg) (rb : Operand) (rc : Reg)
  | s8addq (ra : Reg) (rb : Operand) (rc : Reg)
  | s8subq (ra : Reg) (rb : Operand) (rc : Reg)
  | cmpule (ra : Reg) (rb : Operand) (rc : Reg)
  | addlV (ra : Reg) (rb : Operand) (rc : Reg)
  | sublV (ra : Reg) (rb : Operand) (rc : Reg)
  | cmplt (ra : Reg) (rb : Operand) (rc : Reg)
  | addqV (ra : Reg) (rb : Operand) (rc : Reg)
  | subqV (ra : Reg) (rb : Operand) (rc : Reg)
  | cmple (ra : Reg) (rb : Operand) (rc : Reg)
  | and (ra : Reg) (rb : Operand) (rc : Reg)
  | bic (ra : Reg) (rb : Operand) (rc : Reg)
  | cmovlbs (ra : Reg) (rb : Operand) (rc : Reg)
  | cmovlbc (ra : Reg) (rb : Operand) (rc : Reg)
  | bis (ra : Reg) (rb : Operand) (rc : Reg)
  | cmoveq (ra : Reg) (rb : Operand) (rc : Reg)
  | cmovne (ra : Reg) (rb : Operand) (rc : Reg)
  | ornot (ra : Reg) (rb : Operand) (rc : Reg)
  | xor (ra : Reg) (rb : Operand) (rc : Reg)
  | cmovlt (ra : Reg) (rb : Operand) (rc : Reg)
  | cmovge (ra : Reg) (rb : Operand) (rc : Reg)
  | eqv (ra : Reg) (rb : Operand) (rc : Reg)
  | amask (ra : Reg) (rb : Operand) (rc : Reg)
  | cmovle (ra : Reg) (rb : Operand) (rc : Reg)
  | cmovgt (ra : Reg) (rb : Operand) (rc : Reg)
  | implver (ra : Reg) (rb : Operand) (rc : Reg)
  | mskbl (ra : Reg) (rb : Operand) (rc : Reg)
  | extbl (ra : Reg) (rb : Operand) (rc : Reg)
  | insbl (ra : Reg) (rb : Operand) (rc : Reg)
  | mskwl (ra : Reg) (rb : Operand) (rc : Reg)
  | extwl (ra : Reg) (rb : Operand) (rc : Reg)
  | inswl (ra : Reg) (rb : Operand) (rc : Reg)
  | mskll (ra : Reg) (rb : Operand) (rc : Reg)
  | extll (ra : Reg) (rb : Operand) (rc : Reg)
  | insll (ra : Reg) (rb : Operand) (rc : Reg)
  | zap (ra : Reg) (rb : Operand) (rc : Reg)
  | zapnot (ra : Reg) (rb : Operand) (rc : Reg)
  | mskql (ra : Reg) (rb : Operand) (rc : Reg)
  | srl (ra : Reg) (rb : Operand) (rc : Reg)
  | extql (ra : Reg) (rb : Operand) (rc : Reg)
  | sll (ra : Reg) (rb : Operand) (rc : Reg)
  | insql (ra : Reg) (rb : Operand) (rc : Reg)
  | sra (ra : Reg) (rb : Operand) (rc : Reg)
  | mskwh (ra : Reg) (rb : Operand) (rc : Reg)
  | inswh (ra : Reg) (rb : Operand) (rc : Reg)
  | extwh (ra : Reg) (rb : Operand) (rc : Reg)
  | msklh (ra : Reg) (rb : Operand) (rc : Reg)
  | inslh (ra : Reg) (rb : Operand) (rc : Reg)
  | extlh (ra : Reg) (rb : Operand) (rc : Reg)
  | mskqh (ra : Reg) (rb : Operand) (rc : Reg)
  | insqh (ra : Reg) (rb : Operand) (rc : Reg)
  | extqh (ra : Reg) (rb : Operand) (rc : Reg)
  | mull (ra : Reg) (rb : Operand) (rc : Reg)
  | mulq (ra : Reg) (rb : Operand) (rc : Reg)
  | umulh (ra : Reg) (rb : Operand) (rc : Reg)
  | mullV (ra : Reg) (rb : Operand) (rc : Reg)
  | mulqV (ra : Reg) (rb : Operand) (rc : Reg)
  | sextb (ra : Reg) (rb : Operand) (rc : Reg)
  | sextw (ra : Reg) (rb : Operand) (rc : Reg)
  | ctpop (ra : Reg) (rb : Operand) (rc : Reg)
  | perr (ra : Reg) (rb : Operand) (rc : Reg)
  | ctlz (ra : Reg) (rb : Operand) (rc : Reg)
  | cttz (ra : Reg) (rb : Operand) (rc : Reg)
  | unpkbw (ra : Reg) (rb : Operand) (rc : Reg)
  | unpkbl (ra : Reg) (rb : Operand) (rc : Reg)
  | pkwb (ra : Reg) (rb : Operand) (rc : Reg)
  | pklb (ra : Reg) (rb : Operand) (rc : Reg)
  | minsb8 (ra : Reg) (rb : Operand) (rc : Reg)
  | minsw4 (ra : Reg) (rb : Operand) (rc : Reg)
  | minub8 (ra : Reg) (rb : Operand) (rc : Reg)
  | minuw4 (ra : Reg) (rb : Operand) (rc : Reg)
  | maxub8 (ra : Reg) (rb : Operand) (rc : Reg)
  | maxuw4 (ra : Reg) (rb : Operand) (rc : Reg)
  | maxsb8 (ra : Reg) (rb : Operand) (rc : Reg)
  | maxsw4 (ra : Reg) (rb : Operand) (rc : Reg)
  -- Miscellaneous instructions (spec/47_misc.md), Mfc format.
  | trapb (ra : Reg) (rb : Reg)
  | excb (ra : Reg) (rb : Reg)
  | mb (ra : Reg) (rb : Reg)
  | wmb (ra : Reg) (rb : Reg)
  | fetch (ra : Reg) (rb : Reg)
  | fetchM (ra : Reg) (rb : Reg)
  | rpcc (ra : Reg) (rb : Reg)
  | rc (ra : Reg) (rb : Reg)
  | ecb (ra : Reg) (rb : Reg)
  | rs (ra : Reg) (rb : Reg)
  | wh64 (ra : Reg) (rb : Reg)
  -- Integer to floating register moves (R644 to R646): `ra` integer, `fb` unread, `fc` floating.
  | itofs (ra : Reg) (fb : Reg) (fc : Reg)
  | itoff (ra : Reg) (fb : Reg) (fc : Reg)
  | itoft (ra : Reg) (fb : Reg) (fc : Reg)
  -- Floating to integer register moves (R647, R648): `fa` floating, `fb` unread, `rc` integer.
  | ftoit (fa : Reg) (fb : Reg) (rc : Reg)
  | ftois (fa : Reg) (fb : Reg) (rc : Reg)
  -- Floating operates (spec/46_fp_operate.md), F-P format; two-operand forms keep the unread `fa`.
  | sqrtfC (fa : Reg) (fb : Reg) (fc : Reg)
  | sqrtsC (fa : Reg) (fb : Reg) (fc : Reg)
  | sqrtgC (fa : Reg) (fb : Reg) (fc : Reg)
  | sqrttC (fa : Reg) (fb : Reg) (fc : Reg)
  | sqrtsM (fa : Reg) (fb : Reg) (fc : Reg)
  | sqrttM (fa : Reg) (fb : Reg) (fc : Reg)
  | sqrtf (fa : Reg) (fb : Reg) (fc : Reg)
  | sqrts (fa : Reg) (fb : Reg) (fc : Reg)
  | sqrtg (fa : Reg) (fb : Reg) (fc : Reg)
  | sqrtt (fa : Reg) (fb : Reg) (fc : Reg)
  | sqrtsD (fa : Reg) (fb : Reg) (fc : Reg)
  | sqrttD (fa : Reg) (fb : Reg) (fc : Reg)
  | sqrtfUc (fa : Reg) (fb : Reg) (fc : Reg)
  | sqrtsUc (fa : Reg) (fb : Reg) (fc : Reg)
  | sqrtgUc (fa : Reg) (fb : Reg) (fc : Reg)
  | sqrttUc (fa : Reg) (fb : Reg) (fc : Reg)
  | sqrtsUm (fa : Reg) (fb : Reg) (fc : Reg)
  | sqrttUm (fa : Reg) (fb : Reg) (fc : Reg)
  | sqrtfU (fa : Reg) (fb : Reg) (fc : Reg)
  | sqrtsU (fa : Reg) (fb : Reg) (fc : Reg)
  | sqrtgU (fa : Reg) (fb : Reg) (fc : Reg)
  | sqrttU (fa : Reg) (fb : Reg) (fc : Reg)
  | sqrtsUd (fa : Reg) (fb : Reg) (fc : Reg)
  | sqrttUd (fa : Reg) (fb : Reg) (fc : Reg)
  | sqrtfSc (fa : Reg) (fb : Reg) (fc : Reg)
  | sqrtgSc (fa : Reg) (fb : Reg) (fc : Reg)
  | sqrtfS (fa : Reg) (fb : Reg) (fc : Reg)
  | sqrtgS (fa : Reg) (fb : Reg) (fc : Reg)
  | sqrtfSuc (fa : Reg) (fb : Reg) (fc : Reg)
  | sqrtsSuc (fa : Reg) (fb : Reg) (fc : Reg)
  | sqrtgSuc (fa : Reg) (fb : Reg) (fc : Reg)
  | sqrttSuc (fa : Reg) (fb : Reg) (fc : Reg)
  | sqrtsSum (fa : Reg) (fb : Reg) (fc : Reg)
  | sqrttSum (fa : Reg) (fb : Reg) (fc : Reg)
  | sqrtfSu (fa : Reg) (fb : Reg) (fc : Reg)
  | sqrtsSu (fa : Reg) (fb : Reg) (fc : Reg)
  | sqrtgSu (fa : Reg) (fb : Reg) (fc : Reg)
  | sqrttSu (fa : Reg) (fb : Reg) (fc : Reg)
  | sqrtsSud (fa : Reg) (fb : Reg) (fc : Reg)
  | sqrttSud (fa : Reg) (fb : Reg) (fc : Reg)
  | sqrtsSuic (fa : Reg) (fb : Reg) (fc : Reg)
  | sqrttSuic (fa : Reg) (fb : Reg) (fc : Reg)
  | sqrtsSuim (fa : Reg) (fb : Reg) (fc : Reg)
  | sqrttSuim (fa : Reg) (fb : Reg) (fc : Reg)
  | sqrtsSui (fa : Reg) (fb : Reg) (fc : Reg)
  | sqrttSui (fa : Reg) (fb : Reg) (fc : Reg)
  | sqrtsSuid (fa : Reg) (fb : Reg) (fc : Reg)
  | sqrttSuid (fa : Reg) (fb : Reg) (fc : Reg)
  | addfC (fa : Reg) (fb : Reg) (fc : Reg)
  | subfC (fa : Reg) (fb : Reg) (fc : Reg)
  | mulfC (fa : Reg) (fb : Reg) (fc : Reg)
  | divfC (fa : Reg) (fb : Reg) (fc : Reg)
  | cvtdgC (fa : Reg) (fb : Reg) (fc : Reg)
  | addgC (fa : Reg) (fb : Reg) (fc : Reg)
  | subgC (fa : Reg) (fb : Reg) (fc : Reg)
  | mulgC (fa : Reg) (fb : Reg) (fc : Reg)
  | divgC (fa : Reg) (fb : Reg) (fc : Reg)
  | cvtgfC (fa : Reg) (fb : Reg) (fc : Reg)
  | cvtgdC (fa : Reg) (fb : Reg) (fc : Reg)
  | cvtgqC (fa : Reg) (fb : Reg) (fc : Reg)
  | cvtqfC (fa : Reg) (fb : Reg) (fc : Reg)
  | cvtqgC (fa : Reg) (fb : Reg) (fc : Reg)
  | addf (fa : Reg) (fb : Reg) (fc : Reg)
  | subf (fa : Reg) (fb : Reg) (fc : Reg)
  | mulf (fa : Reg) (fb : Reg) (fc : Reg)
  | divf (fa : Reg) (fb : Reg) (fc : Reg)
  | cvtdg (fa : Reg) (fb : Reg) (fc : Reg)
  | addg (fa : Reg) (fb : Reg) (fc : Reg)
  | subg (fa : Reg) (fb : Reg) (fc : Reg)
  | mulg (fa : Reg) (fb : Reg) (fc : Reg)
  | divg (fa : Reg) (fb : Reg) (fc : Reg)
  | cmpgeq (fa : Reg) (fb : Reg) (fc : Reg)
  | cmpglt (fa : Reg) (fb : Reg) (fc : Reg)
  | cmpgle (fa : Reg) (fb : Reg) (fc : Reg)
  | cvtgf (fa : Reg) (fb : Reg) (fc : Reg)
  | cvtgd (fa : Reg) (fb : Reg) (fc : Reg)
  | cvtgq (fa : Reg) (fb : Reg) (fc : Reg)
  | cvtqf (fa : Reg) (fb : Reg) (fc : Reg)
  | cvtqg (fa : Reg) (fb : Reg) (fc : Reg)
  | addfUc (fa : Reg) (fb : Reg) (fc : Reg)
  | subfUc (fa : Reg) (fb : Reg) (fc : Reg)
  | mulfUc (fa : Reg) (fb : Reg) (fc : Reg)
  | divfUc (fa : Reg) (fb : Reg) (fc : Reg)
  | cvtdgUc (fa : Reg) (fb : Reg) (fc : Reg)
  | addgUc (fa : Reg) (fb : Reg) (fc : Reg)
  | subgUc (fa : Reg) (fb : Reg) (fc : Reg)
  | mulgUc (fa : Reg) (fb : Reg) (fc : Reg)
  | divgUc (fa : Reg) (fb : Reg) (fc : Reg)
  | cvtgfUc (fa : Reg) (fb : Reg) (fc : Reg)
  | cvtgdUc (fa : Reg) (fb : Reg) (fc : Reg)
  | cvtgqVc (fa : Reg) (fb : Reg) (fc : Reg)
  | addfU (fa : Reg) (fb : Reg) (fc : Reg)
  | subfU (fa : Reg) (fb : Reg) (fc : Reg)
  | mulfU (fa : Reg) (fb : Reg) (fc : Reg)
  | divfU (fa : Reg) (fb : Reg) (fc : Reg)
  | cvtdgU (fa : Reg) (fb : Reg) (fc : Reg)
  | addgU (fa : Reg) (fb : Reg) (fc : Reg)
  | subgU (fa : Reg) (fb : Reg) (fc : Reg)
  | mulgU (fa : Reg) (fb : Reg) (fc : Reg)
  | divgU (fa : Reg) (fb : Reg) (fc : Reg)
  | cvtgfU (fa : Reg) (fb : Reg) (fc : Reg)
  | cvtgdU (fa : Reg) (fb : Reg) (fc : Reg)
  | cvtgqV (fa : Reg) (fb : Reg) (fc : Reg)
  | addfSc (fa : Reg) (fb : Reg) (fc : Reg)
  | subfSc (fa : Reg) (fb : Reg) (fc : Reg)
  | mulfSc (fa : Reg) (fb : Reg) (fc : Reg)
  | divfSc (fa : Reg) (fb : Reg) (fc : Reg)
  | cvtdgSc (fa : Reg) (fb : Reg) (fc : Reg)
  | addgSc (fa : Reg) (fb : Reg) (fc : Reg)
  | subgSc (fa : Reg) (fb : Reg) (fc : Reg)
  | mulgSc (fa : Reg) (fb : Reg) (fc : Reg)
  | divgSc (fa : Reg) (fb : Reg) (fc : Reg)
  | cvtgfSc (fa : Reg) (fb : Reg) (fc : Reg)
  | cvtgdSc (fa : Reg) (fb : Reg) (fc : Reg)
  | cvtgqSc (fa : Reg) (fb : Reg) (fc : Reg)
  | addfS (fa : Reg) (fb : Reg) (fc : Reg)
  | subfS (fa : Reg) (fb : Reg) (fc : Reg)
  | mulfS (fa : Reg) (fb : Reg) (fc : Reg)
  | divfS (fa : Reg) (fb : Reg) (fc : Reg)
  | cvtdgS (fa : Reg) (fb : Reg) (fc : Reg)
  | addgS (fa : Reg) (fb : Reg) (fc : Reg)
  | subgS (fa : Reg) (fb : Reg) (fc : Reg)
  | mulgS (fa : Reg) (fb : Reg) (fc : Reg)
  | divgS (fa : Reg) (fb : Reg) (fc : Reg)
  | cmpgeqS (fa : Reg) (fb : Reg) (fc : Reg)
  | cmpgltS (fa : Reg) (fb : Reg) (fc : Reg)
  | cmpgleS (fa : Reg) (fb : Reg) (fc : Reg)
  | cvtgfS (fa : Reg) (fb : Reg) (fc : Reg)
  | cvtgdS (fa : Reg) (fb : Reg) (fc : Reg)
  | cvtgqS (fa : Reg) (fb : Reg) (fc : Reg)
  | addfSuc (fa : Reg) (fb : Reg) (fc : Reg)
  | subfSuc (fa : Reg) (fb : Reg) (fc : Reg)
  | mulfSuc (fa : Reg) (fb : Reg) (fc : Reg)
  | divfSuc (fa : Reg) (fb : Reg) (fc : Reg)
  | cvtdgSuc (fa : Reg) (fb : Reg) (fc : Reg)
  | addgSuc (fa : Reg) (fb : Reg) (fc : Reg)
  | subgSuc (fa : Reg) (fb : Reg) (fc : Reg)
  | mulgSuc (fa : Reg) (fb : Reg) (fc : Reg)
  | divgSuc (fa : Reg) (fb : Reg) (fc : Reg)
  | cvtgfSuc (fa : Reg) (fb : Reg) (fc : Reg)
  | cvtgdSuc (fa : Reg) (fb : Reg) (fc : Reg)
  | cvtgqSvc (fa : Reg) (fb : Reg) (fc : Reg)
  | addfSu (fa : Reg) (fb : Reg) (fc : Reg)
  | subfSu (fa : Reg) (fb : Reg) (fc : Reg)
  | mulfSu (fa : Reg) (fb : Reg) (fc : Reg)
  | divfSu (fa : Reg) (fb : Reg) (fc : Reg)
  | cvtdgSu (fa : Reg) (fb : Reg) (fc : Reg)
  | addgSu (fa : Reg) (fb : Reg) (fc : Reg)
  | subgSu (fa : Reg) (fb : Reg) (fc : Reg)
  | mulgSu (fa : Reg) (fb : Reg) (fc : Reg)
  | divgSu (fa : Reg) (fb : Reg) (fc : Reg)
  | cvtgfSu (fa : Reg) (fb : Reg) (fc : Reg)
  | cvtgdSu (fa : Reg) (fb : Reg) (fc : Reg)
  | cvtgqSv (fa : Reg) (fb : Reg) (fc : Reg)
  | addsC (fa : Reg) (fb : Reg) (fc : Reg)
  | subsC (fa : Reg) (fb : Reg) (fc : Reg)
  | mulsC (fa : Reg) (fb : Reg) (fc : Reg)
  | divsC (fa : Reg) (fb : Reg) (fc : Reg)
  | addtC (fa : Reg) (fb : Reg) (fc : Reg)
  | subtC (fa : Reg) (fb : Reg) (fc : Reg)
  | multC (fa : Reg) (fb : Reg) (fc : Reg)
  | divtC (fa : Reg) (fb : Reg) (fc : Reg)
  | cvttsC (fa : Reg) (fb : Reg) (fc : Reg)
  | cvttqC (fa : Reg) (fb : Reg) (fc : Reg)
  | cvtqsC (fa : Reg) (fb : Reg) (fc : Reg)
  | cvtqtC (fa : Reg) (fb : Reg) (fc : Reg)
  | addsM (fa : Reg) (fb : Reg) (fc : Reg)
  | subsM (fa : Reg) (fb : Reg) (fc : Reg)
  | mulsM (fa : Reg) (fb : Reg) (fc : Reg)
  | divsM (fa : Reg) (fb : Reg) (fc : Reg)
  | addtM (fa : Reg) (fb : Reg) (fc : Reg)
  | subtM (fa : Reg) (fb : Reg) (fc : Reg)
  | multM (fa : Reg) (fb : Reg) (fc : Reg)
  | divtM (fa : Reg) (fb : Reg) (fc : Reg)
  | cvttsM (fa : Reg) (fb : Reg) (fc : Reg)
  | cvttqM (fa : Reg) (fb : Reg) (fc : Reg)
  | cvtqsM (fa : Reg) (fb : Reg) (fc : Reg)
  | cvtqtM (fa : Reg) (fb : Reg) (fc : Reg)
  | adds (fa : Reg) (fb : Reg) (fc : Reg)
  | subs (fa : Reg) (fb : Reg) (fc : Reg)
  | muls (fa : Reg) (fb : Reg) (fc : Reg)
  | divs (fa : Reg) (fb : Reg) (fc : Reg)
  | addt (fa : Reg) (fb : Reg) (fc : Reg)
  | subt (fa : Reg) (fb : Reg) (fc : Reg)
  | mult (fa : Reg) (fb : Reg) (fc : Reg)
  | divt (fa : Reg) (fb : Reg) (fc : Reg)
  | cmptun (fa : Reg) (fb : Reg) (fc : Reg)
  | cmpteq (fa : Reg) (fb : Reg) (fc : Reg)
  | cmptlt (fa : Reg) (fb : Reg) (fc : Reg)
  | cmptle (fa : Reg) (fb : Reg) (fc : Reg)
  | cvtts (fa : Reg) (fb : Reg) (fc : Reg)
  | cvttq (fa : Reg) (fb : Reg) (fc : Reg)
  | cvtqs (fa : Reg) (fb : Reg) (fc : Reg)
  | cvtqt (fa : Reg) (fb : Reg) (fc : Reg)
  | addsD (fa : Reg) (fb : Reg) (fc : Reg)
  | subsD (fa : Reg) (fb : Reg) (fc : Reg)
  | mulsD (fa : Reg) (fb : Reg) (fc : Reg)
  | divsD (fa : Reg) (fb : Reg) (fc : Reg)
  | addtD (fa : Reg) (fb : Reg) (fc : Reg)
  | subtD (fa : Reg) (fb : Reg) (fc : Reg)
  | multD (fa : Reg) (fb : Reg) (fc : Reg)
  | divtD (fa : Reg) (fb : Reg) (fc : Reg)
  | cvttsD (fa : Reg) (fb : Reg) (fc : Reg)
  | cvttqD (fa : Reg) (fb : Reg) (fc : Reg)
  | cvtqsD (fa : Reg) (fb : Reg) (fc : Reg)
  | cvtqtD (fa : Reg) (fb : Reg) (fc : Reg)
  | addsUc (fa : Reg) (fb : Reg) (fc : Reg)
  | subsUc (fa : Reg) (fb : Reg) (fc : Reg)
  | mulsUc (fa : Reg) (fb : Reg) (fc : Reg)
  | divsUc (fa : Reg) (fb : Reg) (fc : Reg)
  | addtUc (fa : Reg) (fb : Reg) (fc : Reg)
  | subtUc (fa : Reg) (fb : Reg) (fc : Reg)
  | multUc (fa : Reg) (fb : Reg) (fc : Reg)
  | divtUc (fa : Reg) (fb : Reg) (fc : Reg)
  | cvttsUc (fa : Reg) (fb : Reg) (fc : Reg)
  | cvttqVc (fa : Reg) (fb : Reg) (fc : Reg)
  | addsUm (fa : Reg) (fb : Reg) (fc : Reg)
  | subsUm (fa : Reg) (fb : Reg) (fc : Reg)
  | mulsUm (fa : Reg) (fb : Reg) (fc : Reg)
  | divsUm (fa : Reg) (fb : Reg) (fc : Reg)
  | addtUm (fa : Reg) (fb : Reg) (fc : Reg)
  | subtUm (fa : Reg) (fb : Reg) (fc : Reg)
  | multUm (fa : Reg) (fb : Reg) (fc : Reg)
  | divtUm (fa : Reg) (fb : Reg) (fc : Reg)
  | cvttsUm (fa : Reg) (fb : Reg) (fc : Reg)
  | cvttqVm (fa : Reg) (fb : Reg) (fc : Reg)
  | addsU (fa : Reg) (fb : Reg) (fc : Reg)
  | subsU (fa : Reg) (fb : Reg) (fc : Reg)
  | mulsU (fa : Reg) (fb : Reg) (fc : Reg)
  | divsU (fa : Reg) (fb : Reg) (fc : Reg)
  | addtU (fa : Reg) (fb : Reg) (fc : Reg)
  | subtU (fa : Reg) (fb : Reg) (fc : Reg)
  | multU (fa : Reg) (fb : Reg) (fc : Reg)
  | divtU (fa : Reg) (fb : Reg) (fc : Reg)
  | cvttsU (fa : Reg) (fb : Reg) (fc : Reg)
  | cvttqV (fa : Reg) (fb : Reg) (fc : Reg)
  | addsUd (fa : Reg) (fb : Reg) (fc : Reg)
  | subsUd (fa : Reg) (fb : Reg) (fc : Reg)
  | mulsUd (fa : Reg) (fb : Reg) (fc : Reg)
  | divsUd (fa : Reg) (fb : Reg) (fc : Reg)
  | addtUd (fa : Reg) (fb : Reg) (fc : Reg)
  | subtUd (fa : Reg) (fb : Reg) (fc : Reg)
  | multUd (fa : Reg) (fb : Reg) (fc : Reg)
  | divtUd (fa : Reg) (fb : Reg) (fc : Reg)
  | cvttsUd (fa : Reg) (fb : Reg) (fc : Reg)
  | cvttqVd (fa : Reg) (fb : Reg) (fc : Reg)
  | cvtst (fa : Reg) (fb : Reg) (fc : Reg)
  | addsSuc (fa : Reg) (fb : Reg) (fc : Reg)
  | subsSuc (fa : Reg) (fb : Reg) (fc : Reg)
  | mulsSuc (fa : Reg) (fb : Reg) (fc : Reg)
  | divsSuc (fa : Reg) (fb : Reg) (fc : Reg)
  | addtSuc (fa : Reg) (fb : Reg) (fc : Reg)
  | subtSuc (fa : Reg) (fb : Reg) (fc : Reg)
  | multSuc (fa : Reg) (fb : Reg) (fc : Reg)
  | divtSuc (fa : Reg) (fb : Reg) (fc : Reg)
  | cvttsSuc (fa : Reg) (fb : Reg) (fc : Reg)
  | cvttqSvc (fa : Reg) (fb : Reg) (fc : Reg)
  | addsSum (fa : Reg) (fb : Reg) (fc : Reg)
  | subsSum (fa : Reg) (fb : Reg) (fc : Reg)
  | mulsSum (fa : Reg) (fb : Reg) (fc : Reg)
  | divsSum (fa : Reg) (fb : Reg) (fc : Reg)
  | addtSum (fa : Reg) (fb : Reg) (fc : Reg)
  | subtSum (fa : Reg) (fb : Reg) (fc : Reg)
  | multSum (fa : Reg) (fb : Reg) (fc : Reg)
  | divtSum (fa : Reg) (fb : Reg) (fc : Reg)
  | cvttsSum (fa : Reg) (fb : Reg) (fc : Reg)
  | cvttqSvm (fa : Reg) (fb : Reg) (fc : Reg)
  | addsSu (fa : Reg) (fb : Reg) (fc : Reg)
  | subsSu (fa : Reg) (fb : Reg) (fc : Reg)
  | mulsSu (fa : Reg) (fb : Reg) (fc : Reg)
  | divsSu (fa : Reg) (fb : Reg) (fc : Reg)
  | addtSu (fa : Reg) (fb : Reg) (fc : Reg)
  | subtSu (fa : Reg) (fb : Reg) (fc : Reg)
  | multSu (fa : Reg) (fb : Reg) (fc : Reg)
  | divtSu (fa : Reg) (fb : Reg) (fc : Reg)
  | cmptunSu (fa : Reg) (fb : Reg) (fc : Reg)
  | cmpteqSu (fa : Reg) (fb : Reg) (fc : Reg)
  | cmptltSu (fa : Reg) (fb : Reg) (fc : Reg)
  | cmptleSu (fa : Reg) (fb : Reg) (fc : Reg)
  | cvttsSu (fa : Reg) (fb : Reg) (fc : Reg)
  | cvttqSv (fa : Reg) (fb : Reg) (fc : Reg)
  | addsSud (fa : Reg) (fb : Reg) (fc : Reg)
  | subsSud (fa : Reg) (fb : Reg) (fc : Reg)
  | mulsSud (fa : Reg) (fb : Reg) (fc : Reg)
  | divsSud (fa : Reg) (fb : Reg) (fc : Reg)
  | addtSud (fa : Reg) (fb : Reg) (fc : Reg)
  | subtSud (fa : Reg) (fb : Reg) (fc : Reg)
  | multSud (fa : Reg) (fb : Reg) (fc : Reg)
  | divtSud (fa : Reg) (fb : Reg) (fc : Reg)
  | cvttsSud (fa : Reg) (fb : Reg) (fc : Reg)
  | cvttqSvd (fa : Reg) (fb : Reg) (fc : Reg)
  | cvtstS (fa : Reg) (fb : Reg) (fc : Reg)
  | addsSuic (fa : Reg) (fb : Reg) (fc : Reg)
  | subsSuic (fa : Reg) (fb : Reg) (fc : Reg)
  | mulsSuic (fa : Reg) (fb : Reg) (fc : Reg)
  | divsSuic (fa : Reg) (fb : Reg) (fc : Reg)
  | addtSuic (fa : Reg) (fb : Reg) (fc : Reg)
  | subtSuic (fa : Reg) (fb : Reg) (fc : Reg)
  | multSuic (fa : Reg) (fb : Reg) (fc : Reg)
  | divtSuic (fa : Reg) (fb : Reg) (fc : Reg)
  | cvttsSuic (fa : Reg) (fb : Reg) (fc : Reg)
  | cvttqSvic (fa : Reg) (fb : Reg) (fc : Reg)
  | cvtqsSuic (fa : Reg) (fb : Reg) (fc : Reg)
  | cvtqtSuic (fa : Reg) (fb : Reg) (fc : Reg)
  | addsSuim (fa : Reg) (fb : Reg) (fc : Reg)
  | subsSuim (fa : Reg) (fb : Reg) (fc : Reg)
  | mulsSuim (fa : Reg) (fb : Reg) (fc : Reg)
  | divsSuim (fa : Reg) (fb : Reg) (fc : Reg)
  | addtSuim (fa : Reg) (fb : Reg) (fc : Reg)
  | subtSuim (fa : Reg) (fb : Reg) (fc : Reg)
  | multSuim (fa : Reg) (fb : Reg) (fc : Reg)
  | divtSuim (fa : Reg) (fb : Reg) (fc : Reg)
  | cvttsSuim (fa : Reg) (fb : Reg) (fc : Reg)
  | cvttqSvim (fa : Reg) (fb : Reg) (fc : Reg)
  | cvtqsSuim (fa : Reg) (fb : Reg) (fc : Reg)
  | cvtqtSuim (fa : Reg) (fb : Reg) (fc : Reg)
  | addsSui (fa : Reg) (fb : Reg) (fc : Reg)
  | subsSui (fa : Reg) (fb : Reg) (fc : Reg)
  | mulsSui (fa : Reg) (fb : Reg) (fc : Reg)
  | divsSui (fa : Reg) (fb : Reg) (fc : Reg)
  | addtSui (fa : Reg) (fb : Reg) (fc : Reg)
  | subtSui (fa : Reg) (fb : Reg) (fc : Reg)
  | multSui (fa : Reg) (fb : Reg) (fc : Reg)
  | divtSui (fa : Reg) (fb : Reg) (fc : Reg)
  | cvttsSui (fa : Reg) (fb : Reg) (fc : Reg)
  | cvttqSvi (fa : Reg) (fb : Reg) (fc : Reg)
  | cvtqsSui (fa : Reg) (fb : Reg) (fc : Reg)
  | cvtqtSui (fa : Reg) (fb : Reg) (fc : Reg)
  | addsSuid (fa : Reg) (fb : Reg) (fc : Reg)
  | subsSuid (fa : Reg) (fb : Reg) (fc : Reg)
  | mulsSuid (fa : Reg) (fb : Reg) (fc : Reg)
  | divsSuid (fa : Reg) (fb : Reg) (fc : Reg)
  | addtSuid (fa : Reg) (fb : Reg) (fc : Reg)
  | subtSuid (fa : Reg) (fb : Reg) (fc : Reg)
  | multSuid (fa : Reg) (fb : Reg) (fc : Reg)
  | divtSuid (fa : Reg) (fb : Reg) (fc : Reg)
  | cvttsSuid (fa : Reg) (fb : Reg) (fc : Reg)
  | cvttqSvid (fa : Reg) (fb : Reg) (fc : Reg)
  | cvtqsSuid (fa : Reg) (fb : Reg) (fc : Reg)
  | cvtqtSuid (fa : Reg) (fb : Reg) (fc : Reg)
  | cvtlq (fa : Reg) (fb : Reg) (fc : Reg)
  | cpys (fa : Reg) (fb : Reg) (fc : Reg)
  | cpysn (fa : Reg) (fb : Reg) (fc : Reg)
  | cpyse (fa : Reg) (fb : Reg) (fc : Reg)
  | mtFpcr (fa : Reg) (fb : Reg) (fc : Reg)
  | mfFpcr (fa : Reg) (fb : Reg) (fc : Reg)
  | fcmoveq (fa : Reg) (fb : Reg) (fc : Reg)
  | fcmovne (fa : Reg) (fb : Reg) (fc : Reg)
  | fcmovlt (fa : Reg) (fb : Reg) (fc : Reg)
  | fcmovge (fa : Reg) (fb : Reg) (fc : Reg)
  | fcmovle (fa : Reg) (fb : Reg) (fc : Reg)
  | fcmovgt (fa : Reg) (fb : Reg) (fc : Reg)
  | cvtql (fa : Reg) (fb : Reg) (fc : Reg)
  | cvtqlV (fa : Reg) (fb : Reg) (fc : Reg)
  | cvtqlSv (fa : Reg) (fb : Reg) (fc : Reg)
  -- HW_MFPR (R800).
  | hwMfpr (ra : Reg) (rb : Reg) (index : BitVec 8) (scbd : BitVec 8)
  -- HW_MTPR (R801).
  | hwMtpr (ra : Reg) (rb : Reg) (index : BitVec 8) (scbd : BitVec 8)
  -- HW_LD and HW_ST (R804 to R808).
  | hwLd (ra : Reg) (rb : Reg) (ty : BitVec 3) (len : BitVec 1) (disp : BitVec 12)
  | hwSt (ra : Reg) (rb : Reg) (ty : BitVec 3) (len : BitVec 1) (disp : BitVec 12)
  -- HW_RET (R812).
  | hwRet (ra : Reg) (rb : Reg) (hint : BitVec 2) (stall : BitVec 1) (disp : BitVec 13)
  deriving DecidableEq, Repr

end Sys2Proof
end

