-- ==== Sys2Proof/Machine/Operands.lean ====
section
/-! DEFINITION. The operand forms (spec/30_encoding.md R331 to R333; spec/44_byte_manip.md R520). -/

namespace Sys2Proof.Machine

/-- Rbv: the register, or the zero-extended literal (R333). -/
def operandValue (s : State) : Operand → Word
  | .reg r => readInt s r
  | .lit v => v.setWidth 64

/-- The Mem-format effective address, modulo 2^64 (R331). -/
def effAddr (s : State) (rb : Reg) (disp : BitVec 16) : Word := readInt s rb + disp.signExtend 64

/-- The HW_LD and HW_ST effective address, with a 12-bit displacement (spec/49_palcode_instr.md R805). -/
def hwEffAddr (s : State) (rb : Reg) (disp : BitVec 12) : Word := readInt s rb + disp.signExtend 64

/-- The Bra-format target: the updated PC plus four times the displacement (R332). -/
def branchTarget (s : State) (disp : BitVec 21) : Word := s.pc + 4 + (disp.signExtend 64 <<< 2)

/-- VA_CTL[B_ENDIAN]. -/
def bigEndian (s : State) : Bool := s.vaCtl.getLsbD 0

/-- The byte offset of EXTxx, INSxx and MSKxx: Rbv[2:0], inverted in big-endian mode (R520). -/
def byteOffset (s : State) (rbv : Word) : Nat :=
  ((if bigEndian s then ~~~(rbv.extractLsb' 0 3) else rbv.extractLsb' 0 3) : BitVec 3).toNat

/-- The width of a byte-manipulation or memory datum. -/
inductive DataSize where
  | byte | word | long | quad
  deriving DecidableEq, Repr

/-- Its size in bytes. -/
def bytesIn : DataSize → Nat
  | .byte => 1
  | .word => 2
  | .long => 4
  | .quad => 8

/-- `ones(x)` of R520. -/
def sizeMask (x : DataSize) : Word := onesLow (8 * bytesIn x)

end Sys2Proof.Machine
end

