-- ==== Sys2Proof/Machine/Flags.lean ====
section
/-! DEFINITION. Conditions and the arithmetic trap: integer overflow (spec/42_int_arith.md R440), the FPCR and the floating
exceptional conditions (spec/10_state.md R40; spec/46_fp_operate.md R606; spec/60_exceptions.md R845). The machine has no integer
condition codes (R37). -/

namespace Sys2Proof.Machine

/-! ### Integer overflow -/

/-- An exact result fits a two's-complement field of `w` bits. -/
def fitsSigned (w : Nat) (x : Int) : Bool := (BitVec.ofInt w x).toInt == x

/-- The ARITH entry (R833, R845): a synchronous trap, all of EXC_SUM written. -/
def arithTrap (s : State) (sum : ExcSum) : State := takeException s .arith (trapPc s) (some fun _ => sum)

/-- FPCR[IOV], bit 57. -/
def fpcrIov (s : State) : Bool := s.fpcr.getLsbD 57

/-- EXC_SUM of an integer overflow: INT, IOV, REG, and SET_IOV if FPCR[IOV] was clear (R440, R845). -/
def intOverflowSum (s : State) (rc : Reg) : ExcSum :=
  { excSumOf 0 with setIov := !fpcrIov s, reg := rc, int := true, iov := true }

/-- The end of a `/V` instruction with destination `rc` and exact result `x` in a field of `w` bits: the truncated, sign-extended
result is written first, then an overflow traps (R440, D25). -/
def finishOverflow (s : State) (rc : Reg) (w : Nat) (x : Int) : State :=
  let s1 := writeInt s rc ((BitVec.ofInt w x).signExtend 64)
  if fitsSigned w x then advance s1 else arithTrap s1 (intOverflowSum s rc)

/-! ### The floating-point conditions -/

/-- The conditions an instruction detects; `invForced` marks the denormal-operand INV, which no disable bit suppresses (R608). -/
structure FpConds where
  inv : Bool
  dze : Bool
  ovf : Bool
  unf : Bool
  ine : Bool
  iov : Bool
  invForced : Bool
  deriving DecidableEq, Repr

def noConds : FpConds :=
  { inv := false, dze := false, ovf := false, unf := false, ine := false, iov := false, invForced := false }

/-- The trap qualifiers of an instruction (R605): software completion, underflow or integer-overflow enable, inexact enable; and
whether the FPCR disable bits apply (IEEE instructions). -/
structure TrapQual where
  ieee : Bool
  s : Bool
  u : Bool
  i : Bool
  deriving DecidableEq, Repr

/-- `suppressed(X)` of R606 for a disable bit of the FPCR. -/
def fpDisabled (s : State) (q : TrapQual) (bit : Nat) : Bool := q.ieee && q.s && s.fpcr.getLsbD bit

/-- `report(X)`, as the low bits of EXC_SUM. -/
def reportConds (s : State) (q : TrapQual) (c : FpConds) : FpConds :=
  { inv := c.inv && (c.invForced || !fpDisabled s q 49)
    dze := c.dze && !fpDisabled s q 50
    ovf := c.ovf && !fpDisabled s q 51
    unf := c.unf && q.u && !(fpDisabled s q 61 && fpDisabled s q 60)
    ine := c.ine && q.i && !fpDisabled s q 62
    iov := c.iov && q.u
    invForced := false }

/-- `set(X)`: the condition was detected and its FPCR status bit is clear. -/
def setConds (s : State) (c : FpConds) : FpConds :=
  { inv := c.inv && !s.fpcr.getLsbD 52
    dze := c.dze && !s.fpcr.getLsbD 53
    ovf := c.ovf && !s.fpcr.getLsbD 54
    unf := c.unf && !s.fpcr.getLsbD 55
    ine := c.ine && !s.fpcr.getLsbD 56
    iov := c.iov && !s.fpcr.getLsbD 57
    invForced := false }

/-- Some condition of a record holds. -/
def anyCond (c : FpConds) : Bool := c.inv || c.dze || c.ovf || c.unf || c.ine || c.iov

/-- EXC_SUM of a floating-point trap (R606): INT = 0, SWC = S, REG = Fc. -/
def fpTrapSum (s : State) (q : TrapQual) (fc : Reg) (c : FpConds) : ExcSum :=
  let r := reportConds s q c
  let t := setConds s c
  { setIov := t.iov, setIne := t.ine, setUnf := t.unf, setOvf := t.ovf, setDze := t.dze, setInv := t.inv, pcOvfl := false,
    badIva := false, reg := fc, int := false, iov := r.iov, ine := r.ine, unf := r.unf, fov := r.ovf, dze := r.dze, inv := r.inv,
    swc := q.s }

/-- A trap is taken: some condition is reported, or has a clear status bit (R606). -/
def fpTraps (s : State) (q : TrapQual) (c : FpConds) : Bool := anyCond (reportConds s q c) || anyCond (setConds s c)

/-- What an operation delivers: its result (`none`: UNPREDICTABLE) and the conditions it detects. -/
structure FpResult where
  value : Option Word
  conds : FpConds
  deriving DecidableEq, Repr

/-- F[c] <- the result; an UNPREDICTABLE one is a free value. -/
def writeFpResult (s : State) (fc : Reg) : Option Word → State
  | some v => writeFp s fc v
  | none => writeFp (fresh s).2 fc (fresh s).1

/-- The end of a floating operate: the destination is written, then ARITH is taken if R606 says so (D25). -/
def finishFp (s : State) (q : TrapQual) (fc : Reg) (r : FpResult) : State :=
  if fpTraps s q r.conds then arithTrap (writeFpResult s fc r.value) (fpTrapSum s q fc r.conds)
  else advance (writeFpResult s fc r.value)

/-- A floating operate: FEN first; with Fc = 31 it is removed at decode (R601, R351). -/
def fpOperate (s : State) (q : TrapQual) (fc : Reg) (r : FpResult) : Out :=
  requireFp s (withReg fc) (.next (if fc = 31 then advance s else finishFp s q fc r))

end Sys2Proof.Machine
end

