-- ==== Sys2Proof/Machine/FpArith.lean ====
section
/-! DEFINITION. Exact arithmetic on magnitudes and rounding (spec/46_fp_operate.md R604). A magnitude is a natural number of units of
a power of two, with a mark for a nonzero rest below one unit; a rest arises only in a quotient or a root, which have far more
units than any format has bits. -/

namespace Sys2Proof.Machine

/-- A rounding mode; `nearestAway` is VAX rounding (R604). -/
inductive Rounding where
  | chopped | minus | nearestEven | plus | nearestAway
  deriving DecidableEq, Repr

/-- The number `(-1)^neg * (mant + rest) * 2^exp`, where `rest` is 0, or strictly between 0 and 1 if `sticky`. -/
structure Scaled where
  neg : Bool
  mant : Nat
  exp : Int
  sticky : Bool
  deriving DecidableEq, Repr

/-- A number of exactly `p` significant bits, `(-1)^neg * mant * 2^exp`, and whether it differs from the number it came from. -/
structure Rounded where
  neg : Bool
  mant : Nat
  exp : Int
  inexact : Bool
  deriving DecidableEq, Repr

/-- The number of significant bits of a natural number. -/
def bitLength (n : Nat) : Nat := if n = 0 then 0 else n.log2 + 1

/-- Whether a magnitude with kept units `q` and discarded part `r` of `2 ^ k` (and a rest) is rounded up. -/
def roundsUp (m : Rounding) (neg : Bool) (q r k : Nat) (sticky : Bool) : Bool :=
  let some' := r != 0 || sticky
  let atLeastHalf := k != 0 && decide (2 ^ k ≤ 2 * r)
  let aboveHalf := k != 0 && (decide (2 ^ k < 2 * r) || (decide (2 ^ k ≤ 2 * r) && sticky))
  match m with
  | .chopped => false
  | .minus => neg && some'
  | .plus => !neg && some'
  | .nearestAway => atLeastHalf
  | .nearestEven => aboveHalf || (atLeastHalf && q % 2 == 1)

/-- Round a nonzero number to `p` significant bits, the exponent unbounded (R607 (b)). -/
def roundTo (p : Nat) (m : Rounding) (x : Scaled) : Rounded :=
  let k := bitLength x.mant - p
  let q := x.mant >>> k
  let r := x.mant % 2 ^ k
  let q' := if roundsUp m x.neg q r k x.sticky then q + 1 else q
  let up := p - bitLength x.mant
  if q' = 2 ^ p then { neg := x.neg, mant := 2 ^ (p - 1), exp := x.exp + k + 1, inexact := r != 0 || x.sticky }
  else { neg := x.neg, mant := q' <<< up, exp := x.exp + k - up, inexact := r != 0 || x.sticky }

/-- Round a number to an integer (CVTTQ, CVTGQ). -/
def roundToInt (m : Rounding) (x : Scaled) : Int × Bool :=
  let k := (-x.exp).toNat
  let q := if x.exp < 0 then x.mant >>> k else x.mant <<< x.exp.toNat
  let r := if x.exp < 0 then x.mant % 2 ^ k else 0
  let q' := if roundsUp m x.neg q r k x.sticky then q + 1 else q
  (if x.neg then -(q' : Int) else q', r != 0 || x.sticky)

/-! ### Exact operations on nonzero or zero magnitudes without a rest -/

/-- The signed units of a number at a lower exponent. -/
def unitsAt (x : Scaled) (e : Int) : Int :=
  let n : Int := (x.mant <<< (x.exp - e).toNat : Nat)
  if x.neg then -n else n

/-- The exact sum; the sign of a zero sum is left to the caller. -/
def addExact (x y : Scaled) : Scaled :=
  let e := min x.exp y.exp
  let t := unitsAt x e + unitsAt y e
  { neg := decide (t < 0), mant := t.natAbs, exp := e, sticky := false }

def mulExact (x y : Scaled) : Scaled :=
  { neg := x.neg ^^ y.neg, mant := x.mant * y.mant, exp := x.exp + y.exp, sticky := false }

/-- The quotient with 128 further bits and a rest. -/
def divExact (x y : Scaled) : Scaled :=
  { neg := x.neg ^^ y.neg, mant := (x.mant <<< 128) / y.mant, exp := x.exp - y.exp - 128,
    sticky := (x.mant <<< 128) % y.mant != 0 }

/-- The largest `r` with `r * r ≤ n`, found from bit `i - 1` down to bit 0. -/
def isqrtFrom (n : Nat) : Nat → Nat → Nat
  | 0, r => r
  | i + 1, r => if (r + 2 ^ i) * (r + 2 ^ i) ≤ n then isqrtFrom n i (r + 2 ^ i) else isqrtFrom n i r

/-- The root of a positive number of at most 56 bits, with a rest. -/
def sqrtExact (x : Scaled) : Scaled :=
  let k := if x.exp % 2 = 0 then 128 else 129
  let n := x.mant <<< k
  let r := isqrtFrom n 100 0
  { neg := false, mant := r, exp := (x.exp - k) / 2, sticky := r * r != n }

/-- The number of a signed integer. -/
def scaledOfInt (i : Int) : Scaled := { neg := decide (i < 0), mant := i.natAbs, exp := 0, sticky := false }

/-- `x < y` and `x = y` for exact numbers. -/
def scaledLt (x y : Scaled) : Bool := decide (unitsAt x (min x.exp y.exp) < unitsAt y (min x.exp y.exp))
def scaledEq (x y : Scaled) : Bool := unitsAt x (min x.exp y.exp) == unitsAt y (min x.exp y.exp)

end Sys2Proof.Machine
end

