-- ==== Sys2Proof/Machine/FpFormat.lean ====
section
/-! DEFINITION. The floating register formats (spec/45_fp_memory_branch.md R570; spec/46_fp_operate.md R600). -/

namespace Sys2Proof.Machine

/-- The arithmetic formats. -/
inductive FpFormat where
  | s | t | f | g | d
  deriving DecidableEq, Repr

/-- Significant bits, the leading one included. -/
def fpPrec : FpFormat → Nat
  | .s => 24
  | .t => 53
  | .f => 24
  | .g => 53
  | .d => 56

/-- The exponent of the leading bit of the smallest normal number (R607 (b), R609: 0.5 * 2^-1023 is 2^-1024 in G). -/
def fpMinExp : FpFormat → Int
  | .s => -126
  | .t => -1022
  | .f => -128
  | .g => -1024
  | .d => -128

/-- The exponent of the leading bit of the largest number. -/
def fpMaxExp : FpFormat → Int
  | .s => 127
  | .t => 1023
  | .f => 126
  | .g => 1022
  | .d => 126

/-- What is added to the exponent of the leading bit to give the register's exponent field (S is held in the T layout, F in the
G layout). -/
def fpBias : FpFormat → Int
  | .s => 1023
  | .t => 1023
  | .f => 1025
  | .g => 1025
  | .d => 129

/-- The width of the fraction field in the register. -/
def fpFracBits : FpFormat → Nat
  | .d => 55
  | _ => 52

/-- The exponent field of a register in the T and G layouts. -/
def expField (v : Word) : BitVec 11 := v.extractLsb' 52 11

/-- The fraction field in the T and G layouts. -/
def fracField (v : Word) : BitVec 52 := v.extractLsb' 0 52

/-- The sign of a register image. -/
def fpSign (v : Word) : Bool := v.getLsbD 63

/-- The register image of a rounded number whose exponent the format can hold. -/
def fpPack (m : FpFormat) (x : Rounded) : Word :=
  let e := (x.exp + (fpPrec m : Int) - 1 + fpBias m).toNat
  let frac := (x.mant - 2 ^ (fpPrec m - 1)) <<< (fpFracBits m + 1 - fpPrec m)
  bitAt 63 x.neg ||| BitVec.ofNat 64 (e * 2 ^ fpFracBits m + frac)

/-- The exact number of a register with a nonzero exponent field (leading bit one), in the layout of the format. -/
def fpUnpack (m : FpFormat) (v : Word) : Scaled :=
  let low := v.toNat % 2 ^ 63
  let e : Nat := low / 2 ^ fpFracBits m
  { neg := fpSign v, mant := 2 ^ fpFracBits m + low % 2 ^ fpFracBits m, exp := (e : Int) - fpBias m - (fpFracBits m : Int),
    sticky := false }

/-! ### IEEE operands -/

/-- How an IEEE instruction reads a register. -/
inductive IeeeClass where
  | nan (signaling : Bool)
  | inf
  | zero
  | denormal
  | finite
  deriving DecidableEq, Repr

def ieeeClass (v : Word) : IeeeClass :=
  if expField v = 0x7FF then
    (if fracField v = 0 then .inf else .nan (!v.getLsbD 51))
  else if expField v = 0 then
    (if fracField v = 0 then .zero else .denormal)
  else .finite

/-- A register holds an S image (R600). -/
def isSImage (v : Word) : Bool :=
  v.extractLsb' 0 29 == 0#29 &&
    (expField v == 0 || expField v == 0x7FF || (0x381 ≤ (expField v).toNat && (expField v).toNat ≤ 0x47E))

/-- A zero, infinity or true value with a sign. -/
def signedZero (neg : Bool) : Word := bitAt 63 neg
def signedInf (neg : Bool) : Word := bitAt 63 neg ||| 0x7FF0000000000000

/-- The canonical quiet NaN (R600). -/
def canonicalNaN : Word := 0xFFF8000000000000

/-- True for the compares. -/
def fpTrue : Word := 0x4000000000000000

/-- The largest finite number of a format with a sign (R607 (a)). -/
def signedMax (m : FpFormat) (neg : Bool) : Word :=
  bitAt 63 neg ||| (match m with | .s => 0x47EFFFFFE0000000 | _ => 0x7FEFFFFFFFFFFFFF)

/-- A NaN operand, quieted; for an S destination made an S image (R607 (c), (d)). -/
def quieted (m : FpFormat) (v : Word) : Word :=
  let q := v ||| 0x0008000000000000
  match m with
  | .s => q &&& ~~~(onesLow 29)
  | _ => q

/-! ### VAX operands -/

/-- How a VAX instruction reads a register: true zero, an operand it cannot use (reserved operand or dirty zero, R609), or a number. -/
inductive VaxClass where
  | zero
  | bad
  | finite
  deriving DecidableEq, Repr

def vaxClass (m : FpFormat) (v : Word) : VaxClass :=
  if v = 0 then .zero
  else if (v.toNat % 2 ^ 63) / 2 ^ fpFracBits m = 0 then .bad
  else .finite

/-! ### Memory formats (R570) -/

/-- `mapS`: the 8-bit exponent of an S datum in the register. -/
def mapS (e : BitVec 8) : BitVec 11 :=
  if e = 0xFF then 0x7FF
  else if e = 0 then 0
  else if e.getLsbD 7 then 0b1000#4 ++ e.extractLsb' 0 7 else 0b0111#4 ++ e.extractLsb' 0 7

/-- `mapF`: as `mapS` without the all-ones case. -/
def mapF (e : BitVec 8) : BitVec 11 :=
  if e = 0 then 0
  else if e.getLsbD 7 then 0b1000#4 ++ e.extractLsb' 0 7 else 0b0111#4 ++ e.extractLsb' 0 7

/-- LDS, ITOFS: the register image of an S datum. -/
def imageS (w : Word) : Word :=
  w.extractLsb' 31 1 ++ mapS (w.extractLsb' 23 8) ++ w.extractLsb' 0 23 ++ 0#29

/-- LDF, ITOFF: the register image of an F datum. -/
def imageF (w : Word) : Word :=
  w.extractLsb' 15 1 ++ mapF (w.extractLsb' 7 8) ++ w.extractLsb' 0 7 ++ w.extractLsb' 16 16 ++ 0#29

/-- LDG and STG: the four 16-bit words swapped. -/
def swapG (w : Word) : Word := w.extractLsb' 0 16 ++ w.extractLsb' 16 16 ++ w.extractLsb' 32 16 ++ w.extractLsb' 48 16

/-- STS, FTOIS, CVTLQ: register bits [63:62] and [58:29]. -/
def datumS (v : Word) : BitVec 32 := v.extractLsb' 62 2 ++ v.extractLsb' 29 30

/-- STF: the F datum of a register. -/
def datumF (v : Word) : BitVec 32 :=
  v.extractLsb' 29 16 ++ v.extractLsb' 63 1 ++ v.extractLsb' 62 1 ++ v.extractLsb' 52 7 ++ v.extractLsb' 45 7

end Sys2Proof.Machine
end

