-- ==== Sys2Proof/Machine/FpOps.lean ====
section
/-! DEFINITION. The floating operations: from operands to a result and the conditions detected (spec/46_fp_operate.md sections 1 to 5). -/

namespace Sys2Proof.Machine

/-- A result without conditions. -/
def plainResult (v : Word) : FpResult := { value := some v, conds := noConds }

/-- INV with a stated result. -/
def invalid (v : Word) : FpResult := { value := some v, conds := { noConds with inv := true } }

/-! ### IEEE (R604 to R608) -/

/-- What an IEEE operation takes from the instruction and the FPCR: the rounding mode, and whether denormal operands are replaced by
zeros (S and FPCR[DNZ], R608). -/
structure IeeeCtx where
  mode : Rounding
  dnz : Bool
  deriving DecidableEq, Repr

/-- The rounding field of a function code (R602, R604). -/
inductive RoundField where
  | chopped | minus | normal | dynamic
  deriving DecidableEq, Repr

/-- The rounding mode of an IEEE instruction; `/D` takes it from FPCR[DYN] (R604). -/
def ieeeRounding (s : State) : RoundField → Rounding
  | .chopped => .chopped
  | .minus => .minus
  | .normal => .nearestEven
  | .dynamic =>
    match (s.fpcr.extractLsb' 58 2 : BitVec 2).toNat with
    | 0 => .chopped
    | 1 => .minus
    | 2 => .nearestEven
    | _ => .plus

def ieeeCtx (s : State) (q : TrapQual) (r : RoundField) : IeeeCtx :=
  { mode := ieeeRounding s r, dnz := q.s && s.fpcr.getLsbD 48 }

/-- Round an exact nonzero number to a format and deliver it by R607 (a), (b). -/
def ieeeDeliver (c : IeeeCtx) (m : FpFormat) (x : Scaled) : FpResult :=
  let r := roundTo (fpPrec m) c.mode x
  let e := r.exp + (fpPrec m : Int) - 1
  if fpMaxExp m < e then
    { value := some (match c.mode with
        | .chopped => signedMax m r.neg
        | .minus => if r.neg then signedInf true else signedMax m false
        | .plus => if r.neg then signedMax m true else signedInf false
        | _ => signedInf r.neg)
      conds := { noConds with ovf := true, ine := true } }
  else if e < fpMinExp m then { value := some 0, conds := { noConds with unf := true, ine := true } }
  else { value := some (fpPack m r), conds := { noConds with ine := r.inexact } }

/-- A denormal operand that FPCR[DNZ] does not replace: an INV that nothing masks, the result UNPREDICTABLE (R608). -/
def denormalTrap : FpResult := { value := none, conds := { noConds with inv := true, invForced := true } }

def isDenormal (v : Word) : Bool := ieeeClass v == .denormal

/-- A denormal operand becomes a zero of the same sign (R608). -/
def flushDenormal (v : Word) : Word := if isDenormal v then signedZero (fpSign v) else v

/-- An operand is a signaling NaN. -/
def isSNaN (v : Word) : Bool := ieeeClass v == .nan true

/-- An operand is a NaN. -/
def isNaN (v : Word) : Bool :=
  match ieeeClass v with
  | .nan _ => true
  | _ => false

/-- The NaN result of two operands of which one is a NaN: Fb first, quieted; INV if one is signaling (R607 (c), (d)). -/
def nanResult (m : FpFormat) (a b : Word) : FpResult :=
  { value := some (quieted m (if isNaN b then b else a)), conds := { noConds with inv := isSNaN a || isSNaN b } }

/-- The operand screening of R608 and the NaN rows of R607 before a two-operand instruction's own cases. -/
def screenTwo (c : IeeeCtx) (m : FpFormat) (a b : Word) (k : Word → Word → FpResult) : FpResult :=
  if (isDenormal a || isDenormal b) && !c.dnz then denormalTrap
  else if isNaN a || isNaN b then nanResult m a b
  else k (flushDenormal a) (flushDenormal b)

/-- The same before a one-operand instruction's own cases. -/
def screenOne (c : IeeeCtx) (m : FpFormat) (b : Word) (k : Word → FpResult) : FpResult :=
  if isDenormal b && !c.dnz then denormalTrap
  else if isNaN b then { value := some (quieted m b), conds := { noConds with inv := isSNaN b } }
  else k (flushDenormal b)

/-- An S-format instruction whose operand is no S image delivers an UNPREDICTABLE result (R620, A29); the conditions are those of the
register values. -/
def checkS (m : FpFormat) (ok : Bool) (r : FpResult) : FpResult :=
  match m with
  | .s => if ok then r else { r with value := none }
  | _ => r

/-- The sum of two operands that are no NaN and no denormal. -/
def ieeeSum (c : IeeeCtx) (m : FpFormat) (a b : Word) : FpResult :=
  match ieeeClass a, ieeeClass b with
  | .inf, .inf => if fpSign a = fpSign b then plainResult a else invalid canonicalNaN
  | .inf, _ => plainResult a
  | _, .inf => plainResult b
  | .zero, .zero => plainResult (signedZero (if fpSign a = fpSign b then fpSign a else c.mode == .minus))
  | .zero, _ => ieeeDeliver c m (fpUnpack .t b)
  | _, .zero => ieeeDeliver c m (fpUnpack .t a)
  | _, _ =>
    if (addExact (fpUnpack .t a) (fpUnpack .t b)).mant = 0 then plainResult (signedZero (c.mode == .minus))
    else ieeeDeliver c m (addExact (fpUnpack .t a) (fpUnpack .t b))

/-- The operand with its sign inverted. -/
def negated (v : Word) : Word := v ^^^ 0x8000000000000000

/-- ADDS, ADDT (R620, R621). -/
def ieeeAdd (m : FpFormat) (c : IeeeCtx) (a b : Word) : FpResult :=
  checkS m (isSImage a && isSImage b) (screenTwo c m a b (ieeeSum c m))

/-- SUBS, SUBT (R622, R623); a NaN is propagated with its own sign. -/
def ieeeSub (m : FpFormat) (c : IeeeCtx) (a b : Word) : FpResult :=
  checkS m (isSImage a && isSImage b) (screenTwo c m a b fun x y => ieeeSum c m x (negated y))

/-- MULS, MULT (R624, R625). -/
def ieeeMul (m : FpFormat) (c : IeeeCtx) (a b : Word) : FpResult :=
  checkS m (isSImage a && isSImage b) (screenTwo c m a b fun x y =>
    match ieeeClass x, ieeeClass y with
    | .inf, .zero | .zero, .inf => invalid canonicalNaN
    | .inf, _ | _, .inf => plainResult (signedInf (fpSign x ^^ fpSign y))
    | .zero, _ | _, .zero => plainResult (signedZero (fpSign x ^^ fpSign y))
    | _, _ => ieeeDeliver c m (mulExact (fpUnpack .t x) (fpUnpack .t y)))

/-- DIVS, DIVT (R626, R627). Inf / 0 matches two rows of Table A-11 (R607), `A/0 (A not 0)` and `Inf/A`; the model takes `Inf/A`, an
infinity without DZE (DESIGN CHOICE, log 30). -/
def ieeeDiv (m : FpFormat) (c : IeeeCtx) (a b : Word) : FpResult :=
  checkS m (isSImage a && isSImage b) (screenTwo c m a b fun x y =>
    match ieeeClass x, ieeeClass y with
    | .inf, .inf | .zero, .zero => invalid canonicalNaN
    | .inf, _ => plainResult (signedInf (fpSign x ^^ fpSign y))
    | _, .inf => plainResult (signedZero (fpSign x ^^ fpSign y))
    | .zero, _ => plainResult (signedZero (fpSign x ^^ fpSign y))
    | _, .zero => { value := some (signedInf (fpSign x ^^ fpSign y)), conds := { noConds with dze := true } }
    | _, _ => ieeeDeliver c m (divExact (fpUnpack .t x) (fpUnpack .t y)))

/-- SQRTS, SQRTT (R640, R641). -/
def ieeeSqrt (m : FpFormat) (c : IeeeCtx) (b : Word) : FpResult :=
  checkS m (isSImage b) (screenOne c m b fun y =>
    match ieeeClass y with
    | .zero => plainResult y
    | .inf => if fpSign y then invalid canonicalNaN else plainResult y
    | _ => if fpSign y then invalid canonicalNaN else ieeeDeliver c m (sqrtExact (fpUnpack .t y)))

/-- CVTTS (R634): a T operand rounded to S. -/
def ieeeToS (c : IeeeCtx) (b : Word) : FpResult :=
  screenOne c .s b fun y =>
    match ieeeClass y with
    | .finite => ieeeDeliver c .s (fpUnpack .t y)
    | _ => plainResult y

/-- CVTST (R636): exact; an operand that is no S image delivers an UNPREDICTABLE result. -/
def ieeeToT (c : IeeeCtx) (b : Word) : FpResult :=
  checkS .s (isSImage b) (screenOne c .t b plainResult)

/-- CVTQS, CVTQT (R632, R633). -/
def ieeeOfInt (m : FpFormat) (c : IeeeCtx) (b : Word) : FpResult :=
  if b = 0 then plainResult 0 else ieeeDeliver c m (scaledOfInt b.toInt)

/-- CVTTQ (R635): infinities and NaNs give 0 and INV; an integer out of range is truncated and detects INV and IOV. -/
def ieeeToInt (c : IeeeCtx) (b : Word) : FpResult :=
  if isDenormal b && !c.dnz then denormalTrap
  else
    match ieeeClass (flushDenormal b) with
    | .nan _ | .inf => invalid 0
    | .finite =>
      let r := roundToInt c.mode (fpUnpack .t b)
      let tooBig := !fitsSigned 64 r.1
      { value := some (BitVec.ofInt 64 r.1), conds := { noConds with inv := tooBig, iov := tooBig, ine := r.2 } }
    | _ => plainResult 0

/-- A truth value of a compare. -/
def compareResult (t : Bool) : FpResult := plainResult (if t then fpTrue else 0)

/-- `a < b` and `a = b` on operands that are no NaN and no denormal (+0 = -0). -/
def ieeeKey (v : Word) : Int := if fpSign v then -(v.toNat % 2 ^ 63 : Nat) else (v.toNat % 2 ^ 63 : Nat)

/-- The compares: a NaN operand gives `onNaN`, with INV if it is signaling or the compare is an ordering one (R628 to R631). -/
def ieeeCompare (c : IeeeCtx) (onNaN ordering : Bool) (f : Int → Int → Bool) (a b : Word) : FpResult :=
  if (isDenormal a || isDenormal b) && !c.dnz then denormalTrap
  else if isNaN a || isNaN b then
    { value := some (if onNaN then fpTrue else 0), conds := { noConds with inv := ordering || isSNaN a || isSNaN b } }
  else compareResult (f (ieeeKey (flushDenormal a)) (ieeeKey (flushDenormal b)))

def ieeeUnordered (c : IeeeCtx) (a b : Word) : FpResult := ieeeCompare c true false (fun _ _ => false) a b
def ieeeEqual (c : IeeeCtx) (a b : Word) : FpResult := ieeeCompare c false false (fun x y => x == y) a b
def ieeeLess (c : IeeeCtx) (a b : Word) : FpResult := ieeeCompare c false true (fun x y => decide (x < y)) a b
def ieeeLessEq (c : IeeeCtx) (a b : Word) : FpResult := ieeeCompare c false true (fun x y => decide (x ≤ y)) a b

/-! ### VAX (R609) -/

/-- The rounding mode of a VAX instruction: VAX rounding or chopped (R604). -/
def vaxRounding : RoundField → Rounding
  | .chopped => .chopped
  | _ => .nearestAway

/-- Round an exact number to a VAX format: overflow gives an UNPREDICTABLE result, underflow true zero. -/
def vaxDeliver (mode : Rounding) (m : FpFormat) (x : Scaled) : FpResult :=
  if x.mant = 0 then plainResult 0
  else
    let r := roundTo (fpPrec m) mode x
    let e := r.exp + (fpPrec m : Int) - 1
    if fpMaxExp m < e then { value := none, conds := { noConds with ovf := true } }
    else if e < fpMinExp m then { value := some 0, conds := { noConds with unf := true } }
    else plainResult (fpPack m r)

/-- INV with an UNPREDICTABLE result. -/
def vaxInvalid : FpResult := { value := none, conds := { noConds with inv := true } }

/-- The number of a VAX operand that is usable. -/
def vaxValue (m : FpFormat) (v : Word) : Scaled :=
  if v = 0 then { neg := false, mant := 0, exp := 0, sticky := false } else fpUnpack m v

/-- The operand check before a two-operand instruction. The operand of an F-format instruction whose register holds no F image (R600)
is taken at its G-layout value: R600 gives the image and A29 speaks of S only (DESIGN CHOICE, log 11). -/
def vaxTwo (a b : Word) (k : Scaled → Scaled → FpResult) : FpResult :=
  if vaxClass .g a = .bad ∨ vaxClass .g b = .bad then vaxInvalid else k (vaxValue .g a) (vaxValue .g b)

/-- The operand check before a one-operand instruction, in the operand's layout. -/
def vaxOne (m : FpFormat) (b : Word) (k : Scaled → FpResult) : FpResult :=
  if vaxClass m b = .bad then vaxInvalid else k (vaxValue m b)

/-- ADDF, ADDG (R650, R651). -/
def vaxAdd (m : FpFormat) (mode : Rounding) (a b : Word) : FpResult :=
  vaxTwo a b fun x y => vaxDeliver mode m (addExact x y)

/-- SUBF, SUBG (R652, R653). -/
def vaxSub (m : FpFormat) (mode : Rounding) (a b : Word) : FpResult :=
  vaxTwo a b fun x y => vaxDeliver mode m (addExact x { y with neg := !y.neg })

/-- MULF, MULG (R654, R655). -/
def vaxMul (m : FpFormat) (mode : Rounding) (a b : Word) : FpResult :=
  vaxTwo a b fun x y => vaxDeliver mode m (mulExact x y)

/-- DIVF, DIVG (R656, R657): a zero divisor detects DZE, the result UNPREDICTABLE. -/
def vaxDiv (m : FpFormat) (mode : Rounding) (a b : Word) : FpResult :=
  vaxTwo a b fun x y =>
    if y.mant = 0 then { value := none, conds := { noConds with dze := true } }
    else if x.mant = 0 then plainResult 0
    else vaxDeliver mode m (divExact x y)

/-- SQRTF, SQRTG (R642, R643): a negative operand detects INV. An operand of SQRTF that is no F image: as for `vaxTwo` (log 11). -/
def vaxSqrt (m : FpFormat) (mode : Rounding) (b : Word) : FpResult :=
  vaxOne .g b fun y =>
    if y.mant = 0 then plainResult 0 else if y.neg then vaxInvalid else vaxDeliver mode m (sqrtExact y)

/-- CVTDG, CVTGD, CVTGF (R661 to R663). -/
def vaxConvert (src dst : FpFormat) (mode : Rounding) (b : Word) : FpResult :=
  vaxOne src b fun y => vaxDeliver mode dst y

/-- CVTQF, CVTQG (R665, R666). -/
def vaxOfInt (m : FpFormat) (mode : Rounding) (b : Word) : FpResult := vaxDeliver mode m (scaledOfInt b.toInt)

/-- CVTGQ (R664): out of range detects IOV, the result truncated. -/
def vaxToInt (mode : Rounding) (b : Word) : FpResult :=
  vaxOne .g b fun y =>
    let i := (roundToInt mode y).1
    { value := some (BitVec.ofInt 64 i), conds := { noConds with iov := !fitsSigned 64 i } }

/-- CMPGEQ, CMPGLT, CMPGLE (R658 to R660). -/
def vaxEqual (a b : Word) : FpResult := vaxTwo a b fun x y => compareResult (scaledEq x y)
def vaxLess (a b : Word) : FpResult := vaxTwo a b fun x y => compareResult (scaledLt x y)
def vaxLessEq (a b : Word) : FpResult := vaxTwo a b fun x y => compareResult (scaledLt x y || scaledEq x y)

/-! ### Instructions as shared operations -/

/-- The trap qualifiers of Tables A-5 and A-6 (R605). -/
def ieeeNone : TrapQual := { ieee := true, s := false, u := false, i := false }
def ieeeU : TrapQual := { ieee := true, s := false, u := true, i := false }
def ieeeSu : TrapQual := { ieee := true, s := true, u := true, i := false }
def ieeeSui : TrapQual := { ieee := true, s := true, u := true, i := true }
/-- `/S` alone, of CVTST. -/
def ieeeS : TrapQual := { ieee := true, s := true, u := false, i := false }
def vaxNone : TrapQual := { ieee := false, s := false, u := false, i := false }
def vaxU : TrapQual := { ieee := false, s := false, u := true, i := false }
def vaxS : TrapQual := { ieee := false, s := true, u := false, i := false }
def vaxSu : TrapQual := { ieee := false, s := true, u := true, i := false }

/-- A two-operand IEEE instruction. -/
def ieeeTwoOp (op : IeeeCtx → Word → Word → FpResult) (q : TrapQual) (r : RoundField) (fa fb fc : Reg) (s : State) : Out :=
  fpOperate s q fc (op (ieeeCtx s q r) (readFp s fa) (readFp s fb))

/-- A one-operand IEEE instruction; the source is Fb (R601). -/
def ieeeOneOp (op : IeeeCtx → Word → FpResult) (q : TrapQual) (r : RoundField) (fb fc : Reg) (s : State) : Out :=
  fpOperate s q fc (op (ieeeCtx s q r) (readFp s fb))

/-- A two-operand VAX instruction. -/
def vaxTwoOp (op : Rounding → Word → Word → FpResult) (q : TrapQual) (r : RoundField) (fa fb fc : Reg) (s : State) : Out :=
  fpOperate s q fc (op (vaxRounding r) (readFp s fa) (readFp s fb))

/-- A one-operand VAX instruction. -/
def vaxOneOp (op : Rounding → Word → FpResult) (q : TrapQual) (r : RoundField) (fb fc : Reg) (s : State) : Out :=
  fpOperate s q fc (op (vaxRounding r) (readFp s fb))

/-- An instruction that moves bits: no condition but FEN (R670 to R681). -/
def fpMove (fc : Reg) (v : Word) (s : State) : Out := fpOperate s vaxNone fc (plainResult v)

/-- FCMOVx (R675): the destination keeps its value unless the condition holds. -/
def fpCondMove (cond : Bool) (fb fc : Reg) (s : State) : Out :=
  requireFp s (withReg fc) (.next (advance (if cond then writeFp s fc (readFp s fb) else s)))

/-- The sign and zero tests of floating branches and FCMOVx (R585). -/
def fpIsZero (v : Word) : Bool := v.extractLsb' 0 63 == 0#63

/-- CVTQL (R674): integer bits [31:30] to [63:62], [29:0] to [58:29], the others zero; IOV when the quadword is no longword. -/
def quadToLong (b : Word) : FpResult :=
  { value := some (b.extractLsb' 30 2 ++ 0#3 ++ b.extractLsb' 0 30 ++ 0#29)
    conds := { noConds with iov := b != sextLong b } }

end Sys2Proof.Machine
end

