-- ==== Sys2Proof/Machine/Physical.lean ====
section
/-! DEFINITION. References to physical memory and I/O space (spec/20_memory.md R220 to R232, R248). -/

namespace Sys2Proof.Machine

/-- A 44-bit physical address; bit 43 selects I/O space (R220). -/
abbrev PhysAddr := BitVec 44

def inIoSpace (pa : PhysAddr) : Bool := pa.getLsbD 43

/-- The 64-byte block of an address, PA[43:6]. -/
def blockOf (pa : PhysAddr) : BitVec 38 := pa.extractLsb' 6 38

/-- The block is in a range of nonexistent memory (R248, parameter MEM_MAP). -/
def absentBlock (s : State) (block : BitVec 38) : Bool :=
  s.memMap.any fun r => decide (r.1 ≤ block.toNat) && decide (block.toNat < r.1 + r.2)

def absent (s : State) (pa : PhysAddr) : Bool := absentBlock s (blockOf pa)

/-- WRITE_MANY[INIT_MODE] (spec/12_ipr_mbox_cbox.md R182). -/
def initMode (s : State) : Bool := s.writeMany.getLsbD 1

/-! ### The state of a block in the caches (R252, R272) -/

def cachedBlock (s : State) (block : BitVec 38) : Option CachedBlock := s.cached.find? fun c => c.block == block

/-- Another agent may hold a copy of the block: Clean/Shared or Dirty/Shared. -/
def isShared (s : State) (block : BitVec 38) : Bool := ((cachedBlock s block).map CachedBlock.shared).getD false

/-- What main memory holds below a block that has been written and not written back: Dirty or Dirty/Shared. -/
def writtenOver (s : State) (block : BitVec 38) : Option (List Word) := (cachedBlock s block).bind CachedBlock.below

/-- The records of the other blocks. -/
def otherBlocks (s : State) (block : BitVec 38) : List CachedBlock := s.cached.filter fun c => c.block != block

/-- The contents of the block in main memory. -/
def memoryBelow (s : State) (block : BitVec 38) : List Word :=
  (writtenOver s block).getD (s.mem.readQuads (64 * block.toNat) 8)

/-- The records once the processor has made the block Dirty; in initialisation mode an update sets it to the Clean state
(spec/70_reset_and_hazards.md R953). -/
def dirtied (s : State) (block : BitVec 38) : List CachedBlock :=
  if initMode s then otherBlocks s block
  else { block := block, shared := false, below := some (memoryBelow s block) } :: otherBlocks s block

/-- Main memory, without what the caches hold and have not written back. -/
def mainMemory (s : State) : Memory :=
  s.cached.foldl (fun m c => match c.below with | some l => m.writeQuads (64 * c.block.toNat) l | none => m) s.mem

/-- The Dcache is cleared, and dirty data that it has not written back is lost (spec/70_reset_and_hazards.md R948). -/
def clearDcache (s : State) : State := { s with mem := mainMemory s, cached := [] }

/-- The address inversion of VA_CTL[B_ENDIAN] for a reference of `n` bytes (R223). -/
def endianAddr (s : State) (pa : PhysAddr) (n : Nat) : PhysAddr :=
  if bigEndian s then pa ^^^ (match n with | 1 => 7 | 2 => 6 | 4 => 4 | _ => 0) else pa

/-- PhysRead (R221): `n` bytes, zero-extended. Nonexistent memory reads as ones (R248); an I/O read is handed to the platform, whose
answer is a free value (R230, D4). -/
def physRead (s : State) (pa : PhysAddr) (n : Nat) : Word × State :=
  if inIoSpace pa then
    let s1 := { s with ioTrace := .read pa n :: s.ioTrace }
    if absent s pa then (onesLow (8 * n), s1) else ((fresh s1).1 &&& onesLow (8 * n), (fresh s1).2)
  else if absent s pa then (onesLow (8 * n), s)
  else (s.mem.read pa.toNat n, s)

/-- PhysWrite (R221): the low `n` bytes of `v`; the block is Dirty then (R272). A store to nonexistent memory is dropped (R248); an I/O write is handed to the
platform (R231); memory written in initialisation mode is not to be predicted (A22). -/
def physWrite (s : State) (pa : PhysAddr) (n : Nat) (v : Word) : State :=
  if inIoSpace pa then { s with ioTrace := .write pa n (v &&& onesLow (8 * n)) :: s.ioTrace }
  else if absent s pa then s
  else if initMode s then
    { s with mem := s.mem.write pa.toNat n (Config.freeQuad s.free), cached := dirtied s (blockOf pa), free := s.free + 1 }
  else { s with mem := s.mem.write pa.toNat n v, cached := dirtied s (blockOf pa) }

/-! ### The lock (R250 to R253) -/

def clearLock (s : State) : State := { s with lockFlag := false, lockWatch := LockWatch.idle }

/-- A prefetch of the block stands among the last 80 instructions; though older than a LDx_L, it may issue after it (R255). -/
def recentPrefetch (s : State) (block : BitVec 38) : Bool := s.prefetches.any fun p => p.block == block && decide (p.age ≤ 80)

def setLock (s : State) (pa : PhysAddr) : State :=
  { s with
    lockFlag := true
    lockBlock := blockOf pa
    lockWatch := { LockWatch.idle with prefetched := recentPrefetch s (blockOf pa) } }

/-- Another agent takes a block: its data go to memory if they are dirty, and a lock on it is lost (R42 (a), R253). -/
def loseBlock (s : State) (block : BitVec 38) : State :=
  if s.lockFlag && s.lockBlock == block then
    { s with cached := otherBlocks s block, lockFlag := false, lockWatch := { s.lockWatch with stolen := true } }
  else { s with cached := otherBlocks s block }

/-- A block leaves the caches as a victim: its data are written back; in initialisation mode WrVictimBlk is squashed, and what has not
been written back before is lost (R261, R272, spec/70_reset_and_hazards.md R953). The lock stays (R253). -/
def evictBlock (s : State) (block : BitVec 38) : State :=
  { s with
    cached := otherBlocks s block
    mem := if initMode s then s.mem.writeQuads (64 * block.toNat) ((writtenOver s block).getD []) else s.mem }

/-- The block is locked: no internal agent can evict it (R253 (d)). -/
def isLocked (s : State) (block : BitVec 38) : Bool := s.lockFlag && s.lockBlock == block

/-- A block leaves the caches by the chip's own processing, which spares a locked one. -/
def victimBlock (s : State) (block : BitVec 38) : State := if isLocked s block then s else evictBlock s block

/-! ### The room in the caches (spec/00_scope.md R8; log 37) -/

/-- WRITE_MANY[BC_ENABLE] (R183). -/
def bcacheOn (s : State) : Bool := s.writeMany.getLsbD 0

/-- How many blocks have places of their own: as many as the direct-mapped Bcache of BC_SIZE holds, of which the Dcache is a subset (R183,
R271); without Bcache the blocks of a page, for the Dcache is virtually indexed and PA[12:6] is the part of its index below the page. -/
def placeCount (s : State) : Nat :=
  if bcacheOn s then Config.bcacheBytes (s.writeMany.extractLsb' 2 4) / Config.blockBytes else Config.pageBytes / Config.blockBytes

/-- Two blocks compete for the same places. -/
def compete (s : State) (b c : BitVec 38) : Bool := c.toNat % placeCount s == b.toNat % placeCount s

/-- How many of them have room: one in the direct-mapped Bcache; in the Dcache as many as 64KB have pages, two ways by four places. -/
def roomFor (s : State) : Nat := if bcacheOn s then 1 else Config.dcacheBytes / Config.pageBytes

/-- The records of which one must leave, now that the newest record has come: those that compete with it, where they have no place
beside it. A locked block stays. -/
def victims (s : State) : List CachedBlock :=
  match s.cached with
  | [] => []
  | c :: rest =>
    if (rest.filter fun d => compete s c.block d.block).length < roomFor s then []
    else rest.filter fun d => compete s c.block d.block && !isLocked s d.block

/-- One of the victims, where there are any, leaves the caches; which one of several is a free choice. -/
def makeRoom (s : State) : State :=
  match victims s with
  | [] => s
  | [v] => evictBlock s v.block
  | v :: more =>
    evictBlock { s with free := s.free + 1 } ((v :: more).getD ((Config.freeQuad s.free).toNat % (more.length + 1)) v).block

/-- A probe (Table 4-22, R272). One that takes a dirty block's state away has its data go to memory (log 37). -/
def probeBlock (s : State) (block : BitVec 38) (next : ProbeNext) : State :=
  match next with
  | .nop => s
  | .clean => { s with cached := otherBlocks s block }
  | .cleanShared => { s with cached := { block := block, shared := true, below := none } :: otherBlocks s block }
  | .dirtyShared =>
    { s with cached := { block := block, shared := true, below := some (memoryBelow s block) } :: otherBlocks s block }
  | .transition1 => { s with cached := { block := block, shared := true, below := writtenOver s block } :: otherBlocks s block }
  | .transition3 =>
    if (writtenOver s block).isSome && !isShared s block then loseBlock s block
    else { s with cached := { block := block, shared := true, below := none } :: otherBlocks s block }
  | .invalid => loseBlock s block

/-- The block of a prefetch: a prefetch to I/O space is converted to memory space, PA[42:6] (R232). -/
def prefetchBlock (pa : PhysAddr) : BitVec 38 := (pa.extractLsb' 6 37).setWidth 38

/-- A prefetch is noted, and whether it touches the block of the last LDx_L within 80 instructions of it (R255). -/
def notePrefetch (s : State) (pa : PhysAddr) : State :=
  let b := prefetchBlock pa
  let w := s.lockWatch
  { s with
    prefetches := { block := b, age := 0 } :: s.prefetches.filter (fun p => p.block != b)
    lockWatch := { w with
      prefetched := w.prefetched || ((s.lockFlag || w.stolen) && s.lockBlock == b && decide (w.age ≤ 80)) } }

/-- A store-conditional to the block asks the system nothing: the block is Dirty already (R252), or WRITE_MANY[SET_DIRTY_ENABLE] has a
ChangeToDirty from its state acknowledged internally (R183: bit 0 Clean, bit 1 Clean/Shared, bit 2 Dirty/Shared). -/
def dirtyAckInternal (s : State) (block : BitVec 38) : Bool :=
  match (writtenOver s block).isSome, isShared s block with
  | true, false => true
  | false, false => !s.writeMany.getLsbD 22
  | false, true => !s.writeMany.getLsbD 24
  | true, true => !s.writeMany.getLsbD 25

/-- `platform_grants` of R252. -/
def platformGrants (s : State) (block : BitVec 38) : Bool := dirtyAckInternal s block || s.stcGrant

/-- The case of R255 (A20): the lock on the block was taken away and a prefetch touched the block, so that the result of the
store-conditional is any value. -/
def prefetchErratum (s : State) (pa : PhysAddr) : Bool :=
  s.lockWatch.stolen && s.lockWatch.prefetched && blockOf pa == s.lockBlock && !inIoSpace pa && !absent s pa

/-- The state after that result is drawn. -/
def drawErratum (s : State) (pa : PhysAddr) : State := if prefetchErratum s pa then { s with free := s.free + 1 } else s

/-- Whether a store-conditional to `pa` succeeds (R252, R232, R248); under the erratum of R255 that is a free bit. -/
def condSucceeds (s : State) (pa : PhysAddr) : Bool :=
  inIoSpace pa
    || (if prefetchErratum s pa then (Config.freeQuad s.free).getLsbD 0
        else s.lockFlag && blockOf pa == s.lockBlock && platformGrants s (blockOf pa) && !absent s pa)

/-- The system withholds its answer to the ChangeToDirty that a store-conditional to `pa` needs (R252, R254, R280 (b)): one that
would fail anyway, or whose block is dirty already or acknowledged internally, sends none. -/
def condHeld (s : State) (pa : PhysAddr) : Bool :=
  s.ackHeld && !inIoSpace pa && !absent s pa && !dirtyAckInternal s (blockOf pa)
    && (prefetchErratum s pa || (s.lockFlag && blockOf pa == s.lockBlock))

end Sys2Proof.Machine
end

