-- ==== Sys2Proof/Machine/Translate.lean ====
section
/-! DEFINITION. Address translation and protection (spec/21_translation.md). -/

namespace Sys2Proof.Machine

/-! ### Checks before the lookup -/

/-- The sign-extension check (R301): the address is the sign extension of its low 48 or 43 bits. -/
def signOk (va48 : Bool) (va : Word) : Bool :=
  if va48 then va == (va.setWidth 48).signExtend 64 else va == (va.setWidth 43).signExtend 64

/-- The physical address of an address in an enabled superpage region (R302). `spe` is SPE[2:0]. -/
def superpage (spe : BitVec 3) (va : Word) : Option PhysAddr :=
  if spe.getLsbD 2 && va.extractLsb' 46 2 == 2#2 then some (va.setWidth 44)
  else if spe.getLsbD 1 && va.extractLsb' 41 7 == 0x7E#7 then some ((va.setWidth 41).signExtend 44)
  else if spe.getLsbD 0 && va.extractLsb' 30 18 == 0x3FFFE#18 then some ((va.setWidth 30).setWidth 44)
  else none

/-! ### TB lookup (R304) -/

/-- VA[47:13]. -/
def vpnOf (va : Word) : BitVec 35 := va.extractLsb' 13 35

/-- The virtual page numbers agree in the bits that a granularity hint leaves. -/
def sameGroup (gh : BitVec 2) (t v : BitVec 35) : Bool := t >>> (3 * gh.toNat) == v >>> (3 * gh.toNat)

/-- An entry matches an address under an ASN. -/
def tbHits (e : TbEntry) (asn : BitVec 8) (va : Word) : Bool :=
  e.valid && (e.asm || e.asn == asn) && sameGroup e.gh e.tag (vpnOf va)

/-- The physical address through an entry: the low page-number bits of the group pass through. -/
def tbPhys (e : TbEntry) (va : Word) : PhysAddr :=
  let low : PhysAddr := BitVec.ofNat 44 (2 ^ (13 + 3 * e.gh.toNat) - 1)
  ((e.pfn ++ 0#13 : PhysAddr) &&& ~~~low) ||| (va.setWidth 44 &&& low)

/-- The one element of a list of matches; more than one is not defined (R304, A23). -/
def onlyMatch {α : Type} : List α → Except Fault (Option α)
  | [] => .ok none
  | [e] => .ok (some e)
  | _ => .error .multipleTbMatch

def lookupItb (s : State) (va : Word) : Except Fault (Option TbEntry) :=
  onlyMatch (s.itb.filter fun e => tbHits e (currentAsn s) va)

/-- The DTB lookup: both copies must give the same answer (R162, A12). -/
def lookupDtb (s : State) (va : Word) : Except Fault (Option DtbEntry) :=
  match onlyMatch (s.dtb0.filter fun e => tbHits e.toTbEntry s.dtbAsn0 va),
    onlyMatch (s.dtb1.filter fun e => tbHits e.toTbEntry s.dtbAsn1 va) with
  | .ok a, .ok b => if a = b then .ok a else .error .dtbCopiesDiffer
  | .error f, _ => .error f
  | _, .error f => .error f

/-! ### Dstream translation (R300) -/

/-- A Dstream reference: its effective address, what MM_STAT and EXC_SUM report of it, the mode and the kinds of access it is
checked for, and whether it is a virtual PTE fetch. -/
structure DataRef where
  ea : Word
  opcode : BitVec 6
  reg : Reg
  write : Bool
  checkRead : Bool
  checkWrite : Bool
  mode : BitVec 2
  vpte : Bool

/-- Why a Dstream reference has no physical address. -/
inductive Denied where
  | miss
  | violation (acv fOnRead fOnWrite : Bool)
  | stop (f : Fault)

/-- The permission check of R303; ACV, FOR and FOW are independent (D17). -/
def dtbPermits (e : DtbEntry) (r : DataRef) : Except Denied PhysAddr :=
  let m := r.mode.toNat
  let acv := (r.checkRead && !e.re.getLsbD m) || (r.checkWrite && !e.we.getLsbD m)
  let onRead := r.checkRead && e.fOnRead
  let onWrite := r.checkWrite && e.fOnWrite
  if acv || onRead || onWrite then .error (.violation acv onRead onWrite) else .ok (tbPhys e.toTbEntry r.ea)

/-- Dstream translation: sign check, superpage, DTB lookup, permission check. -/
def translateData (s : State) (r : DataRef) : Except Denied PhysAddr :=
  if signOk (s.vaCtl.getLsbD 1) r.ea then
    match superpage (s.mCtl.extractLsb' 1 3) r.ea with
    | some pa => if r.mode = 0 then .ok pa else .error (.violation true false false)
    | none =>
      match lookupDtb s r.ea with
      | .error f => .error (.stop f)
      | .ok none => .error .miss
      | .ok (some e) => dtbPermits e r
  else .error (.violation true false false)

/-! ### Dstream faults (spec/60_exceptions.md R840) -/

/-- MM_STAT[OPCODE]: HW_LD shows as 3 and HW_ST as 7 (R169). -/
def shownOpcode (op : BitVec 6) : BitVec 6 := if op = 0x1B then 3 else if op = 0x1F then 7 else op

/-- The MM_STAT of a faulting reference (R169). -/
def mmStatOf (r : DataRef) (tagParity acv fOnRead fOnWrite : Bool) : Word :=
  bitAt 10 tagParity ||| ((shownOpcode r.opcode).setWidth 64 <<< 4) ||| bitAt 3 fOnWrite ||| bitAt 2 fOnRead ||| bitAt 1 acv
    ||| bitAt 0 r.write

/-- A Dstream fault: VA and MM_STAT describe the reference, but for a virtual PTE fetch both stay (R840). -/
def dataFault (s : State) (r : DataRef) (e : Entry) (mm : Word) : State :=
  takeException (if r.vpte then s else { s with va := r.ea, mmStat := mm }) e (faultPc s) (some (withReg r.reg))

/-- The entry of a DTB miss (R306): I_CTL[VA_48] selects the double-miss flow. -/
def missEntry (s : State) (r : DataRef) : Entry :=
  if r.vpte then (if s.iCtl.getLsbD 15 then .dtbmDouble4 else .dtbmDouble3) else .dtbmSingle

/-- A Dcache tag parity error that the environment has armed shows while tag checking is on, DC_CTL[DCTAG_PAR_EN]
(spec/61_errors.md R902). -/
def tagParity (s : State) : Bool := s.tagErr && s.dcCtl.getLsbD 6

/-- Make a Dstream reference: continue at its physical address, or take the fault its translation gives. An armed Dcache tag parity
error is seen by the probe that follows the translation (spec/61_errors.md R915, DC_TAG_PERR_ISSUE). -/
def reference (s : State) (r : DataRef) (k : PhysAddr → Out) : Out :=
  match translateData s r with
  | .error .miss => .next (dataFault s r (missEntry s r) (mmStatOf r false false false false))
  | .error (.violation acv fr fw) => .next (dataFault s r .dfault (mmStatOf r false acv fr fw))
  | .error (.stop f) => .fault f
  | .ok pa =>
    if tagParity s then .next (dataFault { s with tagErr := false } r .dfault (mmStatOf r true false false false)) else k pa

/-- The effective address is a multiple of `n`, a power of two (R222). -/
def isAligned (ea : Word) (n : Nat) : Bool := ea.toNat % n == 0

/-- A reference that must be aligned: UNALIGN comes before translation (R222, R838). -/
def alignedReference (s : State) (r : DataRef) (n : Nat) (k : PhysAddr → Out) : Out :=
  if isAligned r.ea n then reference s r k else .next (dataFault s r .unalign (mmStatOf r false false false false))

end Sys2Proof.Machine
end

