-- ==== Sys2Proof/Machine/MemRef.lean ====
section
/-! DEFINITION. Loads and stores as shared operations (spec/40_int_memory.md, 45_fp_memory_branch.md, 49_palcode_instr.md). -/

namespace Sys2Proof.Machine

/-- An ordinary load in the current mode. -/
def loadRef (s : State) (op : BitVec 6) (reg : Reg) (ea : Word) : DataRef :=
  { ea := ea, opcode := op, reg := reg, write := false, checkRead := true, checkWrite := false, mode := currentMode s,
    vpte := false }

/-- An ordinary store in the current mode. -/
def storeRef (s : State) (op : BitVec 6) (reg : Reg) (ea : Word) : DataRef :=
  { ea := ea, opcode := op, reg := reg, write := true, checkRead := false, checkWrite := true, mode := currentMode s,
    vpte := false }

/-- MemRead after translation: the B_ENDIAN inversion, then PhysRead (R221). -/
def dataRead (s : State) (pa : PhysAddr) (n : Nat) : Word × State := physRead s (endianAddr s pa n) n

/-- MemWrite after translation (R221). -/
def dataWrite (s : State) (pa : PhysAddr) (n : Nat) (v : Word) : State := physWrite s (endianAddr s pa n) n v

/-- The part of an integer load after translation. A load to R31 is a prefetch: no access that a program could see, no register,
and the lock stays (R260, R380), but for the erratum of R255. -/
def finishLoad (s : State) (ra : Reg) (n : Nat) (extend : Word → Word) (pa : PhysAddr) : Out :=
  if ra = 31 then .next (advance (notePrefetch s pa))
  else .next (advance (clearLock (writeInt (dataRead s pa n).2 ra (extend (dataRead s pa n).1))))

/-- LDBU, LDWU, LDL, LDQ (R383 to R386). -/
def loadInt (op : BitVec 6) (n : Nat) (extend : Word → Word) (ra rb : Reg) (disp : BitVec 16) (s : State) : Out :=
  alignedReference s (loadRef s op ra (effAddr s rb disp)) n (finishLoad s ra n extend)

/-- The part of a load-locked after translation (R251): the data is read, then the lock is set on its block. -/
def finishLoadLocked (s : State) (ra : Reg) (n : Nat) (extend : Word → Word) (pa : PhysAddr) : Out :=
  .next (advance (setLock (writeInt (dataRead s pa n).2 ra (extend (dataRead s pa n).1)) pa))

/-- LDL_L, LDQ_L (R388, R389). -/
def loadLocked (op : BitVec 6) (n : Nat) (extend : Word → Word) (ra rb : Reg) (disp : BitVec 16) (s : State) : Out :=
  alignedReference s (loadRef s op ra (effAddr s rb disp)) n (finishLoadLocked s ra n extend)

/-- The part of a store after translation; it clears the lock (R253). -/
def finishStore (s : State) (n : Nat) (v : Word) (pa : PhysAddr) : Out :=
  .next (advance (clearLock (dataWrite s pa n v)))

/-- STB, STW, STL, STQ (R390 to R393). -/
def storeInt (op : BitVec 6) (n : Nat) (ra rb : Reg) (disp : BitVec 16) (s : State) : Out :=
  alignedReference s (storeRef s op ra (effAddr s rb disp)) n (finishStore s n (readInt s ra))

/-- A store-conditional to a physical address: the write if it succeeds, then the success flag in Ra (R252). -/
def condStore (s : State) (ra : Reg) (n : Nat) (pa : PhysAddr) : State :=
  let u := drawErratum s pa
  if condSucceeds s pa then writeInt (dataWrite u pa n (readInt u ra)) ra 1 else writeInt u ra 0

/-- A store-conditional waits while the system withholds the answer it needs; then it writes and clears the lock (R252 to R254). -/
def finishStoreCond (s : State) (ra : Reg) (n : Nat) (pa : PhysAddr) : Out :=
  .next (if condHeld s pa then wait s else advance (clearLock (condStore s ra n pa)))

/-- STL_C, STQ_C (R395, R396). -/
def storeCond (op : BitVec 6) (n : Nat) (ra rb : Reg) (disp : BitVec 16) (s : State) : Out :=
  alignedReference s (storeRef s op ra (effAddr s rb disp)) n (finishStoreCond s ra n)

/-- The aligned quadword that holds an address: `ea AND NOT 7`. -/
def quadAddr (pa : PhysAddr) : PhysAddr := pa &&& ~~~7#44

/-- LDQ_U (R387): never UNALIGN; VA on a fault is the unmasked address (D23); with Ra = 31 it is UNOP, which does nothing. -/
def loadUnaligned (ra rb : Reg) (disp : BitVec 16) (s : State) : Out :=
  if ra = 31 then .next (advance s)
  else reference s (loadRef s 0x0B ra (effAddr s rb disp)) fun pa => finishLoad s ra 8 id (quadAddr pa)

/-- STQ_U (R394). -/
def storeUnaligned (ra rb : Reg) (disp : BitVec 16) (s : State) : Out :=
  reference s (storeRef s 0x0F ra (effAddr s rb disp)) fun pa => finishStore s 8 (readInt s ra) (quadAddr pa)

/-! ### Floating loads and stores (R570, R571) -/

/-- A prefetch with modify intent makes its block Dirty, but in the conservative mode of M_CTL[SMC] = 01; in the periodic modes 10 and
11 the branch history, which no state holds, decides (R260, spec/12_ipr_mbox_cbox.md R170; log 37). -/
def prefetchModify (s : State) (pa : PhysAddr) : State :=
  let b := prefetchBlock pa
  let u := notePrefetch s pa
  if absentBlock s b then u
  else
    match (s.mCtl.extractLsb' 4 2).toNat with
    | 0 => { u with cached := dirtied s b }
    | 1 => u
    | _ =>
      if (Config.freeQuad s.free).getLsbD 0 then { u with cached := dirtied s b, free := s.free + 1 }
      else { u with free := s.free + 1 }

/-- The part of a floating load after translation; a load to F31 is a prefetch, that of LDS one with modify intent (R574). -/
def finishLoadFp (s : State) (op : BitVec 6) (fa : Reg) (n : Nat) (image : Word → Word) (pa : PhysAddr) : Out :=
  if fa = 31 then .next (advance (if op = 0x22 then prefetchModify s pa else notePrefetch s pa))
  else .next (advance (clearLock (writeFp (dataRead s pa n).2 fa (image (dataRead s pa n).1))))

def loadFpBody (op : BitVec 6) (n : Nat) (image : Word → Word) (fa rb : Reg) (disp : BitVec 16) (s : State) : Out :=
  alignedReference s (loadRef s op fa (effAddr s rb disp)) n (finishLoadFp s op fa n image)

/-- LDF, LDG, LDS, LDT: a load to F31 raises no FEN (R835, D32). -/
def loadFp (op : BitVec 6) (n : Nat) (image : Word → Word) (fa rb : Reg) (disp : BitVec 16) (s : State) : Out :=
  if fa = 31 then loadFpBody op n image fa rb disp s
  else requireFp s (withReg fa) (loadFpBody op n image fa rb disp s)

/-- STF, STG, STS, STT. -/
def storeFp (op : BitVec 6) (n : Nat) (datum : Word → Word) (fa rb : Reg) (disp : BitVec 16) (s : State) : Out :=
  requireFp s (withReg fa)
    (alignedReference s (storeRef s op fa (effAddr s rb disp)) n (finishStore s n (datum (readFp s fa))))

/-! ### HW_LD and HW_ST (spec/49_palcode_instr.md R805 to R808) -/

/-- A PAL-reserved opcode may execute in PALmode, and in kernel mode with I_CTL[HWE] (R790). -/
def palLegal (s : State) : Bool := s.palMode || (s.iCtl.getLsbD 12 && currentMode s == 0)

/-- The access length of LEN (R805). -/
def hwLength (len : BitVec 1) : Nat := if len = 1 then 8 else 4

/-- The low address bits of a HW_LD or HW_ST are ignored (D20). -/
def hwAlign (pa : PhysAddr) (n : Nat) : PhysAddr := if n = 8 then pa &&& ~~~7#44 else pa &&& ~~~3#44

/-- HW_LD sign-extends a longword (R806). -/
def hwExtend (len : BitVec 1) (v : Word) : Word := if len = 1 then v else sextLong v

/-- The part of a HW_LD after its address: with Ra = 31 it is a prefetch; it does not clear the lock (R805, R806). -/
def finishHwLoad (s : State) (ra : Reg) (len : BitVec 1) (pa : PhysAddr) : State :=
  if ra = 31 then notePrefetch s pa
  else writeInt (dataRead s (hwAlign pa (hwLength len)) (hwLength len)).2 ra
    (hwExtend len (dataRead s (hwAlign pa (hwLength len)) (hwLength len)).1)

/-- HW_LD, the virtual types: mode, write check, virtual PTE fetch. -/
def hwLoadVirtual (s : State) (ra : Reg) (len : BitVec 1) (ea : Word) (mode : BitVec 2) (wrChk vpte : Bool) : Out :=
  reference s
    { ea := ea, opcode := 0x1B, reg := ra, write := false, checkRead := true, checkWrite := wrChk, mode := mode, vpte := vpte }
    fun pa => .next (advance (finishHwLoad s ra len pa))

/-- A physical reference is made at `ea[43:0]`; only a Dcache tag parity error can fault it (R315, D19). -/
def physReference (s : State) (r : DataRef) (k : PhysAddr → Out) : Out :=
  if tagParity s then .next (dataFault { s with tagErr := false } r .dfault (mmStatOf r true false false false))
  else k (r.ea.setWidth 44)

/-- HW_LD, the physical types; Physical/Lock sets the lock, to R31 too (the lock and the prefetch are one reference, so that none is noted
beside it). -/
def hwLoadPhysical (s : State) (ra : Reg) (len : BitVec 1) (ea : Word) (lock : Bool) : Out :=
  physReference s (loadRef s 0x1B ra ea) fun pa =>
    .next (advance
      (if lock then setLock (if ra = 31 then s else finishHwLoad s ra len pa) pa else finishHwLoad s ra len pa))

/-- HW_LD by TYPE (Table 6-3). -/
def hwLoad (s : State) (ra : Reg) (ty : BitVec 3) (len : BitVec 1) (ea : Word) : Out :=
  match ty.toNat with
  | 0 => hwLoadPhysical s ra len ea false
  | 1 => hwLoadPhysical s ra len ea true
  | 2 => hwLoadVirtual s ra len ea 0 false true
  | 4 => hwLoadVirtual s ra len ea (currentMode s) false false
  | 5 => hwLoadVirtual s ra len ea (currentMode s) true false
  | 6 => hwLoadVirtual s ra len ea s.dtbAltMode false false
  | 7 => hwLoadVirtual s ra len ea s.dtbAltMode true false
  | _ => .refused (.unusedAccessType ty)

/-- A HW_ST writes its datum; it does not clear the lock. -/
def finishHwStore (s : State) (ra : Reg) (len : BitVec 1) (pa : PhysAddr) : Out :=
  .next (advance (dataWrite s (hwAlign pa (hwLength len)) (hwLength len) (readInt s ra)))

/-- HW_ST/C returns the success flag and leaves the lock as it is (R808); it waits as a STx_C does. -/
def finishHwStoreCond (s : State) (ra : Reg) (len : BitVec 1) (pa : PhysAddr) : Out :=
  let a := hwAlign pa (hwLength len)
  .next (if condHeld s a then wait s else advance (condStore s ra (hwLength len) a))

def hwStoreVirtual (s : State) (ra : Reg) (len : BitVec 1) (ea : Word) (mode : BitVec 2) : Out :=
  reference s
    { ea := ea, opcode := 0x1F, reg := ra, write := true, checkRead := false, checkWrite := true, mode := mode, vpte := false }
    (finishHwStore s ra len)

/-- HW_ST by TYPE (Table 6-4). -/
def hwStore (s : State) (ra : Reg) (ty : BitVec 3) (len : BitVec 1) (ea : Word) : Out :=
  match ty.toNat with
  | 0 => physReference s (storeRef s 0x1F ra ea) (finishHwStore s ra len)
  | 1 => physReference s (storeRef s 0x1F ra ea) (finishHwStoreCond s ra len)
  | 2 => hwStoreVirtual s ra len ea (currentMode s)
  | 6 => hwStoreVirtual s ra len ea s.dtbAltMode
  | _ => .refused (.unusedAccessType ty)

/-! ### WH64 and ECB (spec/47_misc.md R730, R731) -/

/-- The reference of ECB, translated as a read: the manual does not say (R730; log 37). -/
def evictRef (s : State) (ea : Word) : DataRef :=
  { ea := ea, opcode := 0x18, reg := 31, write := false, checkRead := true, checkWrite := false, mode := currentMode s,
    vpte := false }

/-- What ECB does to the block of a physical address: it leaves the caches (R261); nothing in I/O space (A18). -/
def evictAt (s : State) (pa : PhysAddr) : State := if inIoSpace pa then s else evictBlock s (blockOf pa)

/-- Write free values into the eight quadwords of a block. -/
def scrambleQuads : Nat → PhysAddr → State → State
  | 0, _, s => s
  | n + 1, pa, s =>
    scrambleQuads n (pa + 8) { s with mem := s.mem.write pa.toNat 8 (Config.freeQuad s.free), free := s.free + 1 }

/-- What WH64 does to the block of a physical address: its contents become UNPREDICTABLE where WH64 is enabled
(INVAL_TO_DIRTY_ENABLE[0] = 1, R183); otherwise the block is read with modify intent and keeps them (R261); Dirty it is either way. I/O
space and nonexistent memory: nothing. -/
def writeHint (s : State) (pa : PhysAddr) : State :=
  if inIoSpace pa || absent s pa then s
  else if s.writeMany.getLsbD 18 then scrambleQuads 8 (pa &&& ~~~63#44) { s with cached := dirtied s (blockOf pa) }
  else { s with cached := dirtied s (blockOf pa) }

end Sys2Proof.Machine
end

