-- ==== Sys2Proof/Machine/Conditions.lean ====
section
/-! DEFINITION. The tests of conditional branches and conditional moves (spec/41_int_control.md, 43_int_logical_shift.md R490,
45_fp_memory_branch.md R585), and the control transfers as shared operations (R410). -/

namespace Sys2Proof.Machine

/-! ### Integer tests of a register value -/

def lowBitSet (v : Word) : Bool := v.getLsbD 0
def isZero (v : Word) : Bool := v == 0
def isNegative (v : Word) : Bool := v.getLsbD 63

/-! ### Floating tests of a register image (R585): both zeros count as zero -/

def fpNegative (v : Word) : Bool := fpSign v && !fpIsZero v
def fpPositive (v : Word) : Bool := !fpSign v && !fpIsZero v

/-! ### Transfers -/

/-- The end of a conditional branch. -/
def branchIf (taken : Bool) (disp : BitVec 21) (s : State) : Out :=
  .next (if taken then { s with pc := branchTarget s disp } else advance s)

/-- A floating conditional branch: FEN first; EXC_SUM[REG] is not named for it (R585, R840). -/
def fpBranchIf (test : Word → Bool) (fa : Reg) (disp : BitVec 21) (s : State) : Out :=
  requireFp s id (branchIf (test (readFp s fa)) disp s)

/-- BR and BSR: the link is the updated PC, without the PALmode flag (R410, D24). -/
def branchLink (ra : Reg) (disp : BitVec 21) (s : State) : Out :=
  .next { writeInt s ra (s.pc + 4) with pc := branchTarget s disp }

/-- JMP, JSR, RET, JSR_COROUTINE: the target is read before the link is written (R410). -/
def jumpLink (ra rb : Reg) (s : State) : Out :=
  .next { writeInt s ra (s.pc + 4) with pc := readInt s rb &&& ~~~3#64, viaJump := true }

/-! ### Branch direction, for ProfileMe (spec/60_exceptions.md R878) -/

/-- The direction of a conditional branch, read from its opcode and its register; `none` for any other instruction. -/
def branchDirection (s : State) (w : BitVec 32) : Option Bool :=
  let r : Reg := w.extractLsb' 21 5
  match (w.extractLsb' 26 6).toNat with
  | 0x31 => some (fpIsZero (readFp s r))
  | 0x32 => some (fpNegative (readFp s r))
  | 0x33 => some (!fpPositive (readFp s r))
  | 0x35 => some (!fpIsZero (readFp s r))
  | 0x36 => some (!fpNegative (readFp s r))
  | 0x37 => some (fpPositive (readFp s r))
  | 0x38 => some (!lowBitSet (readInt s r))
  | 0x39 => some (isZero (readInt s r))
  | 0x3A => some (isNegative (readInt s r))
  | 0x3B => some (isNegative (readInt s r) || isZero (readInt s r))
  | 0x3C => some (lowBitSet (readInt s r))
  | 0x3D => some (!isZero (readInt s r))
  | 0x3E => some (!isNegative (readInt s r))
  | 0x3F => some (!isNegative (readInt s r) && !isZero (readInt s r))
  | _ => none

end Sys2Proof.Machine
end

