-- ==== Sys2Proof/Machine/Ipr.lean ====
section
/-! DEFINITION. The internal processor registers: what HW_MFPR reads and HW_MTPR writes (spec/11_ipr_ebox_ibox.md,
spec/12_ipr_mbox_cbox.md; spec/49_palcode_instr.md R800, R801). -/

namespace Sys2Proof.Machine

/-! ### Computed views -/

/-- The virtual PTE address of VA_FORM and IVA_FORM (R89, R102); `none` where both mode bits are set, a combination no figure gives
(A5). -/
def vaFormat (va48 form32 : Bool) (vptb va : Word) : Option Word :=
  match va48, form32 with
  | false, false => some (vptb.extractLsb' 33 31 ++ va.extractLsb' 13 30 ++ 0#3)
  | true, false => some (vptb.extractLsb' 43 21 ++ (va.extractLsb' 47 1).signExtend 5 ++ va.extractLsb' 13 35 ++ 0#3)
  | false, true => some (vptb.extractLsb' 30 34 ++ 0#8 ++ va.extractLsb' 13 19 ++ 0#3)
  | true, true => none

/-- I_CTL as HW_MFPR reads it (R118): [63:48] copy VPTB[47]; CHIP_ID, BIST_FAIL and SL_RCV come from outside the stored fields. -/
def iCtlValue (s : State) : Word :=
  (s.iCtl.setWidth 48).signExtend 64 ||| (Config.chipId.setWidth 64 <<< 24) ||| bitAt 23 s.bistFail ||| bitAt 14 s.slRcv

/-- VA_FORM (R89). -/
def vaForm (s : State) : Option Word := vaFormat (s.vaCtl.getLsbD 1) (s.vaCtl.getLsbD 2) s.vaCtl s.va

/-- IVA_FORM (R102). -/
def ivaForm (s : State) : Option Word := vaFormat (s.iCtl.getLsbD 15) (s.iCtl.getLsbD 16) (iCtlValue s) s.excAddr

/-- ASTm of ISUM (R107, R852). -/
def astPending (s : State) (m : Nat) : Bool :=
  s.pctx.getLsbD (9 + m) && s.pctx.getLsbD (5 + m) && s.ierCm.getLsbD 13 && decide (m ≤ (currentMode s).toNat)

/-- The requests of the sources that share their ISUM position with their enable in IER_CM: pins, serial line, corrected read,
performance counters, software (R107). -/
def interruptRequests (s : State) : Word :=
  (s.irqPins.setWidth 64 <<< 33) ||| bitAt 32 s.slReq ||| bitAt 31 s.crReq ||| bitAt 30 s.pc1Req ||| bitAt 29 s.pc0Req
    ||| (s.sirr &&& 0x1FFFC000)

/-- ISUM (R107): every pending request whose enable is set. -/
def isum (s : State) : Word :=
  (interruptRequests s &&& s.ierCm &&& 0x0000007FFFFFC000) ||| bitAt 3 (astPending s 0) ||| bitAt 4 (astPending s 1)
    ||| bitAt 9 (astPending s 2) ||| bitAt 10 (astPending s 3)

/-! ### Performance counters as a register (R130) -/

/-- Counter 0 and counter 1 count (R870). -/
def pctr0Enabled (s : State) : Bool := s.iCtl.getLsbD 18 && (s.iCtl.getLsbD 0 || s.pctx.getLsbD 1)
def pctr1Enabled (s : State) : Bool := s.iCtl.getLsbD 19 && (s.iCtl.getLsbD 0 || s.pctx.getLsbD 1)

/-- A small free amount: 0 to 4, the counting quirk of R871 and R874. -/
def quirk (w : Word) : BitVec 20 := BitVec.ofNat 20 (w.toNat % 5)

/-- PCTR_CTL as HW_MFPR reads it. A counter that is not enabled may read with an increment (R871, A10); PCTR1 has no defined value in
aggregate mode 01 (A9). -/
def pctrValue (s : State) (w : Word) : Word :=
  let p := s.pctr
  let c0 := if pctr0Enabled s then p.pctr0 else p.pctr0 + quirk w
  let c1 :=
    if !p.sl0 && p.sl1 == 1 then w.extractLsb' 32 20
    else if pctr1Enabled s then p.pctr1 else p.pctr1 + (w.extractLsb' 8 1).setWidth 20
  (if c0.getLsbD 19 then 0xFFFF000000000000 else 0) ||| (c0.setWidth 64 <<< 28) ||| bitAt 27 p.pmStalled
    ||| bitAt 26 p.pmKilledBm ||| (c1.setWidth 64 <<< 6) ||| bitAt 4 p.sl0 ||| (p.sl1.setWidth 64 <<< 2) ||| bitAt 1 p.val
    ||| bitAt 0 p.tak

/-- A counter is within one increment of overflow: 16 for counter 0, 4 for counter 1, above the values that R872 calls legal to write
(spec/71_palcode_restrictions.md R1034; log 33). -/
def nearOverflow0 (c : BitVec 20) : Bool := decide (2 ^ 20 - 16 < c.toNat)
def nearOverflow1 (c : BitVec 20) : Bool := decide (2 ^ 20 - 4 < c.toNat)

/-- A counter that does not count stands near overflow: the state that R1028 refuses. -/
def idleNearOverflow (s : State) : Bool :=
  (!pctr0Enabled s && nearOverflow0 s.pctr.pctr0) || (!pctr1Enabled s && nearOverflow1 s.pctr.pctr1)

/-- A write that took `s` to `t` stops a counter near overflow (R1028). -/
def stopsNearOverflow (s t : State) : Bool :=
  (pctr0Enabled s && !pctr0Enabled t && nearOverflow0 t.pctr.pctr0) || (pctr1Enabled s && !pctr1Enabled t && nearOverflow1 t.pctr.pctr1)

/-- The end of a write of I_CTL or PCTX, which enable the counters. -/
def keepsCounters (s t : State) : Except Fault State := if stopsNearOverflow s t then .error .counterNearOverflow else .ok t

/-- A write of PCTR_CTL: the counters and the selectors; in ProfileMe mode the write is incremented by 0 to 4 (R874). It lets counter
0 count again after a window (R875). A counter that stood at the overflow threshold, counting or not, signals its interrupt (R871;
the threshold is `nearOverflow0` and `nearOverflow1`, log 33). -/
def writePctr (s : State) (v : Word) : State :=
  let sl0 := v.getLsbD 4
  let c0 : BitVec 20 := v.extractLsb' 28 20
  { s with
    pctr := { s.pctr with
      pctr0 := if sl0 then c0 + quirk (Config.freeQuad s.free) else c0
      pctr1 := v.extractLsb' 6 20, sl0 := sl0, sl1 := v.extractLsb' 2 2 }
    pc0Req := s.pc0Req || nearOverflow0 s.pctr.pctr0
    pc1Req := s.pc1Req || nearOverflow1 s.pctr.pctr1
    free := if sl0 then s.free + 1 else s.free
    pmStopped := false }

/-- The end of a write of PCTR_CTL: refused if the counters as written, with the increment of ProfileMe mode, are left near overflow
while disabled (R1028, R1034). -/
def keepsWritten (t : State) : Except Fault State := if idleNearOverflow t then .error .counterNearOverflow else .ok t

/-! ### Reading (R800) -/

/-- A stored or computed register, by index; `none` where the value read is UNPREDICTABLE: a write-only or unassigned index, or a view
without a defined layout (R81 (c), (e); D13, D14). -/
def readableIpr (s : State) (index : BitVec 8) : Option Word :=
  match index.toNat with
  | 0xC0 => some s.cc
  | 0xC2 => some s.va
  | 0xC3 => vaForm s
  | 0x05 => some s.pmpc
  | 0x06 => some s.excAddr
  | 0x07 => ivaForm s
  | 0x08 => some s.ierCm
  | 0x09 => some s.ierCm
  | 0x0A => some s.ierCm
  | 0x0B => some s.ierCm
  | 0x0C => some s.sirr
  | 0x0D => some (isum s)
  | 0x0F => some (excSumWord s.excSum)
  | 0x10 => some s.palBase
  | 0x11 => some (iCtlValue s)
  | 0x14 => some (pctrValue s (Config.freeQuad s.free))
  | 0x16 => some s.iStat
  | 0x27 => some s.mmStat
  | 0x2A => some s.dcStat
  | 0x2B => some (mergeMask (Config.freeQuad s.free) 0x3F (s.cData.setWidth 64))
  | n => if 0x40 ≤ n ∧ n ≤ 0x7F then some s.pctx else none

/-- What HW_MFPR returns, and the state after it: a read has no side effect but the free value it may draw. -/
def readIpr (s : State) (index : BitVec 8) : Word × State :=
  match readableIpr s index with
  | some v => (v, if index = 0x14 ∨ index = 0x2B then { s with free := s.free + 1 } else s)
  | none => fresh s

/-! ### TB writes -/

/-- The ITB entry of the holding registers (R96). -/
def newItbEntry (s : State) (pte : Word) : TbEntry :=
  { valid := true, tag := s.itbTag, asn := currentAsn s, asm := pte.getLsbD 4, gh := pte.extractLsb' 5 2,
    pfn := pte.extractLsb' 13 31, re := pte.extractLsb' 8 4 }

/-- A DTB entry of a tag, a PTE and an ASN (R163). -/
def newDtbEntry (tag : BitVec 35) (pte : Word) (asn : BitVec 8) : DtbEntry :=
  { valid := true, tag := tag, asn := asn, asm := pte.getLsbD 4, gh := pte.extractLsb' 5 2, pfn := pte.extractLsb' 32 31,
    re := pte.extractLsb' 8 4, we := pte.extractLsb' 12 4, fOnRead := pte.getLsbD 1, fOnWrite := pte.getLsbD 2 }

/-- A valid entry of a bank already matches the new tag (R312, D18). -/
def dtbHolds (bank : List DtbEntry) (tag : BitVec 35) (asn : BitVec 8) : Bool :=
  bank.any fun e => e.valid && (e.asm || e.asn == asn) && sameGroup e.gh e.tag tag

/-- The entry enters a bank unless the bank holds a match. -/
def fillBank (bank : List DtbEntry) (ptr : BitVec 7) (tag : BitVec 35) (pte : Word) (asn : BitVec 8) : List DtbEntry :=
  if dtbHolds bank tag asn then bank else bank.set ptr.toNat (newDtbEntry tag pte asn)

/-- The DTB fill, at the write of DTB_PTE1 (R163, R312). -/
def fillDtb (s : State) (pte1 : Word) : State :=
  { s with
    dtbPte1 := pte1
    dtb0 := fillBank s.dtb0 s.dtbPtr s.dtbTag0 s.dtbPte0 s.dtbAsn0
    dtb1 := fillBank s.dtb1 s.dtbPtr s.dtbTag1 pte1 s.dtbAsn1
    dtbPtr := if dtbHolds s.dtb0 s.dtbTag0 s.dtbAsn0 && dtbHolds s.dtb1 s.dtbTag1 s.dtbAsn1 then s.dtbPtr else s.dtbPtr + 1 }

/-- The entry an invalidate-single removes (R99, R167). -/
def tbSingle (e : TbEntry) (asn : BitVec 8) (v : Word) : Bool := tbHits e asn v

def invalidate (e : TbEntry) : TbEntry := { e with valid := false }

/-- Invalidate the entries of the ITB that satisfy a test. -/
def dropItb (p : TbEntry → Bool) (l : List TbEntry) : List TbEntry := l.map fun e => if p e then invalidate e else e

/-- The same for a DTB bank. -/
def dropDtb (p : TbEntry → Bool) (l : List DtbEntry) : List DtbEntry :=
  l.map fun e => if p e.toTbEntry then { e with valid := false } else e

/-- The ITB group of registers, which may be written in PALmode only (A24). -/
def inPalMode (s : State) (k : State) : Except Fault State := if s.palMode then .ok k else .error .itbWriteInNativeMode

/-! ### Other writes -/

/-- Every integer, PALshadow and floating register takes a free value (CLR_MAP, D36). -/
def scrambleRegs (s : State) : State :=
  { s with
    intRegs := Vector.ofFn fun i => Config.freeQuad (s.free + i.val)
    shadow := Vector.ofFn fun i => Config.freeQuad (s.free + 31 + i.val)
    fpRegs := Vector.ofFn fun i => Config.freeQuad (s.free + 39 + i.val)
    free := s.free + 70 }

/-- HW_INT_CLR (R108). -/
def clearRequests (s : State) (v : Word) : State :=
  { s with
    slReq := s.slReq && !v.getLsbD 32, crReq := s.crReq && !v.getLsbD 31, pc1Req := s.pc1Req && !v.getLsbD 30,
    pc0Req := s.pc0Req && !v.getLsbD 29, mchkDReq := s.mchkDReq && !v.getLsbD 28, fbtp := s.fbtp || v.getLsbD 26 }

/-- The bits of PCTX that an index selects (R128). -/
def pctxMask (index : BitVec 8) : Word :=
  (if index.getLsbD 0 then 0x00007F8000000000 else 0) ||| (if index.getLsbD 1 then 0x1E0 else 0)
    ||| (if index.getLsbD 2 then 0x1E00 else 0) ||| (if index.getLsbD 3 then 0x2 else 0)
    ||| (if index.getLsbD 4 then 0x4 else 0)

/-- The bits of IER_CM that an index selects (R105). -/
def ierCmMask (index : BitVec 8) : Word :=
  (if index.getLsbD 1 then 0x0000007FFFFFE000 else 0) ||| (if index.getLsbD 0 then 0x18 else 0)

/-- The writable bits of I_CTL (R118). -/
def iCtlMask : Word := 0x0000FFFFC07FBFFF

/-- One shift of six bits out of the ERROR_REG chain into C_DATA (R186, D15). Zeros enter the chain, so that the eleven shifts that read
it leave it cleared (spec/61_errors.md R912; log 26). -/
def shiftErrorReg (s : State) : State :=
  { s with cData := s.errorReg.extractLsb' 60 6, errorReg := s.errorReg.extractLsb' 0 60 ++ 0#6 }

/-- A write of SLEEP: the first inhibits fault reset, the second stops execution (spec/70_reset_and_hazards.md R948). R125 says that one
write enters sleep; the model follows R948, whose account of sleep is the fuller one (DESIGN CHOICE, log 13). -/
def writeSleep (s : State) : State := if s.sleepArmed then { s with asleep := true } else { s with sleepArmed := true }

/-- What HW_MTPR does (R801): a read-only or unassigned index has no effect (R81 (d), (e)). -/
def writeIpr (s : State) (index : BitVec 8) (v : Word) : Except Fault State :=
  match index.toNat with
  | 0xC0 => .ok { s with cc := mergeMask s.cc 0xFFFFFFFF00000000 v }
  | 0xC1 => .ok { s with cc := mergeMask s.cc 0xFFFFFFFF (v &&& 0xFFFFFFF0), ccEna := v.getLsbD 32 }
  | 0xC4 => .ok { s with vaCtl := v &&& 0xFFFFFFFFC0000007 }
  | 0x00 => inPalMode s { s with itbTag := vpnOf v }
  | 0x01 => inPalMode s
      { s with itbPte := v, itb := s.itb.set s.itbPtr.toNat (newItbEntry s v), itbPtr := s.itbPtr + 1 }
  | 0x02 => inPalMode s { s with itb := dropItb (fun e => !e.asm) s.itb }
  | 0x03 => inPalMode s { s with itb := dropItb (fun _ => true) s.itb, itbPtr := 0, itbInit := true }
  | 0x04 => inPalMode s { s with itb := dropItb (fun e => tbSingle e (currentAsn s) v) s.itb }
  | 0x08 => .ok { s with ierCm := mergeMask s.ierCm (ierCmMask index) v }
  | 0x09 => .ok { s with ierCm := mergeMask s.ierCm (ierCmMask index) v }
  | 0x0A => .ok { s with ierCm := mergeMask s.ierCm (ierCmMask index) v }
  | 0x0B => .ok { s with ierCm := mergeMask s.ierCm (ierCmMask index) v }
  | 0x0C => .ok { s with sirr := v &&& 0x1FFFC000 }
  | 0x0E => .ok (clearRequests s v)
  | 0x10 => .ok { s with palBase := v &&& 0x00000FFFFFFF8000 }
  | 0x11 => if v.extractLsb' 1 2 = 0#2 then .error .noCacheSetEnabled else keepsCounters s { s with iCtl := v &&& iCtlMask }
  | 0x12 => .ok { s with icFlushAsm := true }
  | 0x13 => .ok { s with icFlush := true }
  | 0x14 => keepsWritten (writePctr s v)
  | 0x15 => .ok (scrambleRegs s)
  | 0x16 => .ok { s with iStat := s.iStat &&& ~~~(v &&& 0x20000000) }
  | 0x17 => .ok (writeSleep s)
  | 0x20 => .ok { s with dtbTag0 := vpnOf v }
  | 0xA0 => .ok { s with dtbTag1 := vpnOf v }
  | 0x21 => .ok { s with dtbPte0 := v }
  | 0xA1 => .ok (fillDtb s v)
  | 0x26 => .ok { s with dtbAltMode := v.extractLsb' 0 2 }
  | 0xA2 => .ok { s with dtb0 := dropDtb (fun e => !e.asm) s.dtb0, dtb1 := dropDtb (fun e => !e.asm) s.dtb1 }
  | 0xA3 => .ok { s with dtb0 := dropDtb (fun _ => true) s.dtb0, dtb1 := dropDtb (fun _ => true) s.dtb1, dtbPtr := 0 }
  | 0x24 => .ok { s with dtb0 := dropDtb (fun e => tbSingle e s.dtbAsn0 v) s.dtb0 }
  | 0xA4 => .ok { s with dtb1 := dropDtb (fun e => tbSingle e s.dtbAsn1 v) s.dtb1 }
  | 0x25 => .ok { s with dtbAsn0 := v.extractLsb' 56 8 }
  | 0xA5 => .ok { s with dtbAsn1 := v.extractLsb' 56 8 }
  | 0x28 => .ok { s with mCtl := v &&& 0x3E }
  | 0x29 =>
    if v.getLsbD 2 then .error .forceHit
    else if v.extractLsb' 0 2 = 0#2 then .error .noCacheSetEnabled
    else .ok { s with dcCtl := v &&& 0xF7 }
  | 0x2A => .ok { s with dcStat := s.dcStat &&& ~~~(v &&& 0x1F) }
  | 0x2B => .ok { s with writeMany := s.writeMany.extractLsb' 0 30 ++ v.extractLsb' 0 6 }
  | 0x2C => .ok (shiftErrorReg s)
  | n => if 0x40 ≤ n ∧ n ≤ 0x7F then keepsCounters s { s with pctx := mergeMask s.pctx (pctxMask index) v } else .ok s

/-- The Icache flushes that IC_FLUSH and IC_FLUSH_ASM have requested, performed by a HW_RET with STALL (R122, R123). -/
def performFlushes (s : State) : State :=
  { s with
    icache := if s.icFlush then [] else if s.icFlushAsm then s.icache.filter (·.asm) else s.icache
    icFlush := false
    icFlushAsm := false }

end Sys2Proof.Machine
end

