-- ==== Sys2Proof/Machine/Counters.lean ====
section
/-! DEFINITION. The cycle counter and the performance counters between two instructions (spec/10_state.md R47, R48;
spec/60_exceptions.md R870 to R878; spec/92_eei_decisions.md D12, D34; log 9). -/

namespace Sys2Proof.Machine

/-! ### What the step did -/

/-- The instruction is squashed: removed at decode (spec/47_misc.md R740). Its table and R750 remove the operates of opcode 1C with
destination R31, which the list that R351 quotes leaves out: the model follows R740 (DESIGN CHOICE, log 33). The destination of MF_FPCR
is F[a] (R351, A27). -/
def isSquashed (w : BitVec 32) : Bool :=
  let last : BitVec 5 := w.extractLsb' 0 5
  let f7 : BitVec 7 := w.extractLsb' 5 7
  match (w.extractLsb' 26 6).toNat with
  | 0x0B => w.extractLsb' 21 5 == 31#5
  | 0x10 => last == 31
  | 0x11 => last == 31
  | 0x12 => last == 31
  | 0x13 => last == 31
  | 0x14 => last == 31
  | 0x15 => last == 31
  | 0x16 => last == 31
  | 0x17 =>
    if w.extractLsb' 5 11 == 0x025#11 then w.extractLsb' 21 5 == 31#5 else last == 31 && w.extractLsb' 5 11 != 0x024#11
  | 0x18 => w.extractLsb' 0 16 == 0#16 || w.extractLsb' 0 16 == 0x0400#16
  | 0x1C => last == 31 && f7 != 0x70 && f7 != 0x78
  | _ => false

/-- The instruction is an integer or floating conditional move, two valid fetched instructions in ProfileMe mode (R876). -/
def isCondMove (w : BitVec 32) : Bool :=
  let f7 : BitVec 7 := w.extractLsb' 5 7
  let f11 : BitVec 11 := w.extractLsb' 5 11
  match (w.extractLsb' 26 6).toNat with
  | 0x11 => f7 == 0x14 || f7 == 0x16 || f7 == 0x24 || f7 == 0x26 || f7 == 0x44 || f7 == 0x46 || f7 == 0x64 || f7 == 0x66
  | 0x17 => decide (0x02A ≤ f11.toNat) && decide (f11.toNat ≤ 0x02F)
  | _ => false

/-- The instruction writes PCTR_CTL; what it writes is not counted up by its own fetch and retirement. -/
def isPctrWrite (w : BitVec 32) : Bool := w.extractLsb' 26 6 == 0x1D#6 && w.extractLsb' 8 8 == 0x14#8

/-- The step ended in an instruction that completed: no entry, or that of a synchronous trap (spec/60_exceptions.md R830); one that
waits has not completed. -/
def completed (s : State) : Bool :=
  match s.trap with
  | none => !s.waiting
  | some .arith => true
  | some .mtFpcr => true
  | some _ => false

/-! ### Time (R47) and aggregate mode (R872) -/

/-- The number of cycles between this instruction and the next, at least one (D12). -/
def cyclesNow (s : State) : Nat := Config.freeTime s.free + 1

/-- What counter 0 adds in aggregate mode (R131). -/
def aggregate0 (s : State) (retired : Bool) : Nat :=
  if pctr0Enabled s && !s.pctr.sl0 then (if s.pctr.sl1.getLsbD 0 then cyclesNow s else if retired then 1 else 0) else 0

/-- What counter 1 adds in aggregate mode: cycles, or one of the inputs that D34 takes as zero (R131). -/
def aggregate1 (s : State) : Nat := if pctr1Enabled s && !s.pctr.sl0 && s.pctr.sl1 == 0 then cyclesNow s else 0

/-- An increment carries out of bit 19 (R872). -/
def overflows (c : BitVec 20) (n : Nat) : Bool := decide (2 ^ 20 ≤ c.toNat + n)

/-- The time between two instructions passes. -/
def tick (retired : Bool) (s : State) : State :=
  let a0 := aggregate0 s retired
  let a1 := aggregate1 s
  { s with
    cc := if s.ccEna then s.cc.extractLsb' 32 32 ++ (s.cc.extractLsb' 0 32 + BitVec.ofNat 32 (cyclesNow s)) else s.cc
    pctr := { s.pctr with pctr0 := s.pctr.pctr0 + BitVec.ofNat 20 a0, pctr1 := s.pctr.pctr1 + BitVec.ofNat 20 a1 }
    pc0Req := s.pc0Req || overflows s.pctr.pctr0 a0
    pc1Req := s.pc1Req || overflows s.pctr.pctr1 a1
    free := if s.ccEna || pctr0Enabled s || pctr1Enabled s then s.free + 1 else s.free }

/-! ### ProfileMe mode (R874 to R878) -/

/-- I_STAT[TRAP_TYPE] of an entry; `none` for the redirections, which PMPC shows (spec/11_ipr_ebox_ibox.md R120). -/
def trapType : Entry → Option (BitVec 4)
  | .dtbmDouble3 => some 2
  | .dtbmDouble4 => some 3
  | .fen => some 4
  | .unalign => some 5
  | .dtbmSingle => some 6
  | .dfault => some 7
  | .opcdec => some 8
  | .mchk => some 10
  | .arith => some 12
  | .mtFpcr => some 14
  | .reset => some 15
  | .iacv => none
  | .itbMiss => none
  | .interrupt => none

/-- PMPC of a profiled instruction: its PC with PALmode in bit 0, or the PALcode entry of a redirection. -/
def profiledPc (pre s : State) : Word :=
  match s.trap with
  | none => faultPc pre
  | some e => if trapType e = none then pcWithMode (entryPc s e) true else faultPc pre

/-- TRP and TRAP_TYPE: those of the entry taken; otherwise a replay trap may or may not have happened. Of ITB_MISS, IACV and interrupts
R120 says only that TRAP_TYPE does not report them: TRP is free and TRAP_TYPE is 0 there, as where no entry is taken (DESIGN CHOICE,
log 17). -/
def profiledTrap (s : State) (w : Word) : Bool × BitVec 4 :=
  match s.trap.bind trapType with
  | some t => (true, t)
  | none => (w.getLsbD 0, 0)

/-- What counter 1 adds in the window of a profiled instruction: a free amount, if it counts (R878). -/
def profiled1 (s : State) : BitVec 20 :=
  if pctr1Enabled s && s.pctr.sl1 == 0 then (Config.freeQuad s.free).extractLsb' 40 20 else 0

/-- The window of a profiled instruction: the status it leaves is free where the instruction stream does not fix it (R878). A carry out
of counter 1 requests its interrupt as in aggregate mode: R48 and R130 name no mode (log 33). -/
def profile (pre : State) (word : Option (BitVec 32)) (s : State) : State :=
  let w := Config.freeQuad s.free
  let t := profiledTrap s w
  let dir := word.bind (branchDirection pre)
  { s with
    pmpc := profiledPc pre s
    iStat := (s.iStat &&& 0x20000000) ||| bitAt 40 (w.getLsbD 1 && t.1 && dir.isSome) ||| bitAt 39 t.1
      ||| bitAt 38 (w.getLsbD 2) ||| (t.2.setWidth 64 <<< 34) ||| ((w.extractLsb' 3 4).setWidth 64 <<< 30)
    pctr := { s.pctr with
      pctr0 := w.extractLsb' 20 20
      pctr1 := s.pctr.pctr1 + profiled1 s
      pmStalled := w.getLsbD 7
      pmKilledBm := w.getLsbD 8
      val := completed s
      tak := dir.getD (w.getLsbD 9) }
    pc0Req := true
    pc1Req := s.pc1Req || overflows s.pctr.pctr1 (profiled1 s).toNat
    pmStopped := true
    free := s.free + 1 }

/-- Counter 0 in ProfileMe mode counts valid fetched instructions; the one that overflows it is profiled. The instruction that enables the
counter is not counted, nor the one that disables it (log 33). -/
def countFetched (pre : State) (word : Option (BitVec 32)) (s : State) : State :=
  let n := if (word.map isCondMove).getD false then 2 else 1
  if pctr0Enabled pre && pctr0Enabled s && pre.pctr.sl0 && !pre.pmStopped && !s.waiting && !((word.map isPctrWrite).getD false && completed s) then
    if overflows pre.pctr.pctr0 n then profile pre word s
    else { s with pctr := { s.pctr with pctr0 := s.pctr.pctr0 + BitVec.ofNat 20 n } }
  else s

/-- The step retired an instruction that counts (R872: "A squashed instruction does not count as a retire"). -/
def retires (word : Option (BitVec 32)) (s : State) : Bool :=
  completed s && (word.map fun w => !isSquashed w && !isPctrWrite w).getD false

/-- What passes between the instruction (or entry) that took the machine from `pre` to `s` and the next one. -/
def account (pre : State) (word : Option (BitVec 32)) (s : State) : State :=
  countFetched pre word (tick (retires word s) s)

end Sys2Proof.Machine
end

