-- ==== Sys2Proof/Machine/Fetch.lean ====
section
/-! DEFINITION. Instruction fetch: the Icache, Istream translation and its exceptions (spec/20_memory.md R248, R270;
spec/21_translation.md R300 to R306; spec/60_exceptions.md R837; log 6). -/

namespace Sys2Proof.Machine

/-! ### The Icache -/

/-- Tag bits [47:6] of a virtual address. -/
def icacheTag (va : Word) : BitVec 42 := va.extractLsb' 6 42

/-- A block holds the instructions of an address in the present mode: a native block under its ASN or ASM, a PALmode block only in
PALmode (R305). -/
def icacheHits (s : State) (va : Word) (b : IcacheBlock) : Bool :=
  b.tag == icacheTag va && b.pal == s.palMode && (b.asm || b.asn == currentAsn s)

/-- The instruction word of an address in its block. -/
def blockWord (b : IcacheBlock) (va : Word) : BitVec 32 := b.words.getD (va.extractLsb' 2 4).toNat 0

/-- `n` instruction words of physical memory from `a` upwards; instructions are not subject to VA_CTL[B_ENDIAN]. -/
def readWords (m : Memory) : Nat → Nat → List (BitVec 32)
  | _, 0 => []
  | a, n + 1 => longOf (m.read a 4) :: readWords m (a + 4) n

/-- The sixteen words of the 64-byte block of a physical address; nonexistent memory reads as ones (R248). -/
def fillWords (s : State) (pa : PhysAddr) : List (BitVec 32) :=
  if absent s pa then List.replicate 16 0xFFFFFFFF else readWords s.mem (pa &&& ~~~63#44).toNat 16

/-! ### The two ways (R18, R49): 64 KB of 64-byte blocks in two sets of 512 -/

/-- The index of a block in either set, VA[14:6]. -/
def icacheIndex (b : IcacheBlock) : BitVec 9 := b.tag.setWidth 9

/-- Two blocks stand in the same place of the cache. -/
def samePlace (b c : IcacheBlock) : Bool := b.way == c.way && icacheIndex b == icacheIndex c

/-- I_CTL[IC_EN] enables a set for fills; a block that a disabled set already holds still hits (R118; DESIGN CHOICE, log 6). -/
def wayEnabled (s : State) (way : Bool) : Bool := s.iCtl.getLsbD (if way then 2 else 1)

/-- The place of a block in a set is empty. -/
def placeEmpty (s : State) (b : IcacheBlock) (way : Bool) : Bool := s.icache.all fun c => !samePlace { b with way := way } c

/-- The set that takes a new block: the enabled one; of two, an empty place first, else `pick`, a free choice: no rule says which block
is replaced (log 6). -/
def fillWay (s : State) (b : IcacheBlock) (pick : Bool) : Bool :=
  if !wayEnabled s true then false
  else if !wayEnabled s false then true
  else if placeEmpty s b false then false
  else if placeEmpty s b true then true
  else pick

/-- Put a block into the Icache, in the place of the one that stood there. -/
def installBlock (s : State) (b : IcacheBlock) : State :=
  let c := { b with way := fillWay s b ((Config.freeQuad s.free).getLsbD 0) }
  { s with icache := c :: s.icache.filter (fun d => !samePlace c d), free := s.free + 1 }

/-! ### Istream translation (R305) -/

/-- Why a fetch has no physical address. -/
inductive FetchDenied where
  | miss
  | violation
  | stop (f : Fault)

/-- A physical address with the access control that the Icache keeps with its block: ASM and the read enables. -/
structure FetchAddr where
  pa : PhysAddr
  asm : Bool
  re : BitVec 4

/-- The translation of a fetch that missed the Icache. PALmode: physical. Native mode: superpage, then ITB, then permission. Where no
TB entry gives the block its ASM and read enables the spec is silent; the model sets ASM = 1, so that IC_FLUSH_ASM keeps the block and
every ASN hits it, and enables all modes (PALmode) or kernel mode (superpage) (DESIGN CHOICE, log 6). -/
def translateFetch (s : State) (va : Word) : Except FetchDenied FetchAddr :=
  if s.palMode then .ok { pa := va.setWidth 44, asm := true, re := 0xF }
  else
    match superpage (s.iCtl.extractLsb' 3 3) va with
    | some pa => if currentMode s = 0 then .ok { pa := pa, asm := true, re := 1 } else .error .violation
    | none =>
      match lookupItb s va with
      | .error f => .error (.stop f)
      | .ok none => .error .miss
      | .ok (some e) =>
        if e.re.getLsbD (currentMode s).toNat then .ok { pa := tbPhys e va, asm := e.asm, re := e.re } else .error .violation

/-- The block that a demand fill brings in, before it has its place. -/
def fillBlock (s : State) (va : Word) (a : FetchAddr) : IcacheBlock :=
  { way := false, tag := icacheTag va, pal := s.palMode, asn := currentAsn s, asm := a.asm, re := a.re, words := fillWords s a.pa }

/-! ### Exceptions of a fetch (R837) -/

/-- ITB_MISS names no EXC_SUM field. -/
def itbMissTrap (s : State) : State := takeException s .itbMiss (faultPc s) (some id)

/-- IACV with the PC in EXC_ADDR. -/
def iacvTrap (s : State) (pcOverflow : Bool) : State :=
  takeException s .iacv (faultPc s) (some fun x => { x with badIva := false, pcOvfl := pcOverflow })

/-- IACV for a target of a JSR-class instruction or HW_RET that fails the sign check: the address is in VA, where bit 0 is not
named; EXC_ADDR has PALmode in bit 0, zero in bit 1 (R101), and is UNPREDICTABLE above (A8). -/
def badTargetTrap (s : State) : State :=
  takeException { s with va := mergeMask (Config.freeQuad s.free) (~~~1#64) s.pc, free := s.free + 1 } .iacv
    (mergeMask (Config.freeQuad s.free) 3 (ofBool s.palMode)) (some fun x => { x with badIva := true, pcOvfl := false })

/-! ### The fetch -/

/-- What a fetch gives: a word, with the state after a fill; an exception; or a stop. -/
inductive Fetched where
  | word (w : BitVec 32) (s : State)
  | trap (s : State)
  | stop (f : Fault)

/-- The fetch after the sign check. -/
def fetchChecked (s : State) : Fetched :=
  match s.icache.find? (icacheHits s s.pc) with
  | some b =>
    if s.palMode || b.re.getLsbD (currentMode s).toNat then .word (blockWord b s.pc) s else .trap (iacvTrap s false)
  | none =>
    match translateFetch s s.pc with
    | .error .miss => .trap (itbMissTrap s)
    | .error .violation => .trap (iacvTrap s false)
    | .error (.stop f) => .stop f
    | .ok a =>
      if inIoSpace a.pa then .stop .fetchFromIoSpace
      else .word (blockWord (fillBlock s s.pc a) s.pc) (installBlock s (fillBlock s s.pc a))

/-- IFetch (R305, R838 step 2): the sign check applies in PALmode too (R301). A pc that fails it and that no JSR-class instruction or
HW_RET has set takes IACV with PC_OVFL, as after a sequential or branch overflow (R837 (b)): so does the entry of a CALL_PAL, which no
rule names (DESIGN CHOICE, log 25). -/
def fetch (s : State) : Fetched :=
  if signOk (s.iCtl.getLsbD 15) s.pc then
    if s.palMode || s.itbInit then fetchChecked s else .stop .fetchBeforeItbInit
  else if s.viaJump then .trap (badTargetTrap s) else .trap (iacvTrap s true)

/-- A fill that the Icache makes on its own for an address (R270): as a demand fill; where that has no block, nothing happens. -/
def prefetchFill (s : State) (va : Word) : State :=
  if s.icache.any (icacheHits s va) then s
  else
    match translateFetch s va with
    | .ok a => if inIoSpace a.pa then s else installBlock s (fillBlock s va a)
    | .error _ => s

/-! ### Placing an instruction where the next fetch reads it -/

/-- The physical address of the next fetch. -/
def fetchPhys (s : State) : PhysAddr :=
  match translateFetch s s.pc with
  | .ok a => a.pa
  | .error _ => s.pc.setWidth 44

/-- Store a word at an address of physical memory and drop the Icache blocks that hold the next fetch address. -/
def placeWord (s : State) (w : BitVec 32) : State :=
  { s with
    mem := s.mem.write (fetchPhys s).toNat 4 (w.setWidth 64)
    icache := s.icache.filter fun b => !icacheHits s s.pc b }

end Sys2Proof.Machine
end

