-- ==== Sys2Proof/Machine/Events.lean ====
section
/-! DEFINITION. What the platform does between two instructions: levels and probes, hardware errors, resets and the wake-up from
sleep (spec/20_memory.md R280; spec/60_exceptions.md R851, R854; spec/61_errors.md R900 to R917; spec/70_reset_and_hazards.md R946
to R948; logs 7, 13, 14). -/

namespace Sys2Proof.Machine

/-! ### Inputs -/

/-- A transition of SromData_H requests the serial-line interrupt, also in PALmode (R854). -/
def serialLevel (s : State) (level : Bool) : State := { s with slRcv := level, slReq := s.slReq || (s.slRcv != level) }

/-- Another agent writes a byte of memory, and takes the block for it. -/
def remoteStore (s : State) (pa : BitVec 43) (v : Byte) : State :=
  let p : PhysAddr := pa.setWidth 44
  if absent s p then s else loseBlock { s with mem := s.mem.writeByte pa.toNat v } (blockOf p)

/-! ### Error events (R915) -/

/-- The detector of a case is on: DC_CTL[DCTAG_PAR_EN] for the Dcache tags, DC_CTL[DCDAT_ERR_EN] for data, and ENABLE_PROBE_CHECK for
probes; Icache parity, duplicate tags and Bcache tags have no enable (R902, R917). -/
def errorEnabled (s : State) : ErrorCase → Bool
  | .icacheParity => true
  | .dupTagPerr => true
  | .bcTagPerr => true
  | .dcTagPerrIssue => s.dcCtl.getLsbD 6
  | .dcTagPerrRetry => s.dcCtl.getLsbD 6
  | .probeBcErr => s.dcCtl.getLsbD 7 && s.writeOnce.enableProbeCheck
  | _ => s.dcCtl.getLsbD 7

/-- The case posts a corrected-read interrupt. -/
def postsCrd : ErrorCase → Bool
  | .icacheParity | .dcEccLoad | .dcEccSpecLoad | .dcEccStore => true
  | .bcEccIfill | .bcEccDfill | .bcEccSpecDfill | .bcVictim | .bcVictimOnMiss => true
  | .memEccIfill | .memEccDfill | .memEccSpecDfill | .probeBcErr => true
  | _ => false

/-- The case posts a machine check that HW_INT_CLR[MCHK_D] clears (D33). D33 names Dstream causes and Istream fills only; DUP_TAG_PERR
and BC_TAG_PERR, whatever reference or probe met them, post this latch (DESIGN CHOICE, log 7). -/
def postsMchkD : ErrorCase → Bool
  | .dcTagPerrRetry | .dcStoreSecond | .dupTagPerr | .bcTagPerr | .bcDblDfill | .memDblDfill => true
  | _ => false

/-- The case posts an Istream-fill machine check, which its entry clears (D33). -/
def postsMchkI : ErrorCase → Bool
  | .bcEccIfill | .memEccIfill | .bcDblIfill | .memDblIfill => true
  | _ => false

/-- The case flushes the Icache. -/
def flushesIcache : ErrorCase → Bool
  | .icacheParity | .bcEccIfill | .memEccIfill => true
  | _ => false

/-- The bits that the case sets in DC_STAT (R911). -/
def dcStatBits (e : ErrorEvent) : Word :=
  match e.kind with
  | .dcEccLoad | .dcEccSpecLoad | .bcEccDfill | .memEccDfill | .bcVictimOnMiss => 0x8
  | .dcEccStore => 0x4
  | .dcStoreSecond => 0x14
  | .dcTagPerrRetry => if e.pipe1 then 0x2 else 0x1
  | _ => 0

/-- C_STAT of the case (spec/12_ipr_mbox_cbox.md R186); `none` where the Cbox logs nothing (BC_VICTIM_ON_MISS among them:
spec/90_conflicts.md C29). -/
def cStat (e : ErrorEvent) : Option (BitVec 5) :=
  match e.kind with
  | .dcEccLoad => some 0b00101
  | .dupTagPerr => some 0b00010
  | .bcTagPerr => some 0b00001
  | .bcEccIfill => some 0b01100
  | .bcEccDfill => some 0b00100
  | .memEccIfill => some 0b01011
  | .memEccDfill => some 0b00011
  | .probeBcErr => some (if e.codeBit then 0b00111 else 0b00110)
  | .bcDblIfill => some 0b11100
  | .bcDblDfill => some 0b10100
  | .memDblIfill => some 0b11011
  | .memDblDfill => some 0b10011
  | .dcEccSpecLoad | .bcEccSpecDfill | .memEccSpecDfill => some 0
  | _ => none

/-- The case is a double-bit error. -/
def isDouble : ErrorCase → Bool
  | .bcDblIfill | .bcDblDfill | .memDblIfill | .memDblDfill => true
  | _ => false

/-- The case logs the syndromes and the block status. -/
def logsSyndromes : ErrorCase → Bool
  | .bcEccIfill | .bcEccDfill | .memEccIfill | .memEccDfill | .probeBcErr => true
  | _ => false

/-- The case logs the block address [42:6]. -/
def logsAddress : ErrorCase → Bool
  | .dupTagPerr | .bcTagPerr => true
  | .bcEccIfill | .bcEccDfill | .memEccIfill | .memEccDfill | .probeBcErr => true
  | .bcDblIfill | .bcDblDfill | .memDblIfill | .memDblDfill => true
  | _ => false

/-- C_ADDR: named whole, in its low 14 bits (DC_ECC_LOAD, which does not update bits [42:20]), or free (R912, R915, A15). -/
def cAddr (s : State) (e : ErrorEvent) (w : Word) : BitVec 37 :=
  if isDouble e.kind && s.writeOnce.skewedFillMode then w.extractLsb' 0 37
  else if logsAddress e.kind then e.addr
  else if e.kind = .dcEccLoad then s.errorReg.extractLsb' 39 23 ++ e.addr.extractLsb' 0 14
  else w.extractLsb' 0 37

/-- ERROR_REG as the 66 bits read out (D15): C_ADDR, C_STS, C_STAT, C_SYNDROME_0, C_SYNDROME_1; fields that the case does not name are
free (A15); in skewed fill mode a double-bit code is the generic 1XXXX. -/
def errorRegOf (s : State) (e : ErrorEvent) (stat : BitVec 5) (w : Word) : BitVec 66 :=
  let st := if isDouble e.kind && s.writeOnce.skewedFillMode then 1#1 ++ w.extractLsb' 37 4 else stat
  let sy := logsSyndromes e.kind
  let sts := if sy then e.sts else w.extractLsb' 41 4
  let s0 := if sy then e.syn0 else w.extractLsb' 45 8
  let s1 := if sy then e.syn1 else w.extractLsb' 53 8
  (cAddr s e w ++ sts ++ st ++ s0 ++ s1 : BitVec 62).setWidth 66

/-- The ERROR_REG chain takes the last reported error (R912). -/
def logError (s : State) (e : ErrorEvent) : State :=
  match cStat e with
  | none => s
  | some c => { s with errorReg := errorRegOf s e c (Config.freeQuad s.free), free := s.free + 1 }

/-- An error event: the status writes, posts and flush of its row; no register or memory value changes (R900). -/
def errorEvent (s : State) (e : ErrorEvent) : State :=
  if errorEnabled s e.kind then
    let s1 := logError s e
    { s1 with
      dcStat := s1.dcStat ||| dcStatBits e
      iStat := if e.kind = .icacheParity then s1.iStat ||| 0x20000000 else s1.iStat
      crReq := s1.crReq || postsCrd e.kind
      mchkDReq := s1.mchkDReq || (postsMchkD e.kind && s1.iCtl.getLsbD 21)
      mchkIReq := s1.mchkIReq || (postsMchkI e.kind && s1.iCtl.getLsbD 21)
      icache := if flushesIcache e.kind then [] else s1.icache
      tagErr := s1.tagErr || e.kind == .dcTagPerrIssue }
  else s

/-! ### Unspecified contents -/

/-- A TB entry of free contents. -/
def freeTbEntry (n : Nat) : TbEntry :=
  let w := Config.freeQuad n
  let x := Config.freeQuad (n + 1)
  { valid := w.getLsbD 0, tag := w.extractLsb' 1 35, asn := w.extractLsb' 36 8, asm := w.getLsbD 44, gh := w.extractLsb' 45 2,
    re := w.extractLsb' 47 4, pfn := x.extractLsb' 0 31 }

/-- A DTB entry of free contents. -/
def freeDtbEntry (n : Nat) : DtbEntry :=
  let x := Config.freeQuad (n + 1)
  { toTbEntry := freeTbEntry n, we := x.extractLsb' 31 4, fOnRead := x.getLsbD 35, fOnWrite := x.getLsbD 36 }

/-- 128 entries from free values `n` upwards, two a piece. -/
def freeItb (n : Nat) : List TbEntry := (List.range 128).map fun i => freeTbEntry (n + 2 * i)
def freeDtb (n : Nat) : List DtbEntry := (List.range 128).map fun i => freeDtbEntry (n + 2 * i)

/-- Every register that holds no specified value after a reset or a wake-up takes a free one, in its implemented bits: the general
registers, the IPRs and the TBs (R53's X, A36). Bit [1] of PMPC and of EXC_ADDR reads as zero (R100, R101); DC_CTL[F_HIT] is zero, for
a set F_HIT has no meaning in the model (A13; DESIGN CHOICE, log 13). -/
def scrambleState (s : State) : State :=
  let n := s.free + 70
  let q := fun i => Config.freeQuad (n + i)
  { scrambleRegs s with
    fpcr := q 0 &&& 0xFFFF000000000000
    intrFlag := (q 1).getLsbD 0
    lockBlock := (q 1).extractLsb' 1 38
    ccEna := (q 1).getLsbD 39
    fbtp := (q 1).getLsbD 40
    slReq := (q 1).getLsbD 41
    crReq := (q 1).getLsbD 42
    pc0Req := (q 1).getLsbD 43
    pc1Req := (q 1).getLsbD 44
    mchkDReq := (q 1).getLsbD 45
    mchkIReq := (q 1).getLsbD 46
    pmStopped := (q 1).getLsbD 47
    cc := q 2
    va := q 3
    vaCtl := q 4 &&& 0xFFFFFFFFC0000007
    itbTag := (q 5).extractLsb' 0 35
    itbPte := q 6
    pmpc := q 7 &&& ~~~2
    excAddr := q 8 &&& ~~~2
    excSum := excSumOf (q 9)
    ierCm := q 10 &&& 0x0000007FFFFFE018
    sirr := q 11 &&& 0x1FFFC000
    iCtl := q 12 &&& iCtlMask
    iStat := q 13 &&& 0x000001FFE0000000
    pctx := q 14 &&& 0x00007F8000001FE6
    pctr :=
      { pctr0 := (q 15).extractLsb' 0 20, pctr1 := (q 15).extractLsb' 20 20, pmStalled := (q 15).getLsbD 40,
        pmKilledBm := (q 15).getLsbD 41, sl0 := (q 15).getLsbD 42, sl1 := (q 15).extractLsb' 43 2, val := (q 15).getLsbD 45,
        tak := (q 15).getLsbD 46 }
    itbPtr := (q 16).extractLsb' 0 7
    dtbPtr := (q 16).extractLsb' 7 7
    dtbAltMode := (q 16).extractLsb' 14 2
    dtbAsn0 := (q 16).extractLsb' 16 8
    dtbAsn1 := (q 16).extractLsb' 24 8
    cData := (q 16).extractLsb' 32 6
    dtbTag0 := (q 17).extractLsb' 0 35
    dtbTag1 := (q 18).extractLsb' 0 35
    dtbPte0 := q 19
    dtbPte1 := q 20
    mmStat := q 21 &&& 0x7FF
    mCtl := q 22 &&& 0x3E
    dcCtl := q 23 &&& 0xF3
    dcStat := q 24 &&& 0x1F
    errorReg := ((q 25).extractLsb' 0 31 ++ (q 26).extractLsb' 0 31).setWidth 66
    itb := freeItb (n + 27)
    dtb0 := freeDtb (n + 283)
    dtb1 := freeDtb (n + 539)
    free := n + 795 }

/-! ### The SROM image (R9, R944, R945, D2) -/

/-- The Icache block that a line of the image begins, with the three lines that follow it: PALmode code, for every ASN and mode (its
ASM and read enables are in no rule: DESIGN CHOICE, log 6). R944 makes fetch_count end in 11, so that no block is loaded in part: a
block that lacks a line is not in the image. -/
def sromBlock (lines : List SromLine) (first : SromLine) : Option IcacheBlock :=
  let line := fun k : Nat => (lines.find? fun l => l.addr == first.addr + BitVec.ofNat 44 (16 * k)).map SromLine.words
  if first.addr.extractLsb' 0 6 = 0#6 then
    match line 1, line 2, line 3 with
    | some b, some c, some d =>
      some { way := false, tag := (first.addr.extractLsb' 6 38).setWidth 42, pal := true, asn := 0, asm := true, re := 0xF,
             words := first.words ++ b ++ c ++ d }
    | _, _, _ => none
  else none

/-- Put a block of the image in an empty place; the two sets have no room for a third one of the same index. -/
def placeSrom (cache : List IcacheBlock) (b : IcacheBlock) : List IcacheBlock :=
  let room := fun way => cache.all fun c => !samePlace { b with way := way } c
  if room false then { b with way := false } :: cache
  else if room true then { b with way := true } :: cache
  else cache

/-- What BiST and the SROM load leave (R944): an Icache with the blocks of the image and nothing else, and the WRITE_ONCE chain. -/
def loadSrom (s : State) : State :=
  match s.srom with
  | none => { s with icache := [] }
  | some img => { s with icache := (img.lines.filterMap (sromBlock img.lines)).foldl placeSrom [], writeOnce := img.writeOnce }

/-- Power-up with the parameters of D2 and R9: the SROM image, and PALcode words at physical addresses. `State.reset` is the case of
neither (log 15). -/
def State.powerUp (img : Option SromImage) (palImage : List (BitVec 44 × BitVec 32)) : State :=
  loadSrom
    { State.reset with
      srom := img
      mem := palImage.foldl (fun m p => m.write p.1.toNat 4 (p.2.setWidth 64)) State.reset.mem }

/-! ### Resets and wake-up -/

/-- What every reset and the wake-up leave: the RESET/WAKEUP entry, PALmode, no lock, WRITE_MANY cleared, nothing in progress. A Dcache
tag parity error that is armed goes with the references in flight, after a fault reset too, though the caches stay (the spec is silent:
DESIGN CHOICE, log 13). -/
def resetEntry (s : State) (base : Word) : State :=
  { s with
    pc := (base &&& 0x00000FFFFFFF8000) ||| 0x780
    palBase := base
    palMode := true
    lockFlag := false
    lockWatch := LockWatch.idle
    writeMany := 0
    viaJump := false
    trap := some .reset
    tagErr := false
    waiting := false
    prefetches := []
    blocks := [] }

/-- Fault reset (R946), inhibited after the first write of SLEEP (R948): PAL_BASE, every register not named, memory, the caches and the
TBs stay; EXC_ADDR is UNPREDICTABLE. -/
def faultReset (s : State) : State :=
  if s.sleepArmed then s
  else
    { resetEntry s s.palBase with
      iCtl := s.iCtl ||| 0x6
      pctx := s.pctx ||| 0x4
      excAddr := Config.freeQuad s.free &&& ~~~2
      free := s.free + 1 }

/-- Warm reset (R947): the power-up state of R53, its X registers unspecified, and the SROM loaded again; main memory and the platform's
inputs stay, and BiST clears the Dcache with what it has not written back (R944, log 13). -/
def warmReset (s : State) : State :=
  let u := loadSrom (scrambleState (clearDcache s))
  { resetEntry u 0 with
    vaCtl := u.vaCtl &&& ~~~7#64
    iCtl := 0x6
    bistFail := false
    icFlush := false
    icFlushAsm := false
    sleepArmed := false
    asleep := false
    pctx := 0x4
    pmStopped := false
    itbPtr := 0
    itbInit := false
    dtbPtr := 0
    dtbTag0 := 0
    dtbTag1 := 0
    dtbPte0 := 0
    dtbPte1 := 0
    dtbAsn0 := 0
    dtbAsn1 := 0
    mCtl := 0
    dcCtl := 0x3 }

/-- The wake-up from sleep (R948): PAL_BASE, IER_CM, the requests and main memory stay, I_CTL[IC_EN] = 3 and PCTX[FPE] = 1, the caches are
empty and dirty data that they have not written back are lost, and everything else is unspecified (A36). The AST bits of PCTX are requests and enables of an interrupt, so they stay; DC_CTL
keeps a legal set enable. R125 has the wake-up run BiST and the SROM load and start at 0x780: the model follows R948 (DESIGN CHOICE,
log 13). The inhibition of the fault reset that the first write of SLEEP set ends here, so that two new writes are needed to sleep again:
R948 and R125 do not say (DESIGN CHOICE, log 13). The ITB is unspecified again, so that A37's first write of ITB_IA is asked for again (DESIGN CHOICE, log 13). The WRITE_ONCE chain and
I_CTL[BIST_FAIL], which Table 7-6 does not name, stay: the SROM is not loaded again and BiST does not run (DESIGN CHOICE, log 13). -/
def wakeUp (s : State) : State :=
  let u := scrambleState (clearDcache s)
  { resetEntry u s.palBase with
    ierCm := s.ierCm
    sirr := s.sirr
    slReq := s.slReq
    crReq := s.crReq
    pc0Req := s.pc0Req
    pc1Req := s.pc1Req
    mchkDReq := s.mchkDReq
    mchkIReq := s.mchkIReq
    iCtl := u.iCtl ||| 0x6
    icFlush := false
    icFlushAsm := false
    sleepArmed := false
    asleep := false
    pctx := mergeMask u.pctx 0x1FE0 s.pctx ||| 0x4
    itbInit := false
    dcCtl := u.dcCtl ||| 0x3
    icache := [] }

/-! ### Delivery -/

/-- An event of the schedule. -/
def deliver (e : EnvEvent) (s : State) : State :=
  match e with
  | .run => s
  | .irq levels => { s with irqPins := levels }
  | .serial level => serialLevel s level
  | .remoteWrite pa v => remoteStore s pa v
  | .probe block next => probeBlock s block next
  | .victim block => victimBlock s block
  | .stcAnswer grant => { s with stcGrant := grant }
  | .hold held => { s with ackHeld := held }
  | .memoryMap l => { s with memMap := l }
  | .error e => errorEvent s e
  | .badParityFill => { s with fbtp := false }
  | .icacheFill va => prefetchFill s va
  | .icacheDrop n => { s with icache := s.icache.eraseIdx n }
  | .faultReset => faultReset s
  | .warmReset => warmReset s

/-! ### Interrupt-type entries -/

/-- INTERRUPT (R850): EXC_SUM[REG] is UNPREDICTABLE, and no other field is named. -/
def takeInterrupt (s : State) : State := takeException s .interrupt (faultPc s) (some id)

/-- MCHK (R860): the Istream request is cleared by the entry, the Dstream request stays (D33). -/
def takeMachineCheck (s : State) : State :=
  takeException { s with mchkIReq := false } .mchk (faultPc s) (some id)

/-- A machine check is deliverable. -/
def mchkPending (s : State) : Bool := !s.palMode && (s.mchkDReq || s.mchkIReq)

/-- An interrupt is deliverable (R850). -/
def interruptPending (s : State) : Bool := !s.palMode && isum s != 0

end Sys2Proof.Machine
end

