-- ==== Sys2Proof/WellFormed.lean ====
section
/-! DEFINITION. Which instruction terms the spec gives a meaning: the operand fields it reserves hold what it asks for.
A term that fails a check is refused by name by its meaning. -/

namespace Sys2Proof

/-- The reserved operand fields of an instruction hold the values the spec requires: HW_RET with RA = 31
(spec/49_palcode_instr.md R812, D29), and the HW_LD and HW_ST types that Tables 6-3 and 6-4 list (R806, R808). Every other field may hold any value: the fields an
instruction does not read are ignored (spec/93_implementation_defined.md A4, A26; spec/46_fp_operate.md R601). -/
def Instr.wellFormed : Instr → Bool
  | .hwRet ra _ _ _ _ => ra == 31
  | .hwLd _ _ ty _ _ => ty != 3
  | .hwSt _ _ ty _ _ => ty == 0 || ty == 1 || ty == 2 || ty == 6
  | .callPal .. | .opc01 .. | .opc02 .. | .opc03 .. | .opc04 .. | .opc05 .. | .opc06 .. | .opc07 .. | .lda ..
  | .ldah .. | .ldbu .. | .ldqU .. | .ldwu .. | .stw .. | .stb .. | .stqU .. | .ldf .. | .ldg .. | .lds .. | .ldt ..
  | .stf .. | .stg .. | .sts .. | .stt .. | .ldl .. | .ldq .. | .ldlL .. | .ldqL .. | .stl .. | .stq .. | .stlC ..
  | .stqC .. | .br .. | .fbeq .. | .fblt .. | .fble .. | .bsr .. | .fbne .. | .fbge .. | .fbgt .. | .blbc ..
  | .beq .. | .blt .. | .ble .. | .blbs .. | .bne .. | .bge .. | .bgt .. | .jmp .. | .jsr .. | .ret ..
  | .jsrCoroutine .. | .addl .. | .s4addl .. | .subl .. | .s4subl .. | .cmpbge .. | .s8addl .. | .s8subl ..
  | .cmpult .. | .addq .. | .s4addq .. | .subq .. | .s4subq .. | .cmpeq .. | .s8addq .. | .s8subq .. | .cmpule ..
  | .addlV .. | .sublV .. | .cmplt .. | .addqV .. | .subqV .. | .cmple .. | .and .. | .bic .. | .cmovlbs ..
  | .cmovlbc .. | .bis .. | .cmoveq .. | .cmovne .. | .ornot .. | .xor .. | .cmovlt .. | .cmovge .. | .eqv ..
  | .amask .. | .cmovle .. | .cmovgt .. | .implver .. | .mskbl .. | .extbl .. | .insbl .. | .mskwl .. | .extwl ..
  | .inswl .. | .mskll .. | .extll .. | .insll .. | .zap .. | .zapnot .. | .mskql .. | .srl .. | .extql .. | .sll ..
  | .insql .. | .sra .. | .mskwh .. | .inswh .. | .extwh .. | .msklh .. | .inslh .. | .extlh .. | .mskqh ..
  | .insqh .. | .extqh .. | .mull .. | .mulq .. | .umulh .. | .mullV .. | .mulqV .. | .sextb .. | .sextw ..
  | .ctpop .. | .perr .. | .ctlz .. | .cttz .. | .unpkbw .. | .unpkbl .. | .pkwb .. | .pklb .. | .minsb8 ..
  | .minsw4 .. | .minub8 .. | .minuw4 .. | .maxub8 .. | .maxuw4 .. | .maxsb8 .. | .maxsw4 .. | .ftoit .. | .ftois ..
  | .itofs .. | .itoff .. | .itoft .. | .sqrtfC .. | .sqrtsC .. | .sqrtgC .. | .sqrttC .. | .sqrtsM .. | .sqrttM ..
  | .sqrtf .. | .sqrts .. | .sqrtg .. | .sqrtt .. | .sqrtsD .. | .sqrttD .. | .sqrtfUc .. | .sqrtsUc .. | .sqrtgUc ..
  | .sqrttUc .. | .sqrtsUm .. | .sqrttUm .. | .sqrtfU .. | .sqrtsU .. | .sqrtgU .. | .sqrttU .. | .sqrtsUd ..
  | .sqrttUd .. | .sqrtfSc .. | .sqrtgSc .. | .sqrtfS .. | .sqrtgS .. | .sqrtfSuc .. | .sqrtsSuc .. | .sqrtgSuc ..
  | .sqrttSuc .. | .sqrtsSum .. | .sqrttSum .. | .sqrtfSu .. | .sqrtsSu .. | .sqrtgSu .. | .sqrttSu .. | .sqrtsSud ..
  | .sqrttSud .. | .sqrtsSuic .. | .sqrttSuic .. | .sqrtsSuim .. | .sqrttSuim .. | .sqrtsSui .. | .sqrttSui ..
  | .sqrtsSuid .. | .sqrttSuid .. | .addfC .. | .subfC .. | .mulfC .. | .divfC .. | .cvtdgC .. | .addgC ..
  | .subgC .. | .mulgC .. | .divgC .. | .cvtgfC .. | .cvtgdC .. | .cvtgqC .. | .cvtqfC .. | .cvtqgC .. | .addf ..
  | .subf .. | .mulf .. | .divf .. | .cvtdg .. | .addg .. | .subg .. | .mulg .. | .divg .. | .cmpgeq .. | .cmpglt ..
  | .cmpgle .. | .cvtgf .. | .cvtgd .. | .cvtgq .. | .cvtqf .. | .cvtqg .. | .addfUc .. | .subfUc .. | .mulfUc ..
  | .divfUc .. | .cvtdgUc .. | .addgUc .. | .subgUc .. | .mulgUc .. | .divgUc .. | .cvtgfUc .. | .cvtgdUc ..
  | .cvtgqVc .. | .addfU .. | .subfU .. | .mulfU .. | .divfU .. | .cvtdgU .. | .addgU .. | .subgU .. | .mulgU ..
  | .divgU .. | .cvtgfU .. | .cvtgdU .. | .cvtgqV .. | .addfSc .. | .subfSc .. | .mulfSc .. | .divfSc ..
  | .cvtdgSc .. | .addgSc .. | .subgSc .. | .mulgSc .. | .divgSc .. | .cvtgfSc .. | .cvtgdSc .. | .cvtgqSc ..
  | .addfS .. | .subfS .. | .mulfS .. | .divfS .. | .cvtdgS .. | .addgS .. | .subgS .. | .mulgS .. | .divgS ..
  | .cmpgeqS .. | .cmpgltS .. | .cmpgleS .. | .cvtgfS .. | .cvtgdS .. | .cvtgqS .. | .addfSuc .. | .subfSuc ..
  | .mulfSuc .. | .divfSuc .. | .cvtdgSuc .. | .addgSuc .. | .subgSuc .. | .mulgSuc .. | .divgSuc .. | .cvtgfSuc ..
  | .cvtgdSuc .. | .cvtgqSvc .. | .addfSu .. | .subfSu .. | .mulfSu .. | .divfSu .. | .cvtdgSu .. | .addgSu ..
  | .subgSu .. | .mulgSu .. | .divgSu .. | .cvtgfSu .. | .cvtgdSu .. | .cvtgqSv .. | .addsC .. | .subsC ..
  | .mulsC .. | .divsC .. | .addtC .. | .subtC .. | .multC .. | .divtC .. | .cvttsC .. | .cvttqC .. | .cvtqsC ..
  | .cvtqtC .. | .addsM .. | .subsM .. | .mulsM .. | .divsM .. | .addtM .. | .subtM .. | .multM .. | .divtM ..
  | .cvttsM .. | .cvttqM .. | .cvtqsM .. | .cvtqtM .. | .adds .. | .subs .. | .muls .. | .divs .. | .addt ..
  | .subt .. | .mult .. | .divt .. | .cmptun .. | .cmpteq .. | .cmptlt .. | .cmptle .. | .cvtts .. | .cvttq ..
  | .cvtqs .. | .cvtqt .. | .addsD .. | .subsD .. | .mulsD .. | .divsD .. | .addtD .. | .subtD .. | .multD ..
  | .divtD .. | .cvttsD .. | .cvttqD .. | .cvtqsD .. | .cvtqtD .. | .addsUc .. | .subsUc .. | .mulsUc .. | .divsUc ..
  | .addtUc .. | .subtUc .. | .multUc .. | .divtUc .. | .cvttsUc .. | .cvttqVc .. | .addsUm .. | .subsUm ..
  | .mulsUm .. | .divsUm .. | .addtUm .. | .subtUm .. | .multUm .. | .divtUm .. | .cvttsUm .. | .cvttqVm ..
  | .addsU .. | .subsU .. | .mulsU .. | .divsU .. | .addtU .. | .subtU .. | .multU .. | .divtU .. | .cvttsU ..
  | .cvttqV .. | .addsUd .. | .subsUd .. | .mulsUd .. | .divsUd .. | .addtUd .. | .subtUd .. | .multUd ..
  | .divtUd .. | .cvttsUd .. | .cvttqVd .. | .cvtst .. | .addsSuc .. | .subsSuc .. | .mulsSuc .. | .divsSuc ..
  | .addtSuc .. | .subtSuc .. | .multSuc .. | .divtSuc .. | .cvttsSuc .. | .cvttqSvc .. | .addsSum .. | .subsSum ..
  | .mulsSum .. | .divsSum .. | .addtSum .. | .subtSum .. | .multSum .. | .divtSum .. | .cvttsSum .. | .cvttqSvm ..
  | .addsSu .. | .subsSu .. | .mulsSu .. | .divsSu .. | .addtSu .. | .subtSu .. | .multSu .. | .divtSu ..
  | .cmptunSu .. | .cmpteqSu .. | .cmptltSu .. | .cmptleSu .. | .cvttsSu .. | .cvttqSv .. | .addsSud .. | .subsSud ..
  | .mulsSud .. | .divsSud .. | .addtSud .. | .subtSud .. | .multSud .. | .divtSud .. | .cvttsSud .. | .cvttqSvd ..
  | .cvtstS .. | .addsSuic .. | .subsSuic .. | .mulsSuic .. | .divsSuic .. | .addtSuic .. | .subtSuic ..
  | .multSuic .. | .divtSuic .. | .cvttsSuic .. | .cvttqSvic .. | .cvtqsSuic .. | .cvtqtSuic .. | .addsSuim ..
  | .subsSuim .. | .mulsSuim .. | .divsSuim .. | .addtSuim .. | .subtSuim .. | .multSuim .. | .divtSuim ..
  | .cvttsSuim .. | .cvttqSvim .. | .cvtqsSuim .. | .cvtqtSuim .. | .addsSui .. | .subsSui .. | .mulsSui ..
  | .divsSui .. | .addtSui .. | .subtSui .. | .multSui .. | .divtSui .. | .cvttsSui .. | .cvttqSvi .. | .cvtqsSui ..
  | .cvtqtSui .. | .addsSuid .. | .subsSuid .. | .mulsSuid .. | .divsSuid .. | .addtSuid .. | .subtSuid ..
  | .multSuid .. | .divtSuid .. | .cvttsSuid .. | .cvttqSvid .. | .cvtqsSuid .. | .cvtqtSuid .. | .cvtlq ..
  | .cpys .. | .cpysn .. | .cpyse .. | .mtFpcr .. | .mfFpcr .. | .fcmoveq .. | .fcmovne .. | .fcmovlt ..
  | .fcmovge .. | .fcmovle .. | .fcmovgt .. | .cvtql .. | .cvtqlV .. | .cvtqlSv .. | .trapb .. | .excb .. | .mb ..
  | .wmb .. | .fetch .. | .fetchM .. | .rpcc .. | .rc .. | .ecb .. | .rs .. | .wh64 .. | .hwMfpr .. | .hwMtpr .. => true

end Sys2Proof
end

