-- ==== Sys2Proof/Decode.lean ====
section
/-! DEFINITION. The decoder, total on any 32-bit word, and the encoder written from the same tables (spec/30_encoding.md).
`noncomputable` is Lean's runtime limit on types of more than 245 constructors, nothing else: the kernel evaluates every definition here. -/

namespace Sys2Proof

/-- Why a word is not an instruction. -/
inductive Reject where
  /-- An encoding that Table 6-8 names: the machine takes OPCDEC (R341 (d), (e); R834). -/
  | opcdec
  /-- A function code that no table of Appendix A lists, in an opcode whose function field Table 6-8 does not name:
  the spec gives it no behaviour (R342, A25), and the machine refuses it by name. -/
  | unlisted (opcode : BitVec 6)
  deriving DecidableEq, Repr

/-! ### Fields (R330 to R336) -/

/-- The opcode, bits [31:26] of every format. -/
def opcodeOf (w : BitVec 32) : BitVec 6 := w.extractLsb' 26 6
/-- Ra or Fa, bits [25:21]. -/
def fieldA (w : BitVec 32) : Reg := w.extractLsb' 21 5
/-- Rb or Fb, bits [20:16]. -/
def fieldB (w : BitVec 32) : Reg := w.extractLsb' 16 5
/-- Rc or Fc, bits [4:0]. -/
def fieldC (w : BitVec 32) : Reg := w.extractLsb' 0 5
/-- The second operand of the Opr format: bit 12 selects the literal [20:13]; in the register form
bits [15:13] are ignored (R333, D21). -/
def fieldOperand (w : BitVec 32) : Operand :=
  if w.extractLsb' 12 1 = 1 then .lit (w.extractLsb' 13 8) else .reg (fieldB w)
/-- The Opr function code, bits [11:5]. -/
def oprFunction (w : BitVec 32) : BitVec 7 := w.extractLsb' 5 7
/-- The F-P function code, bits [15:5]. -/
def fpFunction (w : BitVec 32) : BitVec 11 := w.extractLsb' 5 11

/-! ### Function-code tables (R345 to R348) -/

abbrev OprTable := List (BitVec 7 × (Reg → Operand → Reg → Instr))
abbrev FpTable := List (BitVec 11 × (Reg → Reg → Reg → Instr))

/-- Opcode 10, integer arithmetic (R345). -/
noncomputable def intaTable : OprTable :=
  [(0x00, .addl), (0x02, .s4addl), (0x09, .subl), (0x0B, .s4subl), (0x0F, .cmpbge), (0x12, .s8addl),
   (0x1B, .s8subl), (0x1D, .cmpult), (0x20, .addq), (0x22, .s4addq), (0x29, .subq), (0x2B, .s4subq),
   (0x2D, .cmpeq), (0x32, .s8addq), (0x3B, .s8subq), (0x3D, .cmpule), (0x40, .addlV), (0x49, .sublV),
   (0x4D, .cmplt), (0x60, .addqV), (0x69, .subqV), (0x6D, .cmple)]

/-- Opcode 11, integer logical (R345). -/
noncomputable def intlTable : OprTable :=
  [(0x00, .and), (0x08, .bic), (0x14, .cmovlbs), (0x16, .cmovlbc), (0x20, .bis), (0x24, .cmoveq), (0x26, .cmovne),
   (0x28, .ornot), (0x40, .xor), (0x44, .cmovlt), (0x46, .cmovge), (0x48, .eqv), (0x61, .amask), (0x64, .cmovle),
   (0x66, .cmovgt), (0x6C, .implver)]

/-- Opcode 12, shift and byte manipulation (R345). -/
noncomputable def intsTable : OprTable :=
  [(0x02, .mskbl), (0x06, .extbl), (0x0B, .insbl), (0x12, .mskwl), (0x16, .extwl), (0x1B, .inswl), (0x22, .mskll),
   (0x26, .extll), (0x2B, .insll), (0x30, .zap), (0x31, .zapnot), (0x32, .mskql), (0x34, .srl), (0x36, .extql),
   (0x39, .sll), (0x3B, .insql), (0x3C, .sra), (0x52, .mskwh), (0x57, .inswh), (0x5A, .extwh), (0x62, .msklh),
   (0x67, .inslh), (0x6A, .extlh), (0x72, .mskqh), (0x77, .insqh), (0x7A, .extqh)]

/-- Opcode 13, integer multiply (R345). -/
noncomputable def intmTable : OprTable :=
  [(0x00, .mull), (0x20, .mulq), (0x30, .umulh), (0x40, .mullV), (0x60, .mulqV)]

/-- Opcode 1C, count, byte/word and multimedia (R345). -/
noncomputable def fptiTable : OprTable :=
  [(0x00, .sextb), (0x01, .sextw), (0x30, .ctpop), (0x31, .perr), (0x32, .ctlz), (0x33, .cttz), (0x34, .unpkbw),
   (0x35, .unpkbl), (0x36, .pkwb), (0x37, .pklb), (0x38, .minsb8), (0x39, .minsw4), (0x3A, .minub8),
   (0x3B, .minuw4), (0x3C, .maxub8), (0x3D, .maxuw4), (0x3E, .maxsb8), (0x3F, .maxsw4)]

noncomputable def itofRows : FpTable :=
  [(0x004, .itofs), (0x014, .itoff), (0x024, .itoft)]
noncomputable def sqrtfRows : FpTable :=
  [(0x00A, .sqrtfC), (0x08A, .sqrtf), (0x10A, .sqrtfUc), (0x18A, .sqrtfU), (0x40A, .sqrtfSc), (0x48A, .sqrtfS),
   (0x50A, .sqrtfSuc), (0x58A, .sqrtfSu)]
noncomputable def sqrtsRows : FpTable :=
  [(0x00B, .sqrtsC), (0x04B, .sqrtsM), (0x08B, .sqrts), (0x0CB, .sqrtsD), (0x10B, .sqrtsUc), (0x14B, .sqrtsUm),
   (0x18B, .sqrtsU), (0x1CB, .sqrtsUd), (0x50B, .sqrtsSuc), (0x54B, .sqrtsSum), (0x58B, .sqrtsSu),
   (0x5CB, .sqrtsSud), (0x70B, .sqrtsSuic), (0x74B, .sqrtsSuim), (0x78B, .sqrtsSui), (0x7CB, .sqrtsSuid)]
noncomputable def sqrtgRows : FpTable :=
  [(0x02A, .sqrtgC), (0x0AA, .sqrtg), (0x12A, .sqrtgUc), (0x1AA, .sqrtgU), (0x42A, .sqrtgSc), (0x4AA, .sqrtgS),
   (0x52A, .sqrtgSuc), (0x5AA, .sqrtgSu)]
noncomputable def sqrttRows : FpTable :=
  [(0x02B, .sqrttC), (0x06B, .sqrttM), (0x0AB, .sqrtt), (0x0EB, .sqrttD), (0x12B, .sqrttUc), (0x16B, .sqrttUm),
   (0x1AB, .sqrttU), (0x1EB, .sqrttUd), (0x52B, .sqrttSuc), (0x56B, .sqrttSum), (0x5AB, .sqrttSu),
   (0x5EB, .sqrttSud), (0x72B, .sqrttSuic), (0x76B, .sqrttSuim), (0x7AB, .sqrttSui), (0x7EB, .sqrttSuid)]

/-- Opcode 14: ITOFx and square root (R345 to R348). -/
noncomputable def itfpTable : FpTable :=
  itofRows ++ sqrtfRows ++ sqrtsRows ++ sqrtgRows ++ sqrttRows

noncomputable def addfRows : FpTable :=
  [(0x000, .addfC), (0x080, .addf), (0x100, .addfUc), (0x180, .addfU), (0x400, .addfSc), (0x480, .addfS),
   (0x500, .addfSuc), (0x580, .addfSu)]
noncomputable def subfRows : FpTable :=
  [(0x001, .subfC), (0x081, .subf), (0x101, .subfUc), (0x181, .subfU), (0x401, .subfSc), (0x481, .subfS),
   (0x501, .subfSuc), (0x581, .subfSu)]
noncomputable def mulfRows : FpTable :=
  [(0x002, .mulfC), (0x082, .mulf), (0x102, .mulfUc), (0x182, .mulfU), (0x402, .mulfSc), (0x482, .mulfS),
   (0x502, .mulfSuc), (0x582, .mulfSu)]
noncomputable def divfRows : FpTable :=
  [(0x003, .divfC), (0x083, .divf), (0x103, .divfUc), (0x183, .divfU), (0x403, .divfSc), (0x483, .divfS),
   (0x503, .divfSuc), (0x583, .divfSu)]
noncomputable def cvtdgRows : FpTable :=
  [(0x01E, .cvtdgC), (0x09E, .cvtdg), (0x11E, .cvtdgUc), (0x19E, .cvtdgU), (0x41E, .cvtdgSc), (0x49E, .cvtdgS),
   (0x51E, .cvtdgSuc), (0x59E, .cvtdgSu)]
noncomputable def addgRows : FpTable :=
  [(0x020, .addgC), (0x0A0, .addg), (0x120, .addgUc), (0x1A0, .addgU), (0x420, .addgSc), (0x4A0, .addgS),
   (0x520, .addgSuc), (0x5A0, .addgSu)]
noncomputable def subgRows : FpTable :=
  [(0x021, .subgC), (0x0A1, .subg), (0x121, .subgUc), (0x1A1, .subgU), (0x421, .subgSc), (0x4A1, .subgS),
   (0x521, .subgSuc), (0x5A1, .subgSu)]
noncomputable def mulgRows : FpTable :=
  [(0x022, .mulgC), (0x0A2, .mulg), (0x122, .mulgUc), (0x1A2, .mulgU), (0x422, .mulgSc), (0x4A2, .mulgS),
   (0x522, .mulgSuc), (0x5A2, .mulgSu)]
noncomputable def divgRows : FpTable :=
  [(0x023, .divgC), (0x0A3, .divg), (0x123, .divgUc), (0x1A3, .divgU), (0x423, .divgSc), (0x4A3, .divgS),
   (0x523, .divgSuc), (0x5A3, .divgSu)]
noncomputable def cvtgfRows : FpTable :=
  [(0x02C, .cvtgfC), (0x0AC, .cvtgf), (0x12C, .cvtgfUc), (0x1AC, .cvtgfU), (0x42C, .cvtgfSc), (0x4AC, .cvtgfS),
   (0x52C, .cvtgfSuc), (0x5AC, .cvtgfSu)]
noncomputable def cvtgdRows : FpTable :=
  [(0x02D, .cvtgdC), (0x0AD, .cvtgd), (0x12D, .cvtgdUc), (0x1AD, .cvtgdU), (0x42D, .cvtgdSc), (0x4AD, .cvtgdS),
   (0x52D, .cvtgdSuc), (0x5AD, .cvtgdSu)]
noncomputable def cvtgqRows : FpTable :=
  [(0x02F, .cvtgqC), (0x0AF, .cvtgq), (0x12F, .cvtgqVc), (0x1AF, .cvtgqV), (0x42F, .cvtgqSc), (0x4AF, .cvtgqS),
   (0x52F, .cvtgqSvc), (0x5AF, .cvtgqSv)]
noncomputable def cvtqfRows : FpTable :=
  [(0x03C, .cvtqfC), (0x0BC, .cvtqf)]
noncomputable def cvtqgRows : FpTable :=
  [(0x03E, .cvtqgC), (0x0BE, .cvtqg)]
noncomputable def cmpgeqRows : FpTable :=
  [(0x0A5, .cmpgeq), (0x4A5, .cmpgeqS)]
noncomputable def cmpgltRows : FpTable :=
  [(0x0A6, .cmpglt), (0x4A6, .cmpgltS)]
noncomputable def cmpgleRows : FpTable :=
  [(0x0A7, .cmpgle), (0x4A7, .cmpgleS)]

/-- Opcode 15, VAX floating (R345 to R348). -/
noncomputable def fltvTable : FpTable :=
  addfRows ++ subfRows ++ mulfRows ++ divfRows ++ cvtdgRows ++ addgRows ++ subgRows ++ mulgRows ++ divgRows ++ cvtgfRows ++ cvtgdRows ++ cvtgqRows ++ cvtqfRows ++ cvtqgRows ++ cmpgeqRows ++ cmpgltRows ++ cmpgleRows

noncomputable def addsRows : FpTable :=
  [(0x000, .addsC), (0x040, .addsM), (0x080, .adds), (0x0C0, .addsD), (0x100, .addsUc), (0x140, .addsUm),
   (0x180, .addsU), (0x1C0, .addsUd), (0x500, .addsSuc), (0x540, .addsSum), (0x580, .addsSu), (0x5C0, .addsSud),
   (0x700, .addsSuic), (0x740, .addsSuim), (0x780, .addsSui), (0x7C0, .addsSuid)]
noncomputable def subsRows : FpTable :=
  [(0x001, .subsC), (0x041, .subsM), (0x081, .subs), (0x0C1, .subsD), (0x101, .subsUc), (0x141, .subsUm),
   (0x181, .subsU), (0x1C1, .subsUd), (0x501, .subsSuc), (0x541, .subsSum), (0x581, .subsSu), (0x5C1, .subsSud),
   (0x701, .subsSuic), (0x741, .subsSuim), (0x781, .subsSui), (0x7C1, .subsSuid)]
noncomputable def mulsRows : FpTable :=
  [(0x002, .mulsC), (0x042, .mulsM), (0x082, .muls), (0x0C2, .mulsD), (0x102, .mulsUc), (0x142, .mulsUm),
   (0x182, .mulsU), (0x1C2, .mulsUd), (0x502, .mulsSuc), (0x542, .mulsSum), (0x582, .mulsSu), (0x5C2, .mulsSud),
   (0x702, .mulsSuic), (0x742, .mulsSuim), (0x782, .mulsSui), (0x7C2, .mulsSuid)]
noncomputable def divsRows : FpTable :=
  [(0x003, .divsC), (0x043, .divsM), (0x083, .divs), (0x0C3, .divsD), (0x103, .divsUc), (0x143, .divsUm),
   (0x183, .divsU), (0x1C3, .divsUd), (0x503, .divsSuc), (0x543, .divsSum), (0x583, .divsSu), (0x5C3, .divsSud),
   (0x703, .divsSuic), (0x743, .divsSuim), (0x783, .divsSui), (0x7C3, .divsSuid)]
noncomputable def addtRows : FpTable :=
  [(0x020, .addtC), (0x060, .addtM), (0x0A0, .addt), (0x0E0, .addtD), (0x120, .addtUc), (0x160, .addtUm),
   (0x1A0, .addtU), (0x1E0, .addtUd), (0x520, .addtSuc), (0x560, .addtSum), (0x5A0, .addtSu), (0x5E0, .addtSud),
   (0x720, .addtSuic), (0x760, .addtSuim), (0x7A0, .addtSui), (0x7E0, .addtSuid)]
noncomputable def subtRows : FpTable :=
  [(0x021, .subtC), (0x061, .subtM), (0x0A1, .subt), (0x0E1, .subtD), (0x121, .subtUc), (0x161, .subtUm),
   (0x1A1, .subtU), (0x1E1, .subtUd), (0x521, .subtSuc), (0x561, .subtSum), (0x5A1, .subtSu), (0x5E1, .subtSud),
   (0x721, .subtSuic), (0x761, .subtSuim), (0x7A1, .subtSui), (0x7E1, .subtSuid)]
noncomputable def multRows : FpTable :=
  [(0x022, .multC), (0x062, .multM), (0x0A2, .mult), (0x0E2, .multD), (0x122, .multUc), (0x162, .multUm),
   (0x1A2, .multU), (0x1E2, .multUd), (0x522, .multSuc), (0x562, .multSum), (0x5A2, .multSu), (0x5E2, .multSud),
   (0x722, .multSuic), (0x762, .multSuim), (0x7A2, .multSui), (0x7E2, .multSuid)]
noncomputable def divtRows : FpTable :=
  [(0x023, .divtC), (0x063, .divtM), (0x0A3, .divt), (0x0E3, .divtD), (0x123, .divtUc), (0x163, .divtUm),
   (0x1A3, .divtU), (0x1E3, .divtUd), (0x523, .divtSuc), (0x563, .divtSum), (0x5A3, .divtSu), (0x5E3, .divtSud),
   (0x723, .divtSuic), (0x763, .divtSuim), (0x7A3, .divtSui), (0x7E3, .divtSuid)]
noncomputable def cvttsRows : FpTable :=
  [(0x02C, .cvttsC), (0x06C, .cvttsM), (0x0AC, .cvtts), (0x0EC, .cvttsD), (0x12C, .cvttsUc), (0x16C, .cvttsUm),
   (0x1AC, .cvttsU), (0x1EC, .cvttsUd), (0x52C, .cvttsSuc), (0x56C, .cvttsSum), (0x5AC, .cvttsSu),
   (0x5EC, .cvttsSud), (0x72C, .cvttsSuic), (0x76C, .cvttsSuim), (0x7AC, .cvttsSui), (0x7EC, .cvttsSuid)]
noncomputable def cvttqRows : FpTable :=
  [(0x02F, .cvttqC), (0x06F, .cvttqM), (0x0AF, .cvttq), (0x0EF, .cvttqD), (0x12F, .cvttqVc), (0x16F, .cvttqVm),
   (0x1AF, .cvttqV), (0x1EF, .cvttqVd), (0x52F, .cvttqSvc), (0x56F, .cvttqSvm), (0x5AF, .cvttqSv),
   (0x5EF, .cvttqSvd), (0x72F, .cvttqSvic), (0x76F, .cvttqSvim), (0x7AF, .cvttqSvi), (0x7EF, .cvttqSvid)]
noncomputable def cvtqsRows : FpTable :=
  [(0x03C, .cvtqsC), (0x07C, .cvtqsM), (0x0BC, .cvtqs), (0x0FC, .cvtqsD), (0x73C, .cvtqsSuic), (0x77C, .cvtqsSuim),
   (0x7BC, .cvtqsSui), (0x7FC, .cvtqsSuid)]
noncomputable def cvtqtRows : FpTable :=
  [(0x03E, .cvtqtC), (0x07E, .cvtqtM), (0x0BE, .cvtqt), (0x0FE, .cvtqtD), (0x73E, .cvtqtSuic), (0x77E, .cvtqtSuim),
   (0x7BE, .cvtqtSui), (0x7FE, .cvtqtSuid)]
noncomputable def cmptunRows : FpTable :=
  [(0x0A4, .cmptun), (0x5A4, .cmptunSu)]
noncomputable def cmpteqRows : FpTable :=
  [(0x0A5, .cmpteq), (0x5A5, .cmpteqSu)]
noncomputable def cmptltRows : FpTable :=
  [(0x0A6, .cmptlt), (0x5A6, .cmptltSu)]
noncomputable def cmptleRows : FpTable :=
  [(0x0A7, .cmptle), (0x5A7, .cmptleSu)]
noncomputable def cvtstRows : FpTable :=
  [(0x2AC, .cvtst), (0x6AC, .cvtstS)]

/-- Opcode 16, IEEE floating (R345 to R348). -/
noncomputable def fltiTable : FpTable :=
  addsRows ++ subsRows ++ mulsRows ++ divsRows ++ addtRows ++ subtRows ++ multRows ++ divtRows ++ cvttsRows ++ cvttqRows ++ cvtqsRows ++ cvtqtRows ++ cmptunRows ++ cmpteqRows ++ cmptltRows ++ cmptleRows ++ cvtstRows

noncomputable def fltlRows : FpTable :=
  [(0x010, .cvtlq), (0x020, .cpys), (0x021, .cpysn), (0x022, .cpyse), (0x024, .mtFpcr), (0x025, .mfFpcr),
   (0x02A, .fcmoveq), (0x02B, .fcmovne), (0x02C, .fcmovlt), (0x02D, .fcmovge), (0x02E, .fcmovle),
   (0x02F, .fcmovgt), (0x030, .cvtql), (0x130, .cvtqlV), (0x530, .cvtqlSv)]

/-- Opcode 17, datatype-independent floating (R345 to R348). -/
noncomputable def fltlTable : FpTable :=
  fltlRows

/-- Opcode 1C, FTOIx: function 70 and 78 with bits [15:12] zero, as an 11-bit code (R334, R343 (10)). -/
noncomputable def ftoiTable : FpTable :=
  [(0x070, .ftoit), (0x078, .ftois)]

/-- Opcode 18, miscellaneous: the function code is the displacement field (R345). -/
noncomputable def miscTable : List (BitVec 16 × (Reg → Reg → Instr)) :=
  [(0x0000, .trapb), (0x0400, .excb), (0x4000, .mb), (0x4400, .wmb), (0x8000, .fetch), (0xA000, .fetchM),
   (0xC000, .rpcc), (0xE000, .rc), (0xE800, .ecb), (0xF000, .rs), (0xF800, .wh64)]

/-- Whether the F-P function code names X_floating operands: the `src` field, bits [10:9] of the word, is 01
(R341 (d), spec/46_fp_operate.md R603). -/
def namesXFloating (w : BitVec 32) : Bool := w.extractLsb' 9 2 == 1

/-! ### The decoder (R343) -/

def decodeOpr (t : OprTable) (miss : Reject) (w : BitVec 32) : Except Reject Instr :=
  match t.lookup (oprFunction w) with
  | some k => .ok (k (fieldA w) (fieldOperand w) (fieldC w))
  | none => .error miss

def decodeFp (t : FpTable) (miss : Reject) (w : BitVec 32) : Except Reject Instr :=
  match t.lookup (fpFunction w) with
  | some k => .ok (k (fieldA w) (fieldB w) (fieldC w))
  | none => .error miss

/-- Opcode 16: X_floating function codes take OPCDEC, other unlisted ones have no stated behaviour. -/
noncomputable def decodeFlti (w : BitVec 32) : Except Reject Instr :=
  decodeFp fltiTable (if namesXFloating w then .opcdec else .unlisted 0x16) w

/-- Opcode 1C: the Opr functions, and FTOIx, whose bits [15:12] must be zero. -/
noncomputable def decodeFpti (w : BitVec 32) : Except Reject Instr :=
  if oprFunction w = 0x70 ∨ oprFunction w = 0x78 then decodeFp ftoiTable .opcdec w
  else decodeOpr fptiTable .opcdec w

noncomputable def decodeMisc (w : BitVec 32) : Except Reject Instr :=
  match miscTable.lookup (w.extractLsb' 0 16) with
  | some k => .ok (k (fieldA w) (fieldB w))
  | none => .error (.unlisted 0x18)

def decodeMem (k : Reg → Reg → BitVec 16 → Instr) (w : BitVec 32) : Except Reject Instr :=
  .ok (k (fieldA w) (fieldB w) (w.extractLsb' 0 16))

def decodeBra (k : Reg → BitVec 21 → Instr) (w : BitVec 32) : Except Reject Instr :=
  .ok (k (fieldA w) (w.extractLsb' 0 21))

def decodeRest (k : BitVec 26 → Instr) (w : BitVec 32) : Except Reject Instr :=
  .ok (k (w.extractLsb' 0 26))

/-- HW_LD and HW_ST (R336). -/
def decodeHwMem (k : Reg → Reg → BitVec 3 → BitVec 1 → BitVec 12 → Instr) (w : BitVec 32) : Except Reject Instr :=
  .ok (k (fieldA w) (fieldB w) (w.extractLsb' 13 3) (w.extractLsb' 12 1) (w.extractLsb' 0 12))

/-- HW_MFPR and HW_MTPR (R336). -/
def decodeHwIpr (k : Reg → Reg → BitVec 8 → BitVec 8 → Instr) (w : BitVec 32) : Except Reject Instr :=
  .ok (k (fieldA w) (fieldB w) (w.extractLsb' 8 8) (w.extractLsb' 0 8))

/-- HW_RET (R336). -/
noncomputable def decodeHwRet (w : BitVec 32) : Except Reject Instr :=
  .ok (.hwRet (fieldA w) (fieldB w) (w.extractLsb' 14 2) (w.extractLsb' 13 1) (w.extractLsb' 0 13))

/-- Opcode 1A: bits [15:14] select the jump (R331). -/
noncomputable def decodeJump (w : BitVec 32) : Except Reject Instr :=
  match (w.extractLsb' 14 2 : BitVec 2).toNat with
  | 0 => .ok (.jmp (fieldA w) (fieldB w) (w.extractLsb' 0 14))
  | 1 => .ok (.jsr (fieldA w) (fieldB w) (w.extractLsb' 0 14))
  | 2 => .ok (.ret (fieldA w) (fieldB w) (w.extractLsb' 0 14))
  | _ => .ok (.jsrCoroutine (fieldA w) (fieldB w) (w.extractLsb' 0 14))

/-- The instruction of a 32-bit word, or why there is none (R343). -/
noncomputable def decode (w : BitVec 32) : Except Reject Instr :=
  match (opcodeOf w).toNat with
  | 0x00 => decodeRest .callPal w
  | 0x01 => decodeRest .opc01 w
  | 0x02 => decodeRest .opc02 w
  | 0x03 => decodeRest .opc03 w
  | 0x04 => decodeRest .opc04 w
  | 0x05 => decodeRest .opc05 w
  | 0x06 => decodeRest .opc06 w
  | 0x07 => decodeRest .opc07 w
  | 0x08 => decodeMem .lda w
  | 0x09 => decodeMem .ldah w
  | 0x0A => decodeMem .ldbu w
  | 0x0B => decodeMem .ldqU w
  | 0x0C => decodeMem .ldwu w
  | 0x0D => decodeMem .stw w
  | 0x0E => decodeMem .stb w
  | 0x0F => decodeMem .stqU w
  | 0x10 => decodeOpr intaTable (.unlisted 0x10) w
  | 0x11 => decodeOpr intlTable (.unlisted 0x11) w
  | 0x12 => decodeOpr intsTable (.unlisted 0x12) w
  | 0x13 => decodeOpr intmTable (.unlisted 0x13) w
  | 0x14 => decodeFp itfpTable .opcdec w
  | 0x15 => decodeFp fltvTable (.unlisted 0x15) w
  | 0x16 => decodeFlti w
  | 0x17 => decodeFp fltlTable (.unlisted 0x17) w
  | 0x18 => decodeMisc w
  | 0x19 => decodeHwIpr .hwMfpr w
  | 0x1A => decodeJump w
  | 0x1B => decodeHwMem .hwLd w
  | 0x1C => decodeFpti w
  | 0x1D => decodeHwIpr .hwMtpr w
  | 0x1E => decodeHwRet w
  | 0x1F => decodeHwMem .hwSt w
  | 0x20 => decodeMem .ldf w
  | 0x21 => decodeMem .ldg w
  | 0x22 => decodeMem .lds w
  | 0x23 => decodeMem .ldt w
  | 0x24 => decodeMem .stf w
  | 0x25 => decodeMem .stg w
  | 0x26 => decodeMem .sts w
  | 0x27 => decodeMem .stt w
  | 0x28 => decodeMem .ldl w
  | 0x29 => decodeMem .ldq w
  | 0x2A => decodeMem .ldlL w
  | 0x2B => decodeMem .ldqL w
  | 0x2C => decodeMem .stl w
  | 0x2D => decodeMem .stq w
  | 0x2E => decodeMem .stlC w
  | 0x2F => decodeMem .stqC w
  | 0x30 => decodeBra .br w
  | 0x31 => decodeBra .fbeq w
  | 0x32 => decodeBra .fblt w
  | 0x33 => decodeBra .fble w
  | 0x34 => decodeBra .bsr w
  | 0x35 => decodeBra .fbne w
  | 0x36 => decodeBra .fbge w
  | 0x37 => decodeBra .fbgt w
  | 0x38 => decodeBra .blbc w
  | 0x39 => decodeBra .beq w
  | 0x3A => decodeBra .blt w
  | 0x3B => decodeBra .ble w
  | 0x3C => decodeBra .blbs w
  | 0x3D => decodeBra .bne w
  | 0x3E => decodeBra .bge w
  | _ => decodeBra .bgt w

/-! ### The encoder -/

/-- Opr format (R333). -/
def packOpr (op : BitVec 6) (f : BitVec 7) (ra : Reg) (rb : Operand) (rc : Reg) : BitVec 32 :=
  match rb with
  | .reg r => op ++ ra ++ r ++ 0#3 ++ 0#1 ++ f ++ rc
  | .lit v => op ++ ra ++ v ++ 1#1 ++ f ++ rc

/-- F-P format (R334). -/
def packFp (op : BitVec 6) (f : BitVec 11) (fa fb fc : Reg) : BitVec 32 := op ++ fa ++ fb ++ f ++ fc

/-- Mem and Mfc formats (R331). -/
def packMem (op : BitVec 6) (ra rb : Reg) (disp : BitVec 16) : BitVec 32 := op ++ ra ++ rb ++ disp

/-- Bra format (R332). -/
def packBra (op : BitVec 6) (ra : Reg) (disp : BitVec 21) : BitVec 32 := op ++ ra ++ disp

/-- Mbr format (R331). -/
def packJump (h : BitVec 2) (ra rb : Reg) (hint : BitVec 14) : BitVec 32 := 0x1A#6 ++ ra ++ rb ++ h ++ hint

/-- Pcd format, and the reserved opcodes (R335). -/
def packRest (op : BitVec 6) (rest : BitVec 26) : BitVec 32 := op ++ rest

/-- HW_LD and HW_ST (R336). -/
def packHwMem (op : BitVec 6) (ra rb : Reg) (ty : BitVec 3) (len : BitVec 1) (disp : BitVec 12) : BitVec 32 :=
  op ++ ra ++ rb ++ ty ++ len ++ disp

/-- HW_MFPR and HW_MTPR (R336). -/
def packHwIpr (op : BitVec 6) (ra rb : Reg) (index scbd : BitVec 8) : BitVec 32 := op ++ ra ++ rb ++ index ++ scbd

/-- HW_RET (R336). -/
def packHwRet (ra rb : Reg) (hint : BitVec 2) (stall : BitVec 1) (disp : BitVec 13) : BitVec 32 :=
  0x1E#6 ++ ra ++ rb ++ hint ++ stall ++ disp

/-- The word of an instruction. -/
def encode : Instr → BitVec 32
  | .callPal fn => packRest 0x00 fn
  | .opc01 rest => packRest 0x01 rest
  | .opc02 rest => packRest 0x02 rest
  | .opc03 rest => packRest 0x03 rest
  | .opc04 rest => packRest 0x04 rest
  | .opc05 rest => packRest 0x05 rest
  | .opc06 rest => packRest 0x06 rest
  | .opc07 rest => packRest 0x07 rest
  | .lda ra rb disp => packMem 0x08 ra rb disp
  | .ldah ra rb disp => packMem 0x09 ra rb disp
  | .ldbu ra rb disp => packMem 0x0A ra rb disp
  | .ldqU ra rb disp => packMem 0x0B ra rb disp
  | .ldwu ra rb disp => packMem 0x0C ra rb disp
  | .stw ra rb disp => packMem 0x0D ra rb disp
  | .stb ra rb disp => packMem 0x0E ra rb disp
  | .stqU ra rb disp => packMem 0x0F ra rb disp
  | .ldf fa rb disp => packMem 0x20 fa rb disp
  | .ldg fa rb disp => packMem 0x21 fa rb disp
  | .lds fa rb disp => packMem 0x22 fa rb disp
  | .ldt fa rb disp => packMem 0x23 fa rb disp
  | .stf fa rb disp => packMem 0x24 fa rb disp
  | .stg fa rb disp => packMem 0x25 fa rb disp
  | .sts fa rb disp => packMem 0x26 fa rb disp
  | .stt fa rb disp => packMem 0x27 fa rb disp
  | .ldl ra rb disp => packMem 0x28 ra rb disp
  | .ldq ra rb disp => packMem 0x29 ra rb disp
  | .ldlL ra rb disp => packMem 0x2A ra rb disp
  | .ldqL ra rb disp => packMem 0x2B ra rb disp
  | .stl ra rb disp => packMem 0x2C ra rb disp
  | .stq ra rb disp => packMem 0x2D ra rb disp
  | .stlC ra rb disp => packMem 0x2E ra rb disp
  | .stqC ra rb disp => packMem 0x2F ra rb disp
  | .br ra disp => packBra 0x30 ra disp
  | .fbeq fa disp => packBra 0x31 fa disp
  | .fblt fa disp => packBra 0x32 fa disp
  | .fble fa disp => packBra 0x33 fa disp
  | .bsr ra disp => packBra 0x34 ra disp
  | .fbne fa disp => packBra 0x35 fa disp
  | .fbge fa disp => packBra 0x36 fa disp
  | .fbgt fa disp => packBra 0x37 fa disp
  | .blbc ra disp => packBra 0x38 ra disp
  | .beq ra disp => packBra 0x39 ra disp
  | .blt ra disp => packBra 0x3A ra disp
  | .ble ra disp => packBra 0x3B ra disp
  | .blbs ra disp => packBra 0x3C ra disp
  | .bne ra disp => packBra 0x3D ra disp
  | .bge ra disp => packBra 0x3E ra disp
  | .bgt ra disp => packBra 0x3F ra disp
  | .jmp ra rb hint => packJump 0 ra rb hint
  | .jsr ra rb hint => packJump 1 ra rb hint
  | .ret ra rb hint => packJump 2 ra rb hint
  | .jsrCoroutine ra rb hint => packJump 3 ra rb hint
  | .addl ra rb rc => packOpr 0x10 0x00 ra rb rc
  | .s4addl ra rb rc => packOpr 0x10 0x02 ra rb rc
  | .subl ra rb rc => packOpr 0x10 0x09 ra rb rc
  | .s4subl ra rb rc => packOpr 0x10 0x0B ra rb rc
  | .cmpbge ra rb rc => packOpr 0x10 0x0F ra rb rc
  | .s8addl ra rb rc => packOpr 0x10 0x12 ra rb rc
  | .s8subl ra rb rc => packOpr 0x10 0x1B ra rb rc
  | .cmpult ra rb rc => packOpr 0x10 0x1D ra rb rc
  | .addq ra rb rc => packOpr 0x10 0x20 ra rb rc
  | .s4addq ra rb rc => packOpr 0x10 0x22 ra rb rc
  | .subq ra rb rc => packOpr 0x10 0x29 ra rb rc
  | .s4subq ra rb rc => packOpr 0x10 0x2B ra rb rc
  | .cmpeq ra rb rc => packOpr 0x10 0x2D ra rb rc
  | .s8addq ra rb rc => packOpr 0x10 0x32 ra rb rc
  | .s8subq ra rb rc => packOpr 0x10 0x3B ra rb rc
  | .cmpule ra rb rc => packOpr 0x10 0x3D ra rb rc
  | .addlV ra rb rc => packOpr 0x10 0x40 ra rb rc
  | .sublV ra rb rc => packOpr 0x10 0x49 ra rb rc
  | .cmplt ra rb rc => packOpr 0x10 0x4D ra rb rc
  | .addqV ra rb rc => packOpr 0x10 0x60 ra rb rc
  | .subqV ra rb rc => packOpr 0x10 0x69 ra rb rc
  | .cmple ra rb rc => packOpr 0x10 0x6D ra rb rc
  | .and ra rb rc => packOpr 0x11 0x00 ra rb rc
  | .bic ra rb rc => packOpr 0x11 0x08 ra rb rc
  | .cmovlbs ra rb rc => packOpr 0x11 0x14 ra rb rc
  | .cmovlbc ra rb rc => packOpr 0x11 0x16 ra rb rc
  | .bis ra rb rc => packOpr 0x11 0x20 ra rb rc
  | .cmoveq ra rb rc => packOpr 0x11 0x24 ra rb rc
  | .cmovne ra rb rc => packOpr 0x11 0x26 ra rb rc
  | .ornot ra rb rc => packOpr 0x11 0x28 ra rb rc
  | .xor ra rb rc => packOpr 0x11 0x40 ra rb rc
  | .cmovlt ra rb rc => packOpr 0x11 0x44 ra rb rc
  | .cmovge ra rb rc => packOpr 0x11 0x46 ra rb rc
  | .eqv ra rb rc => packOpr 0x11 0x48 ra rb rc
  | .amask ra rb rc => packOpr 0x11 0x61 ra rb rc
  | .cmovle ra rb rc => packOpr 0x11 0x64 ra rb rc
  | .cmovgt ra rb rc => packOpr 0x11 0x66 ra rb rc
  | .implver ra rb rc => packOpr 0x11 0x6C ra rb rc
  | .mskbl ra rb rc => packOpr 0x12 0x02 ra rb rc
  | .extbl ra rb rc => packOpr 0x12 0x06 ra rb rc
  | .insbl ra rb rc => packOpr 0x12 0x0B ra rb rc
  | .mskwl ra rb rc => packOpr 0x12 0x12 ra rb rc
  | .extwl ra rb rc => packOpr 0x12 0x16 ra rb rc
  | .inswl ra rb rc => packOpr 0x12 0x1B ra rb rc
  | .mskll ra rb rc => packOpr 0x12 0x22 ra rb rc
  | .extll ra rb rc => packOpr 0x12 0x26 ra rb rc
  | .insll ra rb rc => packOpr 0x12 0x2B ra rb rc
  | .zap ra rb rc => packOpr 0x12 0x30 ra rb rc
  | .zapnot ra rb rc => packOpr 0x12 0x31 ra rb rc
  | .mskql ra rb rc => packOpr 0x12 0x32 ra rb rc
  | .srl ra rb rc => packOpr 0x12 0x34 ra rb rc
  | .extql ra rb rc => packOpr 0x12 0x36 ra rb rc
  | .sll ra rb rc => packOpr 0x12 0x39 ra rb rc
  | .insql ra rb rc => packOpr 0x12 0x3B ra rb rc
  | .sra ra rb rc => packOpr 0x12 0x3C ra rb rc
  | .mskwh ra rb rc => packOpr 0x12 0x52 ra rb rc
  | .inswh ra rb rc => packOpr 0x12 0x57 ra rb rc
  | .extwh ra rb rc => packOpr 0x12 0x5A ra rb rc
  | .msklh ra rb rc => packOpr 0x12 0x62 ra rb rc
  | .inslh ra rb rc => packOpr 0x12 0x67 ra rb rc
  | .extlh ra rb rc => packOpr 0x12 0x6A ra rb rc
  | .mskqh ra rb rc => packOpr 0x12 0x72 ra rb rc
  | .insqh ra rb rc => packOpr 0x12 0x77 ra rb rc
  | .extqh ra rb rc => packOpr 0x12 0x7A ra rb rc
  | .mull ra rb rc => packOpr 0x13 0x00 ra rb rc
  | .mulq ra rb rc => packOpr 0x13 0x20 ra rb rc
  | .umulh ra rb rc => packOpr 0x13 0x30 ra rb rc
  | .mullV ra rb rc => packOpr 0x13 0x40 ra rb rc
  | .mulqV ra rb rc => packOpr 0x13 0x60 ra rb rc
  | .sextb ra rb rc => packOpr 0x1C 0x00 ra rb rc
  | .sextw ra rb rc => packOpr 0x1C 0x01 ra rb rc
  | .ctpop ra rb rc => packOpr 0x1C 0x30 ra rb rc
  | .perr ra rb rc => packOpr 0x1C 0x31 ra rb rc
  | .ctlz ra rb rc => packOpr 0x1C 0x32 ra rb rc
  | .cttz ra rb rc => packOpr 0x1C 0x33 ra rb rc
  | .unpkbw ra rb rc => packOpr 0x1C 0x34 ra rb rc
  | .unpkbl ra rb rc => packOpr 0x1C 0x35 ra rb rc
  | .pkwb ra rb rc => packOpr 0x1C 0x36 ra rb rc
  | .pklb ra rb rc => packOpr 0x1C 0x37 ra rb rc
  | .minsb8 ra rb rc => packOpr 0x1C 0x38 ra rb rc
  | .minsw4 ra rb rc => packOpr 0x1C 0x39 ra rb rc
  | .minub8 ra rb rc => packOpr 0x1C 0x3A ra rb rc
  | .minuw4 ra rb rc => packOpr 0x1C 0x3B ra rb rc
  | .maxub8 ra rb rc => packOpr 0x1C 0x3C ra rb rc
  | .maxuw4 ra rb rc => packOpr 0x1C 0x3D ra rb rc
  | .maxsb8 ra rb rc => packOpr 0x1C 0x3E ra rb rc
  | .maxsw4 ra rb rc => packOpr 0x1C 0x3F ra rb rc
  | .ftoit fa fb rc => packFp 0x1C 0x070 fa fb rc
  | .ftois fa fb rc => packFp 0x1C 0x078 fa fb rc
  | .itofs ra fb fc => packFp 0x14 0x004 ra fb fc
  | .itoff ra fb fc => packFp 0x14 0x014 ra fb fc
  | .itoft ra fb fc => packFp 0x14 0x024 ra fb fc
  | .sqrtfC fa fb fc => packFp 0x14 0x00A fa fb fc
  | .sqrtsC fa fb fc => packFp 0x14 0x00B fa fb fc
  | .sqrtgC fa fb fc => packFp 0x14 0x02A fa fb fc
  | .sqrttC fa fb fc => packFp 0x14 0x02B fa fb fc
  | .sqrtsM fa fb fc => packFp 0x14 0x04B fa fb fc
  | .sqrttM fa fb fc => packFp 0x14 0x06B fa fb fc
  | .sqrtf fa fb fc => packFp 0x14 0x08A fa fb fc
  | .sqrts fa fb fc => packFp 0x14 0x08B fa fb fc
  | .sqrtg fa fb fc => packFp 0x14 0x0AA fa fb fc
  | .sqrtt fa fb fc => packFp 0x14 0x0AB fa fb fc
  | .sqrtsD fa fb fc => packFp 0x14 0x0CB fa fb fc
  | .sqrttD fa fb fc => packFp 0x14 0x0EB fa fb fc
  | .sqrtfUc fa fb fc => packFp 0x14 0x10A fa fb fc
  | .sqrtsUc fa fb fc => packFp 0x14 0x10B fa fb fc
  | .sqrtgUc fa fb fc => packFp 0x14 0x12A fa fb fc
  | .sqrttUc fa fb fc => packFp 0x14 0x12B fa fb fc
  | .sqrtsUm fa fb fc => packFp 0x14 0x14B fa fb fc
  | .sqrttUm fa fb fc => packFp 0x14 0x16B fa fb fc
  | .sqrtfU fa fb fc => packFp 0x14 0x18A fa fb fc
  | .sqrtsU fa fb fc => packFp 0x14 0x18B fa fb fc
  | .sqrtgU fa fb fc => packFp 0x14 0x1AA fa fb fc
  | .sqrttU fa fb fc => packFp 0x14 0x1AB fa fb fc
  | .sqrtsUd fa fb fc => packFp 0x14 0x1CB fa fb fc
  | .sqrttUd fa fb fc => packFp 0x14 0x1EB fa fb fc
  | .sqrtfSc fa fb fc => packFp 0x14 0x40A fa fb fc
  | .sqrtgSc fa fb fc => packFp 0x14 0x42A fa fb fc
  | .sqrtfS fa fb fc => packFp 0x14 0x48A fa fb fc
  | .sqrtgS fa fb fc => packFp 0x14 0x4AA fa fb fc
  | .sqrtfSuc fa fb fc => packFp 0x14 0x50A fa fb fc
  | .sqrtsSuc fa fb fc => packFp 0x14 0x50B fa fb fc
  | .sqrtgSuc fa fb fc => packFp 0x14 0x52A fa fb fc
  | .sqrttSuc fa fb fc => packFp 0x14 0x52B fa fb fc
  | .sqrtsSum fa fb fc => packFp 0x14 0x54B fa fb fc
  | .sqrttSum fa fb fc => packFp 0x14 0x56B fa fb fc
  | .sqrtfSu fa fb fc => packFp 0x14 0x58A fa fb fc
  | .sqrtsSu fa fb fc => packFp 0x14 0x58B fa fb fc
  | .sqrtgSu fa fb fc => packFp 0x14 0x5AA fa fb fc
  | .sqrttSu fa fb fc => packFp 0x14 0x5AB fa fb fc
  | .sqrtsSud fa fb fc => packFp 0x14 0x5CB fa fb fc
  | .sqrttSud fa fb fc => packFp 0x14 0x5EB fa fb fc
  | .sqrtsSuic fa fb fc => packFp 0x14 0x70B fa fb fc
  | .sqrttSuic fa fb fc => packFp 0x14 0x72B fa fb fc
  | .sqrtsSuim fa fb fc => packFp 0x14 0x74B fa fb fc
  | .sqrttSuim fa fb fc => packFp 0x14 0x76B fa fb fc
  | .sqrtsSui fa fb fc => packFp 0x14 0x78B fa fb fc
  | .sqrttSui fa fb fc => packFp 0x14 0x7AB fa fb fc
  | .sqrtsSuid fa fb fc => packFp 0x14 0x7CB fa fb fc
  | .sqrttSuid fa fb fc => packFp 0x14 0x7EB fa fb fc
  | .addfC fa fb fc => packFp 0x15 0x000 fa fb fc
  | .subfC fa fb fc => packFp 0x15 0x001 fa fb fc
  | .mulfC fa fb fc => packFp 0x15 0x002 fa fb fc
  | .divfC fa fb fc => packFp 0x15 0x003 fa fb fc
  | .cvtdgC fa fb fc => packFp 0x15 0x01E fa fb fc
  | .addgC fa fb fc => packFp 0x15 0x020 fa fb fc
  | .subgC fa fb fc => packFp 0x15 0x021 fa fb fc
  | .mulgC fa fb fc => packFp 0x15 0x022 fa fb fc
  | .divgC fa fb fc => packFp 0x15 0x023 fa fb fc
  | .cvtgfC fa fb fc => packFp 0x15 0x02C fa fb fc
  | .cvtgdC fa fb fc => packFp 0x15 0x02D fa fb fc
  | .cvtgqC fa fb fc => packFp 0x15 0x02F fa fb fc
  | .cvtqfC fa fb fc => packFp 0x15 0x03C fa fb fc
  | .cvtqgC fa fb fc => packFp 0x15 0x03E fa fb fc
  | .addf fa fb fc => packFp 0x15 0x080 fa fb fc
  | .subf fa fb fc => packFp 0x15 0x081 fa fb fc
  | .mulf fa fb fc => packFp 0x15 0x082 fa fb fc
  | .divf fa fb fc => packFp 0x15 0x083 fa fb fc
  | .cvtdg fa fb fc => packFp 0x15 0x09E fa fb fc
  | .addg fa fb fc => packFp 0x15 0x0A0 fa fb fc
  | .subg fa fb fc => packFp 0x15 0x0A1 fa fb fc
  | .mulg fa fb fc => packFp 0x15 0x0A2 fa fb fc
  | .divg fa fb fc => packFp 0x15 0x0A3 fa fb fc
  | .cmpgeq fa fb fc => packFp 0x15 0x0A5 fa fb fc
  | .cmpglt fa fb fc => packFp 0x15 0x0A6 fa fb fc
  | .cmpgle fa fb fc => packFp 0x15 0x0A7 fa fb fc
  | .cvtgf fa fb fc => packFp 0x15 0x0AC fa fb fc
  | .cvtgd fa fb fc => packFp 0x15 0x0AD fa fb fc
  | .cvtgq fa fb fc => packFp 0x15 0x0AF fa fb fc
  | .cvtqf fa fb fc => packFp 0x15 0x0BC fa fb fc
  | .cvtqg fa fb fc => packFp 0x15 0x0BE fa fb fc
  | .addfUc fa fb fc => packFp 0x15 0x100 fa fb fc
  | .subfUc fa fb fc => packFp 0x15 0x101 fa fb fc
  | .mulfUc fa fb fc => packFp 0x15 0x102 fa fb fc
  | .divfUc fa fb fc => packFp 0x15 0x103 fa fb fc
  | .cvtdgUc fa fb fc => packFp 0x15 0x11E fa fb fc
  | .addgUc fa fb fc => packFp 0x15 0x120 fa fb fc
  | .subgUc fa fb fc => packFp 0x15 0x121 fa fb fc
  | .mulgUc fa fb fc => packFp 0x15 0x122 fa fb fc
  | .divgUc fa fb fc => packFp 0x15 0x123 fa fb fc
  | .cvtgfUc fa fb fc => packFp 0x15 0x12C fa fb fc
  | .cvtgdUc fa fb fc => packFp 0x15 0x12D fa fb fc
  | .cvtgqVc fa fb fc => packFp 0x15 0x12F fa fb fc
  | .addfU fa fb fc => packFp 0x15 0x180 fa fb fc
  | .subfU fa fb fc => packFp 0x15 0x181 fa fb fc
  | .mulfU fa fb fc => packFp 0x15 0x182 fa fb fc
  | .divfU fa fb fc => packFp 0x15 0x183 fa fb fc
  | .cvtdgU fa fb fc => packFp 0x15 0x19E fa fb fc
  | .addgU fa fb fc => packFp 0x15 0x1A0 fa fb fc
  | .subgU fa fb fc => packFp 0x15 0x1A1 fa fb fc
  | .mulgU fa fb fc => packFp 0x15 0x1A2 fa fb fc
  | .divgU fa fb fc => packFp 0x15 0x1A3 fa fb fc
  | .cvtgfU fa fb fc => packFp 0x15 0x1AC fa fb fc
  | .cvtgdU fa fb fc => packFp 0x15 0x1AD fa fb fc
  | .cvtgqV fa fb fc => packFp 0x15 0x1AF fa fb fc
  | .addfSc fa fb fc => packFp 0x15 0x400 fa fb fc
  | .subfSc fa fb fc => packFp 0x15 0x401 fa fb fc
  | .mulfSc fa fb fc => packFp 0x15 0x402 fa fb fc
  | .divfSc fa fb fc => packFp 0x15 0x403 fa fb fc
  | .cvtdgSc fa fb fc => packFp 0x15 0x41E fa fb fc
  | .addgSc fa fb fc => packFp 0x15 0x420 fa fb fc
  | .subgSc fa fb fc => packFp 0x15 0x421 fa fb fc
  | .mulgSc fa fb fc => packFp 0x15 0x422 fa fb fc
  | .divgSc fa fb fc => packFp 0x15 0x423 fa fb fc
  | .cvtgfSc fa fb fc => packFp 0x15 0x42C fa fb fc
  | .cvtgdSc fa fb fc => packFp 0x15 0x42D fa fb fc
  | .cvtgqSc fa fb fc => packFp 0x15 0x42F fa fb fc
  | .addfS fa fb fc => packFp 0x15 0x480 fa fb fc
  | .subfS fa fb fc => packFp 0x15 0x481 fa fb fc
  | .mulfS fa fb fc => packFp 0x15 0x482 fa fb fc
  | .divfS fa fb fc => packFp 0x15 0x483 fa fb fc
  | .cvtdgS fa fb fc => packFp 0x15 0x49E fa fb fc
  | .addgS fa fb fc => packFp 0x15 0x4A0 fa fb fc
  | .subgS fa fb fc => packFp 0x15 0x4A1 fa fb fc
  | .mulgS fa fb fc => packFp 0x15 0x4A2 fa fb fc
  | .divgS fa fb fc => packFp 0x15 0x4A3 fa fb fc
  | .cmpgeqS fa fb fc => packFp 0x15 0x4A5 fa fb fc
  | .cmpgltS fa fb fc => packFp 0x15 0x4A6 fa fb fc
  | .cmpgleS fa fb fc => packFp 0x15 0x4A7 fa fb fc
  | .cvtgfS fa fb fc => packFp 0x15 0x4AC fa fb fc
  | .cvtgdS fa fb fc => packFp 0x15 0x4AD fa fb fc
  | .cvtgqS fa fb fc => packFp 0x15 0x4AF fa fb fc
  | .addfSuc fa fb fc => packFp 0x15 0x500 fa fb fc
  | .subfSuc fa fb fc => packFp 0x15 0x501 fa fb fc
  | .mulfSuc fa fb fc => packFp 0x15 0x502 fa fb fc
  | .divfSuc fa fb fc => packFp 0x15 0x503 fa fb fc
  | .cvtdgSuc fa fb fc => packFp 0x15 0x51E fa fb fc
  | .addgSuc fa fb fc => packFp 0x15 0x520 fa fb fc
  | .subgSuc fa fb fc => packFp 0x15 0x521 fa fb fc
  | .mulgSuc fa fb fc => packFp 0x15 0x522 fa fb fc
  | .divgSuc fa fb fc => packFp 0x15 0x523 fa fb fc
  | .cvtgfSuc fa fb fc => packFp 0x15 0x52C fa fb fc
  | .cvtgdSuc fa fb fc => packFp 0x15 0x52D fa fb fc
  | .cvtgqSvc fa fb fc => packFp 0x15 0x52F fa fb fc
  | .addfSu fa fb fc => packFp 0x15 0x580 fa fb fc
  | .subfSu fa fb fc => packFp 0x15 0x581 fa fb fc
  | .mulfSu fa fb fc => packFp 0x15 0x582 fa fb fc
  | .divfSu fa fb fc => packFp 0x15 0x583 fa fb fc
  | .cvtdgSu fa fb fc => packFp 0x15 0x59E fa fb fc
  | .addgSu fa fb fc => packFp 0x15 0x5A0 fa fb fc
  | .subgSu fa fb fc => packFp 0x15 0x5A1 fa fb fc
  | .mulgSu fa fb fc => packFp 0x15 0x5A2 fa fb fc
  | .divgSu fa fb fc => packFp 0x15 0x5A3 fa fb fc
  | .cvtgfSu fa fb fc => packFp 0x15 0x5AC fa fb fc
  | .cvtgdSu fa fb fc => packFp 0x15 0x5AD fa fb fc
  | .cvtgqSv fa fb fc => packFp 0x15 0x5AF fa fb fc
  | .addsC fa fb fc => packFp 0x16 0x000 fa fb fc
  | .subsC fa fb fc => packFp 0x16 0x001 fa fb fc
  | .mulsC fa fb fc => packFp 0x16 0x002 fa fb fc
  | .divsC fa fb fc => packFp 0x16 0x003 fa fb fc
  | .addtC fa fb fc => packFp 0x16 0x020 fa fb fc
  | .subtC fa fb fc => packFp 0x16 0x021 fa fb fc
  | .multC fa fb fc => packFp 0x16 0x022 fa fb fc
  | .divtC fa fb fc => packFp 0x16 0x023 fa fb fc
  | .cvttsC fa fb fc => packFp 0x16 0x02C fa fb fc
  | .cvttqC fa fb fc => packFp 0x16 0x02F fa fb fc
  | .cvtqsC fa fb fc => packFp 0x16 0x03C fa fb fc
  | .cvtqtC fa fb fc => packFp 0x16 0x03E fa fb fc
  | .addsM fa fb fc => packFp 0x16 0x040 fa fb fc
  | .subsM fa fb fc => packFp 0x16 0x041 fa fb fc
  | .mulsM fa fb fc => packFp 0x16 0x042 fa fb fc
  | .divsM fa fb fc => packFp 0x16 0x043 fa fb fc
  | .addtM fa fb fc => packFp 0x16 0x060 fa fb fc
  | .subtM fa fb fc => packFp 0x16 0x061 fa fb fc
  | .multM fa fb fc => packFp 0x16 0x062 fa fb fc
  | .divtM fa fb fc => packFp 0x16 0x063 fa fb fc
  | .cvttsM fa fb fc => packFp 0x16 0x06C fa fb fc
  | .cvttqM fa fb fc => packFp 0x16 0x06F fa fb fc
  | .cvtqsM fa fb fc => packFp 0x16 0x07C fa fb fc
  | .cvtqtM fa fb fc => packFp 0x16 0x07E fa fb fc
  | .adds fa fb fc => packFp 0x16 0x080 fa fb fc
  | .subs fa fb fc => packFp 0x16 0x081 fa fb fc
  | .muls fa fb fc => packFp 0x16 0x082 fa fb fc
  | .divs fa fb fc => packFp 0x16 0x083 fa fb fc
  | .addt fa fb fc => packFp 0x16 0x0A0 fa fb fc
  | .subt fa fb fc => packFp 0x16 0x0A1 fa fb fc
  | .mult fa fb fc => packFp 0x16 0x0A2 fa fb fc
  | .divt fa fb fc => packFp 0x16 0x0A3 fa fb fc
  | .cmptun fa fb fc => packFp 0x16 0x0A4 fa fb fc
  | .cmpteq fa fb fc => packFp 0x16 0x0A5 fa fb fc
  | .cmptlt fa fb fc => packFp 0x16 0x0A6 fa fb fc
  | .cmptle fa fb fc => packFp 0x16 0x0A7 fa fb fc
  | .cvtts fa fb fc => packFp 0x16 0x0AC fa fb fc
  | .cvttq fa fb fc => packFp 0x16 0x0AF fa fb fc
  | .cvtqs fa fb fc => packFp 0x16 0x0BC fa fb fc
  | .cvtqt fa fb fc => packFp 0x16 0x0BE fa fb fc
  | .addsD fa fb fc => packFp 0x16 0x0C0 fa fb fc
  | .subsD fa fb fc => packFp 0x16 0x0C1 fa fb fc
  | .mulsD fa fb fc => packFp 0x16 0x0C2 fa fb fc
  | .divsD fa fb fc => packFp 0x16 0x0C3 fa fb fc
  | .addtD fa fb fc => packFp 0x16 0x0E0 fa fb fc
  | .subtD fa fb fc => packFp 0x16 0x0E1 fa fb fc
  | .multD fa fb fc => packFp 0x16 0x0E2 fa fb fc
  | .divtD fa fb fc => packFp 0x16 0x0E3 fa fb fc
  | .cvttsD fa fb fc => packFp 0x16 0x0EC fa fb fc
  | .cvttqD fa fb fc => packFp 0x16 0x0EF fa fb fc
  | .cvtqsD fa fb fc => packFp 0x16 0x0FC fa fb fc
  | .cvtqtD fa fb fc => packFp 0x16 0x0FE fa fb fc
  | .addsUc fa fb fc => packFp 0x16 0x100 fa fb fc
  | .subsUc fa fb fc => packFp 0x16 0x101 fa fb fc
  | .mulsUc fa fb fc => packFp 0x16 0x102 fa fb fc
  | .divsUc fa fb fc => packFp 0x16 0x103 fa fb fc
  | .addtUc fa fb fc => packFp 0x16 0x120 fa fb fc
  | .subtUc fa fb fc => packFp 0x16 0x121 fa fb fc
  | .multUc fa fb fc => packFp 0x16 0x122 fa fb fc
  | .divtUc fa fb fc => packFp 0x16 0x123 fa fb fc
  | .cvttsUc fa fb fc => packFp 0x16 0x12C fa fb fc
  | .cvttqVc fa fb fc => packFp 0x16 0x12F fa fb fc
  | .addsUm fa fb fc => packFp 0x16 0x140 fa fb fc
  | .subsUm fa fb fc => packFp 0x16 0x141 fa fb fc
  | .mulsUm fa fb fc => packFp 0x16 0x142 fa fb fc
  | .divsUm fa fb fc => packFp 0x16 0x143 fa fb fc
  | .addtUm fa fb fc => packFp 0x16 0x160 fa fb fc
  | .subtUm fa fb fc => packFp 0x16 0x161 fa fb fc
  | .multUm fa fb fc => packFp 0x16 0x162 fa fb fc
  | .divtUm fa fb fc => packFp 0x16 0x163 fa fb fc
  | .cvttsUm fa fb fc => packFp 0x16 0x16C fa fb fc
  | .cvttqVm fa fb fc => packFp 0x16 0x16F fa fb fc
  | .addsU fa fb fc => packFp 0x16 0x180 fa fb fc
  | .subsU fa fb fc => packFp 0x16 0x181 fa fb fc
  | .mulsU fa fb fc => packFp 0x16 0x182 fa fb fc
  | .divsU fa fb fc => packFp 0x16 0x183 fa fb fc
  | .addtU fa fb fc => packFp 0x16 0x1A0 fa fb fc
  | .subtU fa fb fc => packFp 0x16 0x1A1 fa fb fc
  | .multU fa fb fc => packFp 0x16 0x1A2 fa fb fc
  | .divtU fa fb fc => packFp 0x16 0x1A3 fa fb fc
  | .cvttsU fa fb fc => packFp 0x16 0x1AC fa fb fc
  | .cvttqV fa fb fc => packFp 0x16 0x1AF fa fb fc
  | .addsUd fa fb fc => packFp 0x16 0x1C0 fa fb fc
  | .subsUd fa fb fc => packFp 0x16 0x1C1 fa fb fc
  | .mulsUd fa fb fc => packFp 0x16 0x1C2 fa fb fc
  | .divsUd fa fb fc => packFp 0x16 0x1C3 fa fb fc
  | .addtUd fa fb fc => packFp 0x16 0x1E0 fa fb fc
  | .subtUd fa fb fc => packFp 0x16 0x1E1 fa fb fc
  | .multUd fa fb fc => packFp 0x16 0x1E2 fa fb fc
  | .divtUd fa fb fc => packFp 0x16 0x1E3 fa fb fc
  | .cvttsUd fa fb fc => packFp 0x16 0x1EC fa fb fc
  | .cvttqVd fa fb fc => packFp 0x16 0x1EF fa fb fc
  | .cvtst fa fb fc => packFp 0x16 0x2AC fa fb fc
  | .addsSuc fa fb fc => packFp 0x16 0x500 fa fb fc
  | .subsSuc fa fb fc => packFp 0x16 0x501 fa fb fc
  | .mulsSuc fa fb fc => packFp 0x16 0x502 fa fb fc
  | .divsSuc fa fb fc => packFp 0x16 0x503 fa fb fc
  | .addtSuc fa fb fc => packFp 0x16 0x520 fa fb fc
  | .subtSuc fa fb fc => packFp 0x16 0x521 fa fb fc
  | .multSuc fa fb fc => packFp 0x16 0x522 fa fb fc
  | .divtSuc fa fb fc => packFp 0x16 0x523 fa fb fc
  | .cvttsSuc fa fb fc => packFp 0x16 0x52C fa fb fc
  | .cvttqSvc fa fb fc => packFp 0x16 0x52F fa fb fc
  | .addsSum fa fb fc => packFp 0x16 0x540 fa fb fc
  | .subsSum fa fb fc => packFp 0x16 0x541 fa fb fc
  | .mulsSum fa fb fc => packFp 0x16 0x542 fa fb fc
  | .divsSum fa fb fc => packFp 0x16 0x543 fa fb fc
  | .addtSum fa fb fc => packFp 0x16 0x560 fa fb fc
  | .subtSum fa fb fc => packFp 0x16 0x561 fa fb fc
  | .multSum fa fb fc => packFp 0x16 0x562 fa fb fc
  | .divtSum fa fb fc => packFp 0x16 0x563 fa fb fc
  | .cvttsSum fa fb fc => packFp 0x16 0x56C fa fb fc
  | .cvttqSvm fa fb fc => packFp 0x16 0x56F fa fb fc
  | .addsSu fa fb fc => packFp 0x16 0x580 fa fb fc
  | .subsSu fa fb fc => packFp 0x16 0x581 fa fb fc
  | .mulsSu fa fb fc => packFp 0x16 0x582 fa fb fc
  | .divsSu fa fb fc => packFp 0x16 0x583 fa fb fc
  | .addtSu fa fb fc => packFp 0x16 0x5A0 fa fb fc
  | .subtSu fa fb fc => packFp 0x16 0x5A1 fa fb fc
  | .multSu fa fb fc => packFp 0x16 0x5A2 fa fb fc
  | .divtSu fa fb fc => packFp 0x16 0x5A3 fa fb fc
  | .cmptunSu fa fb fc => packFp 0x16 0x5A4 fa fb fc
  | .cmpteqSu fa fb fc => packFp 0x16 0x5A5 fa fb fc
  | .cmptltSu fa fb fc => packFp 0x16 0x5A6 fa fb fc
  | .cmptleSu fa fb fc => packFp 0x16 0x5A7 fa fb fc
  | .cvttsSu fa fb fc => packFp 0x16 0x5AC fa fb fc
  | .cvttqSv fa fb fc => packFp 0x16 0x5AF fa fb fc
  | .addsSud fa fb fc => packFp 0x16 0x5C0 fa fb fc
  | .subsSud fa fb fc => packFp 0x16 0x5C1 fa fb fc
  | .mulsSud fa fb fc => packFp 0x16 0x5C2 fa fb fc
  | .divsSud fa fb fc => packFp 0x16 0x5C3 fa fb fc
  | .addtSud fa fb fc => packFp 0x16 0x5E0 fa fb fc
  | .subtSud fa fb fc => packFp 0x16 0x5E1 fa fb fc
  | .multSud fa fb fc => packFp 0x16 0x5E2 fa fb fc
  | .divtSud fa fb fc => packFp 0x16 0x5E3 fa fb fc
  | .cvttsSud fa fb fc => packFp 0x16 0x5EC fa fb fc
  | .cvttqSvd fa fb fc => packFp 0x16 0x5EF fa fb fc
  | .cvtstS fa fb fc => packFp 0x16 0x6AC fa fb fc
  | .addsSuic fa fb fc => packFp 0x16 0x700 fa fb fc
  | .subsSuic fa fb fc => packFp 0x16 0x701 fa fb fc
  | .mulsSuic fa fb fc => packFp 0x16 0x702 fa fb fc
  | .divsSuic fa fb fc => packFp 0x16 0x703 fa fb fc
  | .addtSuic fa fb fc => packFp 0x16 0x720 fa fb fc
  | .subtSuic fa fb fc => packFp 0x16 0x721 fa fb fc
  | .multSuic fa fb fc => packFp 0x16 0x722 fa fb fc
  | .divtSuic fa fb fc => packFp 0x16 0x723 fa fb fc
  | .cvttsSuic fa fb fc => packFp 0x16 0x72C fa fb fc
  | .cvttqSvic fa fb fc => packFp 0x16 0x72F fa fb fc
  | .cvtqsSuic fa fb fc => packFp 0x16 0x73C fa fb fc
  | .cvtqtSuic fa fb fc => packFp 0x16 0x73E fa fb fc
  | .addsSuim fa fb fc => packFp 0x16 0x740 fa fb fc
  | .subsSuim fa fb fc => packFp 0x16 0x741 fa fb fc
  | .mulsSuim fa fb fc => packFp 0x16 0x742 fa fb fc
  | .divsSuim fa fb fc => packFp 0x16 0x743 fa fb fc
  | .addtSuim fa fb fc => packFp 0x16 0x760 fa fb fc
  | .subtSuim fa fb fc => packFp 0x16 0x761 fa fb fc
  | .multSuim fa fb fc => packFp 0x16 0x762 fa fb fc
  | .divtSuim fa fb fc => packFp 0x16 0x763 fa fb fc
  | .cvttsSuim fa fb fc => packFp 0x16 0x76C fa fb fc
  | .cvttqSvim fa fb fc => packFp 0x16 0x76F fa fb fc
  | .cvtqsSuim fa fb fc => packFp 0x16 0x77C fa fb fc
  | .cvtqtSuim fa fb fc => packFp 0x16 0x77E fa fb fc
  | .addsSui fa fb fc => packFp 0x16 0x780 fa fb fc
  | .subsSui fa fb fc => packFp 0x16 0x781 fa fb fc
  | .mulsSui fa fb fc => packFp 0x16 0x782 fa fb fc
  | .divsSui fa fb fc => packFp 0x16 0x783 fa fb fc
  | .addtSui fa fb fc => packFp 0x16 0x7A0 fa fb fc
  | .subtSui fa fb fc => packFp 0x16 0x7A1 fa fb fc
  | .multSui fa fb fc => packFp 0x16 0x7A2 fa fb fc
  | .divtSui fa fb fc => packFp 0x16 0x7A3 fa fb fc
  | .cvttsSui fa fb fc => packFp 0x16 0x7AC fa fb fc
  | .cvttqSvi fa fb fc => packFp 0x16 0x7AF fa fb fc
  | .cvtqsSui fa fb fc => packFp 0x16 0x7BC fa fb fc
  | .cvtqtSui fa fb fc => packFp 0x16 0x7BE fa fb fc
  | .addsSuid fa fb fc => packFp 0x16 0x7C0 fa fb fc
  | .subsSuid fa fb fc => packFp 0x16 0x7C1 fa fb fc
  | .mulsSuid fa fb fc => packFp 0x16 0x7C2 fa fb fc
  | .divsSuid fa fb fc => packFp 0x16 0x7C3 fa fb fc
  | .addtSuid fa fb fc => packFp 0x16 0x7E0 fa fb fc
  | .subtSuid fa fb fc => packFp 0x16 0x7E1 fa fb fc
  | .multSuid fa fb fc => packFp 0x16 0x7E2 fa fb fc
  | .divtSuid fa fb fc => packFp 0x16 0x7E3 fa fb fc
  | .cvttsSuid fa fb fc => packFp 0x16 0x7EC fa fb fc
  | .cvttqSvid fa fb fc => packFp 0x16 0x7EF fa fb fc
  | .cvtqsSuid fa fb fc => packFp 0x16 0x7FC fa fb fc
  | .cvtqtSuid fa fb fc => packFp 0x16 0x7FE fa fb fc
  | .cvtlq fa fb fc => packFp 0x17 0x010 fa fb fc
  | .cpys fa fb fc => packFp 0x17 0x020 fa fb fc
  | .cpysn fa fb fc => packFp 0x17 0x021 fa fb fc
  | .cpyse fa fb fc => packFp 0x17 0x022 fa fb fc
  | .mtFpcr fa fb fc => packFp 0x17 0x024 fa fb fc
  | .mfFpcr fa fb fc => packFp 0x17 0x025 fa fb fc
  | .fcmoveq fa fb fc => packFp 0x17 0x02A fa fb fc
  | .fcmovne fa fb fc => packFp 0x17 0x02B fa fb fc
  | .fcmovlt fa fb fc => packFp 0x17 0x02C fa fb fc
  | .fcmovge fa fb fc => packFp 0x17 0x02D fa fb fc
  | .fcmovle fa fb fc => packFp 0x17 0x02E fa fb fc
  | .fcmovgt fa fb fc => packFp 0x17 0x02F fa fb fc
  | .cvtql fa fb fc => packFp 0x17 0x030 fa fb fc
  | .cvtqlV fa fb fc => packFp 0x17 0x130 fa fb fc
  | .cvtqlSv fa fb fc => packFp 0x17 0x530 fa fb fc
  | .trapb ra rb => packMem 0x18 ra rb 0x0000
  | .excb ra rb => packMem 0x18 ra rb 0x0400
  | .mb ra rb => packMem 0x18 ra rb 0x4000
  | .wmb ra rb => packMem 0x18 ra rb 0x4400
  | .fetch ra rb => packMem 0x18 ra rb 0x8000
  | .fetchM ra rb => packMem 0x18 ra rb 0xA000
  | .rpcc ra rb => packMem 0x18 ra rb 0xC000
  | .rc ra rb => packMem 0x18 ra rb 0xE000
  | .ecb ra rb => packMem 0x18 ra rb 0xE800
  | .rs ra rb => packMem 0x18 ra rb 0xF000
  | .wh64 ra rb => packMem 0x18 ra rb 0xF800
  | .hwMfpr ra rb index scbd => packHwIpr 0x19 ra rb index scbd
  | .hwLd ra rb ty len disp => packHwMem 0x1B ra rb ty len disp
  | .hwMtpr ra rb index scbd => packHwIpr 0x1D ra rb index scbd
  | .hwRet ra rb hint stall disp => packHwRet ra rb hint stall disp
  | .hwSt ra rb ty len disp => packHwMem 0x1F ra rb ty len disp

/-! ### Words in memory -/

/-- The bytes of an instruction word, lowest address first (little-endian, R330; spec/20_memory.md R221, R223). -/
def bytesOfWord (w : BitVec 32) : List Byte :=
  [w.extractLsb' 0 8, w.extractLsb' 8 8, w.extractLsb' 16 8, w.extractLsb' 24 8]

/-- The instruction word of four bytes, lowest address first. -/
def wordOfBytes (b0 b1 b2 b3 : Byte) : BitVec 32 := b3 ++ b2 ++ b1 ++ b0

/-- Decode the four bytes at an address, lowest address first. -/
noncomputable def decodeBytes : List Byte → Option Instr
  | [b0, b1, b2, b3] => (decode (wordOfBytes b0 b1 b2 b3)).toOption
  | _ => none

/-- The instruction that the decoder reads from the table word `w`; every Alpha instruction has 32 bits (R330). -/
noncomputable def decodeTableWord (nbits w : Nat) : Option Instr :=
  if nbits ≤ 32 then decodeBytes (bytesOfWord (BitVec.ofNat 32 (w % 2 ^ nbits))) else none

end Sys2Proof
end

