-- ==== Sys2Proof/Machine/Operate.lean ====
section
/-! DEFINITION. Integer operates as shared operations, and the byte-wise, counting and shifting functions they compute
(spec/42_int_arith.md R440, 43_int_logical_shift.md, 44_byte_manip.md, 48_mvi_cix.md). -/

namespace Sys2Proof.Machine

/-! ### Ends of an operate instruction -/

/-- The result goes to Rc; with Rc = 31 nothing happens but the advance (spec/30_encoding.md R351). -/
def intResult (rc : Reg) (v : Word) (s : State) : Out := .next (advance (writeInt s rc v))

/-- A `/V` instruction: exact result `x` in a field of `w` bits; with Rc = 31 there is no trap (R440). -/
def intOverflow (rc : Reg) (w : Nat) (x : Int) (s : State) : Out :=
  .next (if rc = 31 then advance s else finishOverflow s rc w x)

/-- CMOVx: Rc keeps its value unless the condition holds (R490). -/
def condMove (c : Bool) (rc : Reg) (v : Word) (s : State) : Out := .next (advance (if c then writeInt s rc v else s))

/-! ### Arithmetic (spec/42_int_arith.md) -/

/-- The low longword of a register as a signed number: `sext_32`. -/
def longInt (v : Word) : Int := (longOf v).toInt

/-- A truth value in a register. -/
def truth (b : Bool) : Word := if b then 1 else 0

/-- Bits, bit 0 first. -/
def packBits : List Bool → Word
  | [] => 0
  | b :: l => (packBits l <<< 1) ||| ofBool b

/-- CMPBGE: one bit for each of the eight unsigned byte comparisons (R462). -/
def compareBytes (a b : Word) : Word := packBits ((List.range 8).map fun i => (byteOf b i).ule (byteOf a i))

/-- The high half of the unsigned 128-bit product (R467). -/
def mulHigh (a b : Word) : Word := (a.setWidth 128 * b.setWidth 128).extractLsb' 64 64

/-! ### Shifts (spec/43_int_logical_shift.md) -/

/-- The shift count: Rbv[5:0]. -/
def shiftCount (v : Word) : Nat := (v.extractLsb' 0 6).toNat

/-- The AMASK feature mask of this chip (R500). -/
def featureMask : Word := 0x307

/-! ### Bytes (spec/44_byte_manip.md): `bo` is the byte offset -/

/-- EXTxL (R521). -/
def extractLow (x : DataSize) (v : Word) (bo : Nat) : Word := (v >>> (8 * bo)) &&& sizeMask x

/-- EXTxH (R521). -/
def extractHigh (x : DataSize) (v : Word) (bo : Nat) : Word := (v <<< ((64 - 8 * bo) % 64)) &&& sizeMask x

/-- `wide` (R520): 128 bits, shifted by the byte offset. -/
def wideShift (v : Word) (bo : Nat) : BitVec 128 := v.setWidth 128 <<< (8 * bo)

/-- INSxL (R530). -/
def insertLow (x : DataSize) (v : Word) (bo : Nat) : Word := (wideShift (v &&& sizeMask x) bo).extractLsb' 0 64

/-- INSxH (R530). -/
def insertHigh (x : DataSize) (v : Word) (bo : Nat) : Word := (wideShift (v &&& sizeMask x) bo).extractLsb' 64 64

/-- MSKxL (R540). -/
def maskLow (x : DataSize) (v : Word) (bo : Nat) : Word := v &&& ~~~(wideShift (sizeMask x) bo).extractLsb' 0 64

/-- MSKxH (R540). -/
def maskHigh (x : DataSize) (v : Word) (bo : Nat) : Word := v &&& ~~~(wideShift (sizeMask x) bo).extractLsb' 64 64

/-- ZAP: clear the bytes that `sel` selects (R550). -/
def zapBytes (v sel : Word) : Word := mapBytes fun i => if sel.getLsbD i then 0 else byteOf v i

/-! ### Counts (spec/48_mvi_cix.md) -/

/-- CTPOP (R753). -/
def countOnes (v : Word) : Nat := (List.range 64).countP fun i => v.getLsbD i

/-- The zero bits from bit `n - 1` down to the first one. -/
def zerosBelow (v : Word) : Nat → Nat
  | 0 => 0
  | n + 1 => if v.getLsbD n then 0 else zerosBelow v n + 1

/-- The zero bits from bit `64 - n` up to the first one. -/
def zerosAbove (v : Word) : Nat → Nat
  | 0 => 0
  | n + 1 => if v.getLsbD (63 - n) then 0 else zerosAbove v n + 1

/-- CTLZ (R754): 64 for zero. -/
def leadingZeros (v : Word) : Nat := zerosBelow v 64

/-- CTTZ (R755): 64 for zero. -/
def trailingZeros (v : Word) : Nat := zerosAbove v 64

/-! ### Multimedia (spec/48_mvi_cix.md) -/

/-- The distance of two unsigned bytes. -/
def byteDistance (a b : BitVec 8) : Nat := (a.toNat - b.toNat) + (b.toNat - a.toNat)

/-- PERR (R756). -/
def pixelError (a b : Word) : Nat := ((List.range 8).map fun i => byteDistance (byteOf a i) (byteOf b i)).sum

/-- Signed and unsigned minimum and maximum of two fields. -/
def minSigned {w : Nat} (a b : BitVec w) : BitVec w := if a.sle b then a else b
def maxSigned {w : Nat} (a b : BitVec w) : BitVec w := if a.sle b then b else a
def minUnsigned {w : Nat} (a b : BitVec w) : BitVec w := if a.ule b then a else b
def maxUnsigned {w : Nat} (a b : BitVec w) : BitVec w := if a.ule b then b else a

/-- A function of the corresponding bytes, or of the corresponding 16-bit words. -/
def zipBytes (f : BitVec 8 → BitVec 8 → BitVec 8) (a b : Word) : Word := mapBytes fun i => f (byteOf a i) (byteOf b i)
def zipWords (f : BitVec 16 → BitVec 16 → BitVec 16) (a b : Word) : Word := mapWords fun i => f (wordOf a i) (wordOf b i)

/-- UNPKBW (R757). -/
def unpackByteWord (v : Word) : Word := mapWords fun i => (byteOf v i).setWidth 16

/-- UNPKBL (R758). -/
def unpackByteLong (v : Word) : Word := 0#24 ++ byteOf v 1 ++ 0#24 ++ byteOf v 0

/-- PKWB (R759). -/
def packWordByte (v : Word) : Word := 0#32 ++ byteOf v 6 ++ byteOf v 4 ++ byteOf v 2 ++ byteOf v 0

/-- PKLB (R760). -/
def packLongByte (v : Word) : Word := 0#48 ++ byteOf v 4 ++ byteOf v 0

end Sys2Proof.Machine
end

