-- ==== Sys2Proof/Machine/ByteManip.lean ====
section
/-! DEFINITION. Extract, insert, mask and zap (spec/44_byte_manip.md). One definition for each instruction. -/

namespace Sys2Proof.Machine

/-- MSKBL (R541). -/
def execMskbl (ra : Reg) (rb : Operand) (rc : Reg) (s : State) : Out :=
  intResult rc (maskLow .byte (readInt s ra) (byteOffset s (operandValue s rb))) s

/-- EXTBL (R522). -/
def execExtbl (ra : Reg) (rb : Operand) (rc : Reg) (s : State) : Out :=
  intResult rc (extractLow .byte (readInt s ra) (byteOffset s (operandValue s rb))) s

/-- INSBL (R531). -/
def execInsbl (ra : Reg) (rb : Operand) (rc : Reg) (s : State) : Out :=
  intResult rc (insertLow .byte (readInt s ra) (byteOffset s (operandValue s rb))) s

/-- MSKWL (R542). -/
def execMskwl (ra : Reg) (rb : Operand) (rc : Reg) (s : State) : Out :=
  intResult rc (maskLow .word (readInt s ra) (byteOffset s (operandValue s rb))) s

/-- EXTWL (R523). -/
def execExtwl (ra : Reg) (rb : Operand) (rc : Reg) (s : State) : Out :=
  intResult rc (extractLow .word (readInt s ra) (byteOffset s (operandValue s rb))) s

/-- INSWL (R532). -/
def execInswl (ra : Reg) (rb : Operand) (rc : Reg) (s : State) : Out :=
  intResult rc (insertLow .word (readInt s ra) (byteOffset s (operandValue s rb))) s

/-- MSKLL (R543). -/
def execMskll (ra : Reg) (rb : Operand) (rc : Reg) (s : State) : Out :=
  intResult rc (maskLow .long (readInt s ra) (byteOffset s (operandValue s rb))) s

/-- EXTLL (R524). -/
def execExtll (ra : Reg) (rb : Operand) (rc : Reg) (s : State) : Out :=
  intResult rc (extractLow .long (readInt s ra) (byteOffset s (operandValue s rb))) s

/-- INSLL (R533). -/
def execInsll (ra : Reg) (rb : Operand) (rc : Reg) (s : State) : Out :=
  intResult rc (insertLow .long (readInt s ra) (byteOffset s (operandValue s rb))) s

/-- ZAP (R550). -/
def execZap (ra : Reg) (rb : Operand) (rc : Reg) (s : State) : Out := intResult rc (zapBytes (readInt s ra) (operandValue s rb)) s

/-- ZAPNOT (R551). -/
def execZapnot (ra : Reg) (rb : Operand) (rc : Reg) (s : State) : Out :=
  intResult rc (zapBytes (readInt s ra) (~~~(operandValue s rb))) s

/-- MSKQL (R544). -/
def execMskql (ra : Reg) (rb : Operand) (rc : Reg) (s : State) : Out :=
  intResult rc (maskLow .quad (readInt s ra) (byteOffset s (operandValue s rb))) s

/-- EXTQL (R525). -/
def execExtql (ra : Reg) (rb : Operand) (rc : Reg) (s : State) : Out :=
  intResult rc (extractLow .quad (readInt s ra) (byteOffset s (operandValue s rb))) s

/-- INSQL (R534). -/
def execInsql (ra : Reg) (rb : Operand) (rc : Reg) (s : State) : Out :=
  intResult rc (insertLow .quad (readInt s ra) (byteOffset s (operandValue s rb))) s

/-- MSKWH (R545). -/
def execMskwh (ra : Reg) (rb : Operand) (rc : Reg) (s : State) : Out :=
  intResult rc (maskHigh .word (readInt s ra) (byteOffset s (operandValue s rb))) s

/-- INSWH (R535). -/
def execInswh (ra : Reg) (rb : Operand) (rc : Reg) (s : State) : Out :=
  intResult rc (insertHigh .word (readInt s ra) (byteOffset s (operandValue s rb))) s

/-- EXTWH (R526). -/
def execExtwh (ra : Reg) (rb : Operand) (rc : Reg) (s : State) : Out :=
  intResult rc (extractHigh .word (readInt s ra) (byteOffset s (operandValue s rb))) s

/-- MSKLH (R546). -/
def execMsklh (ra : Reg) (rb : Operand) (rc : Reg) (s : State) : Out :=
  intResult rc (maskHigh .long (readInt s ra) (byteOffset s (operandValue s rb))) s

/-- INSLH (R536). -/
def execInslh (ra : Reg) (rb : Operand) (rc : Reg) (s : State) : Out :=
  intResult rc (insertHigh .long (readInt s ra) (byteOffset s (operandValue s rb))) s

/-- EXTLH (R527). -/
def execExtlh (ra : Reg) (rb : Operand) (rc : Reg) (s : State) : Out :=
  intResult rc (extractHigh .long (readInt s ra) (byteOffset s (operandValue s rb))) s

/-- MSKQH (R547). -/
def execMskqh (ra : Reg) (rb : Operand) (rc : Reg) (s : State) : Out :=
  intResult rc (maskHigh .quad (readInt s ra) (byteOffset s (operandValue s rb))) s

/-- INSQH (R537). -/
def execInsqh (ra : Reg) (rb : Operand) (rc : Reg) (s : State) : Out :=
  intResult rc (insertHigh .quad (readInt s ra) (byteOffset s (operandValue s rb))) s

/-- EXTQH (R528). -/
def execExtqh (ra : Reg) (rb : Operand) (rc : Reg) (s : State) : Out :=
  intResult rc (extractHigh .quad (readInt s ra) (byteOffset s (operandValue s rb))) s

end Sys2Proof.Machine
end

