-- ==== Sys2Proof/Machine/FpBranch.lean ====
section
/-! DEFINITION. Floating conditional branches (spec/45_fp_memory_branch.md R585). One definition for each instruction. -/

namespace Sys2Proof.Machine

/-- FBEQ (R586). -/
def execFbeq (fa : Reg) (disp : BitVec 21) (s : State) : Out := fpBranchIf fpIsZero fa disp s

/-- FBLT (R587). -/
def execFblt (fa : Reg) (disp : BitVec 21) (s : State) : Out := fpBranchIf fpNegative fa disp s

/-- FBLE (R588). -/
def execFble (fa : Reg) (disp : BitVec 21) (s : State) : Out := fpBranchIf (fun v => !fpPositive v) fa disp s

/-- FBNE (R589). -/
def execFbne (fa : Reg) (disp : BitVec 21) (s : State) : Out := fpBranchIf (fun v => !fpIsZero v) fa disp s

/-- FBGE (R590). -/
def execFbge (fa : Reg) (disp : BitVec 21) (s : State) : Out := fpBranchIf (fun v => !fpNegative v) fa disp s

/-- FBGT (R591). -/
def execFbgt (fa : Reg) (disp : BitVec 21) (s : State) : Out := fpBranchIf fpPositive fa disp s

end Sys2Proof.Machine
end

