-- ==== Sys2Proof/Machine/FpIeee.lean ====
section
/-! DEFINITION. IEEE floating operates: opcode 16, and SQRTS and SQRTT of opcode 14 (spec/46_fp_operate.md). One definition for each instruction. -/

namespace Sys2Proof.Machine

/-- SQRTS_C (R640). -/
def execSqrtsC (fb fc : Reg) (s : State) : Out := ieeeOneOp (ieeeSqrt .s) ieeeNone .chopped fb fc s

/-- SQRTT_C (R641). -/
def execSqrttC (fb fc : Reg) (s : State) : Out := ieeeOneOp (ieeeSqrt .t) ieeeNone .chopped fb fc s

/-- SQRTS_M (R640). -/
def execSqrtsM (fb fc : Reg) (s : State) : Out := ieeeOneOp (ieeeSqrt .s) ieeeNone .minus fb fc s

/-- SQRTT_M (R641). -/
def execSqrttM (fb fc : Reg) (s : State) : Out := ieeeOneOp (ieeeSqrt .t) ieeeNone .minus fb fc s

/-- SQRTS (R640). -/
def execSqrts (fb fc : Reg) (s : State) : Out := ieeeOneOp (ieeeSqrt .s) ieeeNone .normal fb fc s

/-- SQRTT (R641). -/
def execSqrtt (fb fc : Reg) (s : State) : Out := ieeeOneOp (ieeeSqrt .t) ieeeNone .normal fb fc s

/-- SQRTS_D (R640). -/
def execSqrtsD (fb fc : Reg) (s : State) : Out := ieeeOneOp (ieeeSqrt .s) ieeeNone .dynamic fb fc s

/-- SQRTT_D (R641). -/
def execSqrttD (fb fc : Reg) (s : State) : Out := ieeeOneOp (ieeeSqrt .t) ieeeNone .dynamic fb fc s

/-- SQRTS_UC (R640). -/
def execSqrtsUc (fb fc : Reg) (s : State) : Out := ieeeOneOp (ieeeSqrt .s) ieeeU .chopped fb fc s

/-- SQRTT_UC (R641). -/
def execSqrttUc (fb fc : Reg) (s : State) : Out := ieeeOneOp (ieeeSqrt .t) ieeeU .chopped fb fc s

/-- SQRTS_UM (R640). -/
def execSqrtsUm (fb fc : Reg) (s : State) : Out := ieeeOneOp (ieeeSqrt .s) ieeeU .minus fb fc s

/-- SQRTT_UM (R641). -/
def execSqrttUm (fb fc : Reg) (s : State) : Out := ieeeOneOp (ieeeSqrt .t) ieeeU .minus fb fc s

/-- SQRTS_U (R640). -/
def execSqrtsU (fb fc : Reg) (s : State) : Out := ieeeOneOp (ieeeSqrt .s) ieeeU .normal fb fc s

/-- SQRTT_U (R641). -/
def execSqrttU (fb fc : Reg) (s : State) : Out := ieeeOneOp (ieeeSqrt .t) ieeeU .normal fb fc s

/-- SQRTS_UD (R640). -/
def execSqrtsUd (fb fc : Reg) (s : State) : Out := ieeeOneOp (ieeeSqrt .s) ieeeU .dynamic fb fc s

/-- SQRTT_UD (R641). -/
def execSqrttUd (fb fc : Reg) (s : State) : Out := ieeeOneOp (ieeeSqrt .t) ieeeU .dynamic fb fc s

/-- SQRTS_SUC (R640). -/
def execSqrtsSuc (fb fc : Reg) (s : State) : Out := ieeeOneOp (ieeeSqrt .s) ieeeSu .chopped fb fc s

/-- SQRTT_SUC (R641). -/
def execSqrttSuc (fb fc : Reg) (s : State) : Out := ieeeOneOp (ieeeSqrt .t) ieeeSu .chopped fb fc s

/-- SQRTS_SUM (R640). -/
def execSqrtsSum (fb fc : Reg) (s : State) : Out := ieeeOneOp (ieeeSqrt .s) ieeeSu .minus fb fc s

/-- SQRTT_SUM (R641). -/
def execSqrttSum (fb fc : Reg) (s : State) : Out := ieeeOneOp (ieeeSqrt .t) ieeeSu .minus fb fc s

/-- SQRTS_SU (R640). -/
def execSqrtsSu (fb fc : Reg) (s : State) : Out := ieeeOneOp (ieeeSqrt .s) ieeeSu .normal fb fc s

/-- SQRTT_SU (R641). -/
def execSqrttSu (fb fc : Reg) (s : State) : Out := ieeeOneOp (ieeeSqrt .t) ieeeSu .normal fb fc s

/-- SQRTS_SUD (R640). -/
def execSqrtsSud (fb fc : Reg) (s : State) : Out := ieeeOneOp (ieeeSqrt .s) ieeeSu .dynamic fb fc s

/-- SQRTT_SUD (R641). -/
def execSqrttSud (fb fc : Reg) (s : State) : Out := ieeeOneOp (ieeeSqrt .t) ieeeSu .dynamic fb fc s

/-- SQRTS_SUIC (R640). -/
def execSqrtsSuic (fb fc : Reg) (s : State) : Out := ieeeOneOp (ieeeSqrt .s) ieeeSui .chopped fb fc s

/-- SQRTT_SUIC (R641). -/
def execSqrttSuic (fb fc : Reg) (s : State) : Out := ieeeOneOp (ieeeSqrt .t) ieeeSui .chopped fb fc s

/-- SQRTS_SUIM (R640). -/
def execSqrtsSuim (fb fc : Reg) (s : State) : Out := ieeeOneOp (ieeeSqrt .s) ieeeSui .minus fb fc s

/-- SQRTT_SUIM (R641). -/
def execSqrttSuim (fb fc : Reg) (s : State) : Out := ieeeOneOp (ieeeSqrt .t) ieeeSui .minus fb fc s

/-- SQRTS_SUI (R640). -/
def execSqrtsSui (fb fc : Reg) (s : State) : Out := ieeeOneOp (ieeeSqrt .s) ieeeSui .normal fb fc s

/-- SQRTT_SUI (R641). -/
def execSqrttSui (fb fc : Reg) (s : State) : Out := ieeeOneOp (ieeeSqrt .t) ieeeSui .normal fb fc s

/-- SQRTS_SUID (R640). -/
def execSqrtsSuid (fb fc : Reg) (s : State) : Out := ieeeOneOp (ieeeSqrt .s) ieeeSui .dynamic fb fc s

/-- SQRTT_SUID (R641). -/
def execSqrttSuid (fb fc : Reg) (s : State) : Out := ieeeOneOp (ieeeSqrt .t) ieeeSui .dynamic fb fc s

/-- ADDS_C (R620). -/
def execAddsC (fa fb fc : Reg) (s : State) : Out := ieeeTwoOp (ieeeAdd .s) ieeeNone .chopped fa fb fc s

/-- SUBS_C (R622). -/
def execSubsC (fa fb fc : Reg) (s : State) : Out := ieeeTwoOp (ieeeSub .s) ieeeNone .chopped fa fb fc s

/-- MULS_C (R624). -/
def execMulsC (fa fb fc : Reg) (s : State) : Out := ieeeTwoOp (ieeeMul .s) ieeeNone .chopped fa fb fc s

/-- DIVS_C (R626). -/
def execDivsC (fa fb fc : Reg) (s : State) : Out := ieeeTwoOp (ieeeDiv .s) ieeeNone .chopped fa fb fc s

/-- ADDT_C (R621). -/
def execAddtC (fa fb fc : Reg) (s : State) : Out := ieeeTwoOp (ieeeAdd .t) ieeeNone .chopped fa fb fc s

/-- SUBT_C (R623). -/
def execSubtC (fa fb fc : Reg) (s : State) : Out := ieeeTwoOp (ieeeSub .t) ieeeNone .chopped fa fb fc s

/-- MULT_C (R625). -/
def execMultC (fa fb fc : Reg) (s : State) : Out := ieeeTwoOp (ieeeMul .t) ieeeNone .chopped fa fb fc s

/-- DIVT_C (R627). -/
def execDivtC (fa fb fc : Reg) (s : State) : Out := ieeeTwoOp (ieeeDiv .t) ieeeNone .chopped fa fb fc s

/-- CVTTS_C (R634). -/
def execCvttsC (fb fc : Reg) (s : State) : Out := ieeeOneOp ieeeToS ieeeNone .chopped fb fc s

/-- CVTTQ_C (R635). -/
def execCvttqC (fb fc : Reg) (s : State) : Out := ieeeOneOp ieeeToInt ieeeNone .chopped fb fc s

/-- CVTQS_C (R632). -/
def execCvtqsC (fb fc : Reg) (s : State) : Out := ieeeOneOp (ieeeOfInt .s) ieeeNone .chopped fb fc s

/-- CVTQT_C (R633). -/
def execCvtqtC (fb fc : Reg) (s : State) : Out := ieeeOneOp (ieeeOfInt .t) ieeeNone .chopped fb fc s

/-- ADDS_M (R620). -/
def execAddsM (fa fb fc : Reg) (s : State) : Out := ieeeTwoOp (ieeeAdd .s) ieeeNone .minus fa fb fc s

/-- SUBS_M (R622). -/
def execSubsM (fa fb fc : Reg) (s : State) : Out := ieeeTwoOp (ieeeSub .s) ieeeNone .minus fa fb fc s

/-- MULS_M (R624). -/
def execMulsM (fa fb fc : Reg) (s : State) : Out := ieeeTwoOp (ieeeMul .s) ieeeNone .minus fa fb fc s

/-- DIVS_M (R626). -/
def execDivsM (fa fb fc : Reg) (s : State) : Out := ieeeTwoOp (ieeeDiv .s) ieeeNone .minus fa fb fc s

/-- ADDT_M (R621). -/
def execAddtM (fa fb fc : Reg) (s : State) : Out := ieeeTwoOp (ieeeAdd .t) ieeeNone .minus fa fb fc s

/-- SUBT_M (R623). -/
def execSubtM (fa fb fc : Reg) (s : State) : Out := ieeeTwoOp (ieeeSub .t) ieeeNone .minus fa fb fc s

/-- MULT_M (R625). -/
def execMultM (fa fb fc : Reg) (s : State) : Out := ieeeTwoOp (ieeeMul .t) ieeeNone .minus fa fb fc s

/-- DIVT_M (R627). -/
def execDivtM (fa fb fc : Reg) (s : State) : Out := ieeeTwoOp (ieeeDiv .t) ieeeNone .minus fa fb fc s

/-- CVTTS_M (R634). -/
def execCvttsM (fb fc : Reg) (s : State) : Out := ieeeOneOp ieeeToS ieeeNone .minus fb fc s

/-- CVTTQ_M (R635). -/
def execCvttqM (fb fc : Reg) (s : State) : Out := ieeeOneOp ieeeToInt ieeeNone .minus fb fc s

/-- CVTQS_M (R632). -/
def execCvtqsM (fb fc : Reg) (s : State) : Out := ieeeOneOp (ieeeOfInt .s) ieeeNone .minus fb fc s

/-- CVTQT_M (R633). -/
def execCvtqtM (fb fc : Reg) (s : State) : Out := ieeeOneOp (ieeeOfInt .t) ieeeNone .minus fb fc s

/-- ADDS (R620). -/
def execAdds (fa fb fc : Reg) (s : State) : Out := ieeeTwoOp (ieeeAdd .s) ieeeNone .normal fa fb fc s

/-- SUBS (R622). -/
def execSubs (fa fb fc : Reg) (s : State) : Out := ieeeTwoOp (ieeeSub .s) ieeeNone .normal fa fb fc s

/-- MULS (R624). -/
def execMuls (fa fb fc : Reg) (s : State) : Out := ieeeTwoOp (ieeeMul .s) ieeeNone .normal fa fb fc s

/-- DIVS (R626). -/
def execDivs (fa fb fc : Reg) (s : State) : Out := ieeeTwoOp (ieeeDiv .s) ieeeNone .normal fa fb fc s

/-- ADDT (R621). -/
def execAddt (fa fb fc : Reg) (s : State) : Out := ieeeTwoOp (ieeeAdd .t) ieeeNone .normal fa fb fc s

/-- SUBT (R623). -/
def execSubt (fa fb fc : Reg) (s : State) : Out := ieeeTwoOp (ieeeSub .t) ieeeNone .normal fa fb fc s

/-- MULT (R625). -/
def execMult (fa fb fc : Reg) (s : State) : Out := ieeeTwoOp (ieeeMul .t) ieeeNone .normal fa fb fc s

/-- DIVT (R627). -/
def execDivt (fa fb fc : Reg) (s : State) : Out := ieeeTwoOp (ieeeDiv .t) ieeeNone .normal fa fb fc s

/-- CMPTUN (R628). -/
def execCmptun (fa fb fc : Reg) (s : State) : Out := ieeeTwoOp ieeeUnordered ieeeNone .normal fa fb fc s

/-- CMPTEQ (R629). -/
def execCmpteq (fa fb fc : Reg) (s : State) : Out := ieeeTwoOp ieeeEqual ieeeNone .normal fa fb fc s

/-- CMPTLT (R630). -/
def execCmptlt (fa fb fc : Reg) (s : State) : Out := ieeeTwoOp ieeeLess ieeeNone .normal fa fb fc s

/-- CMPTLE (R631). -/
def execCmptle (fa fb fc : Reg) (s : State) : Out := ieeeTwoOp ieeeLessEq ieeeNone .normal fa fb fc s

/-- CVTTS (R634). -/
def execCvtts (fb fc : Reg) (s : State) : Out := ieeeOneOp ieeeToS ieeeNone .normal fb fc s

/-- CVTTQ (R635). -/
def execCvttq (fb fc : Reg) (s : State) : Out := ieeeOneOp ieeeToInt ieeeNone .normal fb fc s

/-- CVTQS (R632). -/
def execCvtqs (fb fc : Reg) (s : State) : Out := ieeeOneOp (ieeeOfInt .s) ieeeNone .normal fb fc s

/-- CVTQT (R633). -/
def execCvtqt (fb fc : Reg) (s : State) : Out := ieeeOneOp (ieeeOfInt .t) ieeeNone .normal fb fc s

/-- ADDS_D (R620). -/
def execAddsD (fa fb fc : Reg) (s : State) : Out := ieeeTwoOp (ieeeAdd .s) ieeeNone .dynamic fa fb fc s

/-- SUBS_D (R622). -/
def execSubsD (fa fb fc : Reg) (s : State) : Out := ieeeTwoOp (ieeeSub .s) ieeeNone .dynamic fa fb fc s

/-- MULS_D (R624). -/
def execMulsD (fa fb fc : Reg) (s : State) : Out := ieeeTwoOp (ieeeMul .s) ieeeNone .dynamic fa fb fc s

/-- DIVS_D (R626). -/
def execDivsD (fa fb fc : Reg) (s : State) : Out := ieeeTwoOp (ieeeDiv .s) ieeeNone .dynamic fa fb fc s

/-- ADDT_D (R621). -/
def execAddtD (fa fb fc : Reg) (s : State) : Out := ieeeTwoOp (ieeeAdd .t) ieeeNone .dynamic fa fb fc s

/-- SUBT_D (R623). -/
def execSubtD (fa fb fc : Reg) (s : State) : Out := ieeeTwoOp (ieeeSub .t) ieeeNone .dynamic fa fb fc s

/-- MULT_D (R625). -/
def execMultD (fa fb fc : Reg) (s : State) : Out := ieeeTwoOp (ieeeMul .t) ieeeNone .dynamic fa fb fc s

/-- DIVT_D (R627). -/
def execDivtD (fa fb fc : Reg) (s : State) : Out := ieeeTwoOp (ieeeDiv .t) ieeeNone .dynamic fa fb fc s

/-- CVTTS_D (R634). -/
def execCvttsD (fb fc : Reg) (s : State) : Out := ieeeOneOp ieeeToS ieeeNone .dynamic fb fc s

/-- CVTTQ_D (R635). -/
def execCvttqD (fb fc : Reg) (s : State) : Out := ieeeOneOp ieeeToInt ieeeNone .dynamic fb fc s

/-- CVTQS_D (R632). -/
def execCvtqsD (fb fc : Reg) (s : State) : Out := ieeeOneOp (ieeeOfInt .s) ieeeNone .dynamic fb fc s

/-- CVTQT_D (R633). -/
def execCvtqtD (fb fc : Reg) (s : State) : Out := ieeeOneOp (ieeeOfInt .t) ieeeNone .dynamic fb fc s

/-- ADDS_UC (R620). -/
def execAddsUc (fa fb fc : Reg) (s : State) : Out := ieeeTwoOp (ieeeAdd .s) ieeeU .chopped fa fb fc s

/-- SUBS_UC (R622). -/
def execSubsUc (fa fb fc : Reg) (s : State) : Out := ieeeTwoOp (ieeeSub .s) ieeeU .chopped fa fb fc s

/-- MULS_UC (R624). -/
def execMulsUc (fa fb fc : Reg) (s : State) : Out := ieeeTwoOp (ieeeMul .s) ieeeU .chopped fa fb fc s

/-- DIVS_UC (R626). -/
def execDivsUc (fa fb fc : Reg) (s : State) : Out := ieeeTwoOp (ieeeDiv .s) ieeeU .chopped fa fb fc s

/-- ADDT_UC (R621). -/
def execAddtUc (fa fb fc : Reg) (s : State) : Out := ieeeTwoOp (ieeeAdd .t) ieeeU .chopped fa fb fc s

/-- SUBT_UC (R623). -/
def execSubtUc (fa fb fc : Reg) (s : State) : Out := ieeeTwoOp (ieeeSub .t) ieeeU .chopped fa fb fc s

/-- MULT_UC (R625). -/
def execMultUc (fa fb fc : Reg) (s : State) : Out := ieeeTwoOp (ieeeMul .t) ieeeU .chopped fa fb fc s

/-- DIVT_UC (R627). -/
def execDivtUc (fa fb fc : Reg) (s : State) : Out := ieeeTwoOp (ieeeDiv .t) ieeeU .chopped fa fb fc s

/-- CVTTS_UC (R634). -/
def execCvttsUc (fb fc : Reg) (s : State) : Out := ieeeOneOp ieeeToS ieeeU .chopped fb fc s

/-- CVTTQ_VC (R635). -/
def execCvttqVc (fb fc : Reg) (s : State) : Out := ieeeOneOp ieeeToInt ieeeU .chopped fb fc s

/-- ADDS_UM (R620). -/
def execAddsUm (fa fb fc : Reg) (s : State) : Out := ieeeTwoOp (ieeeAdd .s) ieeeU .minus fa fb fc s

/-- SUBS_UM (R622). -/
def execSubsUm (fa fb fc : Reg) (s : State) : Out := ieeeTwoOp (ieeeSub .s) ieeeU .minus fa fb fc s

/-- MULS_UM (R624). -/
def execMulsUm (fa fb fc : Reg) (s : State) : Out := ieeeTwoOp (ieeeMul .s) ieeeU .minus fa fb fc s

/-- DIVS_UM (R626). -/
def execDivsUm (fa fb fc : Reg) (s : State) : Out := ieeeTwoOp (ieeeDiv .s) ieeeU .minus fa fb fc s

/-- ADDT_UM (R621). -/
def execAddtUm (fa fb fc : Reg) (s : State) : Out := ieeeTwoOp (ieeeAdd .t) ieeeU .minus fa fb fc s

/-- SUBT_UM (R623). -/
def execSubtUm (fa fb fc : Reg) (s : State) : Out := ieeeTwoOp (ieeeSub .t) ieeeU .minus fa fb fc s

/-- MULT_UM (R625). -/
def execMultUm (fa fb fc : Reg) (s : State) : Out := ieeeTwoOp (ieeeMul .t) ieeeU .minus fa fb fc s

/-- DIVT_UM (R627). -/
def execDivtUm (fa fb fc : Reg) (s : State) : Out := ieeeTwoOp (ieeeDiv .t) ieeeU .minus fa fb fc s

/-- CVTTS_UM (R634). -/
def execCvttsUm (fb fc : Reg) (s : State) : Out := ieeeOneOp ieeeToS ieeeU .minus fb fc s

/-- CVTTQ_VM (R635). -/
def execCvttqVm (fb fc : Reg) (s : State) : Out := ieeeOneOp ieeeToInt ieeeU .minus fb fc s

/-- ADDS_U (R620). -/
def execAddsU (fa fb fc : Reg) (s : State) : Out := ieeeTwoOp (ieeeAdd .s) ieeeU .normal fa fb fc s

/-- SUBS_U (R622). -/
def execSubsU (fa fb fc : Reg) (s : State) : Out := ieeeTwoOp (ieeeSub .s) ieeeU .normal fa fb fc s

/-- MULS_U (R624). -/
def execMulsU (fa fb fc : Reg) (s : State) : Out := ieeeTwoOp (ieeeMul .s) ieeeU .normal fa fb fc s

/-- DIVS_U (R626). -/
def execDivsU (fa fb fc : Reg) (s : State) : Out := ieeeTwoOp (ieeeDiv .s) ieeeU .normal fa fb fc s

/-- ADDT_U (R621). -/
def execAddtU (fa fb fc : Reg) (s : State) : Out := ieeeTwoOp (ieeeAdd .t) ieeeU .normal fa fb fc s

/-- SUBT_U (R623). -/
def execSubtU (fa fb fc : Reg) (s : State) : Out := ieeeTwoOp (ieeeSub .t) ieeeU .normal fa fb fc s

/-- MULT_U (R625). -/
def execMultU (fa fb fc : Reg) (s : State) : Out := ieeeTwoOp (ieeeMul .t) ieeeU .normal fa fb fc s

/-- DIVT_U (R627). -/
def execDivtU (fa fb fc : Reg) (s : State) : Out := ieeeTwoOp (ieeeDiv .t) ieeeU .normal fa fb fc s

/-- CVTTS_U (R634). -/
def execCvttsU (fb fc : Reg) (s : State) : Out := ieeeOneOp ieeeToS ieeeU .normal fb fc s

/-- CVTTQ_V (R635). -/
def execCvttqV (fb fc : Reg) (s : State) : Out := ieeeOneOp ieeeToInt ieeeU .normal fb fc s

/-- ADDS_UD (R620). -/
def execAddsUd (fa fb fc : Reg) (s : State) : Out := ieeeTwoOp (ieeeAdd .s) ieeeU .dynamic fa fb fc s

/-- SUBS_UD (R622). -/
def execSubsUd (fa fb fc : Reg) (s : State) : Out := ieeeTwoOp (ieeeSub .s) ieeeU .dynamic fa fb fc s

/-- MULS_UD (R624). -/
def execMulsUd (fa fb fc : Reg) (s : State) : Out := ieeeTwoOp (ieeeMul .s) ieeeU .dynamic fa fb fc s

/-- DIVS_UD (R626). -/
def execDivsUd (fa fb fc : Reg) (s : State) : Out := ieeeTwoOp (ieeeDiv .s) ieeeU .dynamic fa fb fc s

/-- ADDT_UD (R621). -/
def execAddtUd (fa fb fc : Reg) (s : State) : Out := ieeeTwoOp (ieeeAdd .t) ieeeU .dynamic fa fb fc s

/-- SUBT_UD (R623). -/
def execSubtUd (fa fb fc : Reg) (s : State) : Out := ieeeTwoOp (ieeeSub .t) ieeeU .dynamic fa fb fc s

/-- MULT_UD (R625). -/
def execMultUd (fa fb fc : Reg) (s : State) : Out := ieeeTwoOp (ieeeMul .t) ieeeU .dynamic fa fb fc s

/-- DIVT_UD (R627). -/
def execDivtUd (fa fb fc : Reg) (s : State) : Out := ieeeTwoOp (ieeeDiv .t) ieeeU .dynamic fa fb fc s

/-- CVTTS_UD (R634). -/
def execCvttsUd (fb fc : Reg) (s : State) : Out := ieeeOneOp ieeeToS ieeeU .dynamic fb fc s

/-- CVTTQ_VD (R635). -/
def execCvttqVd (fb fc : Reg) (s : State) : Out := ieeeOneOp ieeeToInt ieeeU .dynamic fb fc s

/-- CVTST (R636). -/
def execCvtst (fb fc : Reg) (s : State) : Out := ieeeOneOp ieeeToT ieeeNone .normal fb fc s

/-- ADDS_SUC (R620). -/
def execAddsSuc (fa fb fc : Reg) (s : State) : Out := ieeeTwoOp (ieeeAdd .s) ieeeSu .chopped fa fb fc s

/-- SUBS_SUC (R622). -/
def execSubsSuc (fa fb fc : Reg) (s : State) : Out := ieeeTwoOp (ieeeSub .s) ieeeSu .chopped fa fb fc s

/-- MULS_SUC (R624). -/
def execMulsSuc (fa fb fc : Reg) (s : State) : Out := ieeeTwoOp (ieeeMul .s) ieeeSu .chopped fa fb fc s

/-- DIVS_SUC (R626). -/
def execDivsSuc (fa fb fc : Reg) (s : State) : Out := ieeeTwoOp (ieeeDiv .s) ieeeSu .chopped fa fb fc s

/-- ADDT_SUC (R621). -/
def execAddtSuc (fa fb fc : Reg) (s : State) : Out := ieeeTwoOp (ieeeAdd .t) ieeeSu .chopped fa fb fc s

/-- SUBT_SUC (R623). -/
def execSubtSuc (fa fb fc : Reg) (s : State) : Out := ieeeTwoOp (ieeeSub .t) ieeeSu .chopped fa fb fc s

/-- MULT_SUC (R625). -/
def execMultSuc (fa fb fc : Reg) (s : State) : Out := ieeeTwoOp (ieeeMul .t) ieeeSu .chopped fa fb fc s

/-- DIVT_SUC (R627). -/
def execDivtSuc (fa fb fc : Reg) (s : State) : Out := ieeeTwoOp (ieeeDiv .t) ieeeSu .chopped fa fb fc s

/-- CVTTS_SUC (R634). -/
def execCvttsSuc (fb fc : Reg) (s : State) : Out := ieeeOneOp ieeeToS ieeeSu .chopped fb fc s

/-- CVTTQ_SVC (R635). -/
def execCvttqSvc (fb fc : Reg) (s : State) : Out := ieeeOneOp ieeeToInt ieeeSu .chopped fb fc s

/-- ADDS_SUM (R620). -/
def execAddsSum (fa fb fc : Reg) (s : State) : Out := ieeeTwoOp (ieeeAdd .s) ieeeSu .minus fa fb fc s

/-- SUBS_SUM (R622). -/
def execSubsSum (fa fb fc : Reg) (s : State) : Out := ieeeTwoOp (ieeeSub .s) ieeeSu .minus fa fb fc s

/-- MULS_SUM (R624). -/
def execMulsSum (fa fb fc : Reg) (s : State) : Out := ieeeTwoOp (ieeeMul .s) ieeeSu .minus fa fb fc s

/-- DIVS_SUM (R626). -/
def execDivsSum (fa fb fc : Reg) (s : State) : Out := ieeeTwoOp (ieeeDiv .s) ieeeSu .minus fa fb fc s

/-- ADDT_SUM (R621). -/
def execAddtSum (fa fb fc : Reg) (s : State) : Out := ieeeTwoOp (ieeeAdd .t) ieeeSu .minus fa fb fc s

/-- SUBT_SUM (R623). -/
def execSubtSum (fa fb fc : Reg) (s : State) : Out := ieeeTwoOp (ieeeSub .t) ieeeSu .minus fa fb fc s

/-- MULT_SUM (R625). -/
def execMultSum (fa fb fc : Reg) (s : State) : Out := ieeeTwoOp (ieeeMul .t) ieeeSu .minus fa fb fc s

/-- DIVT_SUM (R627). -/
def execDivtSum (fa fb fc : Reg) (s : State) : Out := ieeeTwoOp (ieeeDiv .t) ieeeSu .minus fa fb fc s

/-- CVTTS_SUM (R634). -/
def execCvttsSum (fb fc : Reg) (s : State) : Out := ieeeOneOp ieeeToS ieeeSu .minus fb fc s

/-- CVTTQ_SVM (R635). -/
def execCvttqSvm (fb fc : Reg) (s : State) : Out := ieeeOneOp ieeeToInt ieeeSu .minus fb fc s

/-- ADDS_SU (R620). -/
def execAddsSu (fa fb fc : Reg) (s : State) : Out := ieeeTwoOp (ieeeAdd .s) ieeeSu .normal fa fb fc s

/-- SUBS_SU (R622). -/
def execSubsSu (fa fb fc : Reg) (s : State) : Out := ieeeTwoOp (ieeeSub .s) ieeeSu .normal fa fb fc s

/-- MULS_SU (R624). -/
def execMulsSu (fa fb fc : Reg) (s : State) : Out := ieeeTwoOp (ieeeMul .s) ieeeSu .normal fa fb fc s

/-- DIVS_SU (R626). -/
def execDivsSu (fa fb fc : Reg) (s : State) : Out := ieeeTwoOp (ieeeDiv .s) ieeeSu .normal fa fb fc s

/-- ADDT_SU (R621). -/
def execAddtSu (fa fb fc : Reg) (s : State) : Out := ieeeTwoOp (ieeeAdd .t) ieeeSu .normal fa fb fc s

/-- SUBT_SU (R623). -/
def execSubtSu (fa fb fc : Reg) (s : State) : Out := ieeeTwoOp (ieeeSub .t) ieeeSu .normal fa fb fc s

/-- MULT_SU (R625). -/
def execMultSu (fa fb fc : Reg) (s : State) : Out := ieeeTwoOp (ieeeMul .t) ieeeSu .normal fa fb fc s

/-- DIVT_SU (R627). -/
def execDivtSu (fa fb fc : Reg) (s : State) : Out := ieeeTwoOp (ieeeDiv .t) ieeeSu .normal fa fb fc s

/-- CMPTUN_SU (R628). -/
def execCmptunSu (fa fb fc : Reg) (s : State) : Out := ieeeTwoOp ieeeUnordered ieeeSu .normal fa fb fc s

/-- CMPTEQ_SU (R629). -/
def execCmpteqSu (fa fb fc : Reg) (s : State) : Out := ieeeTwoOp ieeeEqual ieeeSu .normal fa fb fc s

/-- CMPTLT_SU (R630). -/
def execCmptltSu (fa fb fc : Reg) (s : State) : Out := ieeeTwoOp ieeeLess ieeeSu .normal fa fb fc s

/-- CMPTLE_SU (R631). -/
def execCmptleSu (fa fb fc : Reg) (s : State) : Out := ieeeTwoOp ieeeLessEq ieeeSu .normal fa fb fc s

/-- CVTTS_SU (R634). -/
def execCvttsSu (fb fc : Reg) (s : State) : Out := ieeeOneOp ieeeToS ieeeSu .normal fb fc s

/-- CVTTQ_SV (R635). -/
def execCvttqSv (fb fc : Reg) (s : State) : Out := ieeeOneOp ieeeToInt ieeeSu .normal fb fc s

/-- ADDS_SUD (R620). -/
def execAddsSud (fa fb fc : Reg) (s : State) : Out := ieeeTwoOp (ieeeAdd .s) ieeeSu .dynamic fa fb fc s

/-- SUBS_SUD (R622). -/
def execSubsSud (fa fb fc : Reg) (s : State) : Out := ieeeTwoOp (ieeeSub .s) ieeeSu .dynamic fa fb fc s

/-- MULS_SUD (R624). -/
def execMulsSud (fa fb fc : Reg) (s : State) : Out := ieeeTwoOp (ieeeMul .s) ieeeSu .dynamic fa fb fc s

/-- DIVS_SUD (R626). -/
def execDivsSud (fa fb fc : Reg) (s : State) : Out := ieeeTwoOp (ieeeDiv .s) ieeeSu .dynamic fa fb fc s

/-- ADDT_SUD (R621). -/
def execAddtSud (fa fb fc : Reg) (s : State) : Out := ieeeTwoOp (ieeeAdd .t) ieeeSu .dynamic fa fb fc s

/-- SUBT_SUD (R623). -/
def execSubtSud (fa fb fc : Reg) (s : State) : Out := ieeeTwoOp (ieeeSub .t) ieeeSu .dynamic fa fb fc s

/-- MULT_SUD (R625). -/
def execMultSud (fa fb fc : Reg) (s : State) : Out := ieeeTwoOp (ieeeMul .t) ieeeSu .dynamic fa fb fc s

/-- DIVT_SUD (R627). -/
def execDivtSud (fa fb fc : Reg) (s : State) : Out := ieeeTwoOp (ieeeDiv .t) ieeeSu .dynamic fa fb fc s

/-- CVTTS_SUD (R634). -/
def execCvttsSud (fb fc : Reg) (s : State) : Out := ieeeOneOp ieeeToS ieeeSu .dynamic fb fc s

/-- CVTTQ_SVD (R635). -/
def execCvttqSvd (fb fc : Reg) (s : State) : Out := ieeeOneOp ieeeToInt ieeeSu .dynamic fb fc s

/-- CVTST_S (R636). -/
def execCvtstS (fb fc : Reg) (s : State) : Out := ieeeOneOp ieeeToT ieeeS .normal fb fc s

/-- ADDS_SUIC (R620). -/
def execAddsSuic (fa fb fc : Reg) (s : State) : Out := ieeeTwoOp (ieeeAdd .s) ieeeSui .chopped fa fb fc s

/-- SUBS_SUIC (R622). -/
def execSubsSuic (fa fb fc : Reg) (s : State) : Out := ieeeTwoOp (ieeeSub .s) ieeeSui .chopped fa fb fc s

/-- MULS_SUIC (R624). -/
def execMulsSuic (fa fb fc : Reg) (s : State) : Out := ieeeTwoOp (ieeeMul .s) ieeeSui .chopped fa fb fc s

/-- DIVS_SUIC (R626). -/
def execDivsSuic (fa fb fc : Reg) (s : State) : Out := ieeeTwoOp (ieeeDiv .s) ieeeSui .chopped fa fb fc s

/-- ADDT_SUIC (R621). -/
def execAddtSuic (fa fb fc : Reg) (s : State) : Out := ieeeTwoOp (ieeeAdd .t) ieeeSui .chopped fa fb fc s

/-- SUBT_SUIC (R623). -/
def execSubtSuic (fa fb fc : Reg) (s : State) : Out := ieeeTwoOp (ieeeSub .t) ieeeSui .chopped fa fb fc s

/-- MULT_SUIC (R625). -/
def execMultSuic (fa fb fc : Reg) (s : State) : Out := ieeeTwoOp (ieeeMul .t) ieeeSui .chopped fa fb fc s

/-- DIVT_SUIC (R627). -/
def execDivtSuic (fa fb fc : Reg) (s : State) : Out := ieeeTwoOp (ieeeDiv .t) ieeeSui .chopped fa fb fc s

/-- CVTTS_SUIC (R634). -/
def execCvttsSuic (fb fc : Reg) (s : State) : Out := ieeeOneOp ieeeToS ieeeSui .chopped fb fc s

/-- CVTTQ_SVIC (R635). -/
def execCvttqSvic (fb fc : Reg) (s : State) : Out := ieeeOneOp ieeeToInt ieeeSui .chopped fb fc s

/-- CVTQS_SUIC (R632). -/
def execCvtqsSuic (fb fc : Reg) (s : State) : Out := ieeeOneOp (ieeeOfInt .s) ieeeSui .chopped fb fc s

/-- CVTQT_SUIC (R633). -/
def execCvtqtSuic (fb fc : Reg) (s : State) : Out := ieeeOneOp (ieeeOfInt .t) ieeeSui .chopped fb fc s

/-- ADDS_SUIM (R620). -/
def execAddsSuim (fa fb fc : Reg) (s : State) : Out := ieeeTwoOp (ieeeAdd .s) ieeeSui .minus fa fb fc s

/-- SUBS_SUIM (R622). -/
def execSubsSuim (fa fb fc : Reg) (s : State) : Out := ieeeTwoOp (ieeeSub .s) ieeeSui .minus fa fb fc s

/-- MULS_SUIM (R624). -/
def execMulsSuim (fa fb fc : Reg) (s : State) : Out := ieeeTwoOp (ieeeMul .s) ieeeSui .minus fa fb fc s

/-- DIVS_SUIM (R626). -/
def execDivsSuim (fa fb fc : Reg) (s : State) : Out := ieeeTwoOp (ieeeDiv .s) ieeeSui .minus fa fb fc s

/-- ADDT_SUIM (R621). -/
def execAddtSuim (fa fb fc : Reg) (s : State) : Out := ieeeTwoOp (ieeeAdd .t) ieeeSui .minus fa fb fc s

/-- SUBT_SUIM (R623). -/
def execSubtSuim (fa fb fc : Reg) (s : State) : Out := ieeeTwoOp (ieeeSub .t) ieeeSui .minus fa fb fc s

/-- MULT_SUIM (R625). -/
def execMultSuim (fa fb fc : Reg) (s : State) : Out := ieeeTwoOp (ieeeMul .t) ieeeSui .minus fa fb fc s

/-- DIVT_SUIM (R627). -/
def execDivtSuim (fa fb fc : Reg) (s : State) : Out := ieeeTwoOp (ieeeDiv .t) ieeeSui .minus fa fb fc s

/-- CVTTS_SUIM (R634). -/
def execCvttsSuim (fb fc : Reg) (s : State) : Out := ieeeOneOp ieeeToS ieeeSui .minus fb fc s

/-- CVTTQ_SVIM (R635). -/
def execCvttqSvim (fb fc : Reg) (s : State) : Out := ieeeOneOp ieeeToInt ieeeSui .minus fb fc s

/-- CVTQS_SUIM (R632). -/
def execCvtqsSuim (fb fc : Reg) (s : State) : Out := ieeeOneOp (ieeeOfInt .s) ieeeSui .minus fb fc s

/-- CVTQT_SUIM (R633). -/
def execCvtqtSuim (fb fc : Reg) (s : State) : Out := ieeeOneOp (ieeeOfInt .t) ieeeSui .minus fb fc s

/-- ADDS_SUI (R620). -/
def execAddsSui (fa fb fc : Reg) (s : State) : Out := ieeeTwoOp (ieeeAdd .s) ieeeSui .normal fa fb fc s

/-- SUBS_SUI (R622). -/
def execSubsSui (fa fb fc : Reg) (s : State) : Out := ieeeTwoOp (ieeeSub .s) ieeeSui .normal fa fb fc s

/-- MULS_SUI (R624). -/
def execMulsSui (fa fb fc : Reg) (s : State) : Out := ieeeTwoOp (ieeeMul .s) ieeeSui .normal fa fb fc s

/-- DIVS_SUI (R626). -/
def execDivsSui (fa fb fc : Reg) (s : State) : Out := ieeeTwoOp (ieeeDiv .s) ieeeSui .normal fa fb fc s

/-- ADDT_SUI (R621). -/
def execAddtSui (fa fb fc : Reg) (s : State) : Out := ieeeTwoOp (ieeeAdd .t) ieeeSui .normal fa fb fc s

/-- SUBT_SUI (R623). -/
def execSubtSui (fa fb fc : Reg) (s : State) : Out := ieeeTwoOp (ieeeSub .t) ieeeSui .normal fa fb fc s

/-- MULT_SUI (R625). -/
def execMultSui (fa fb fc : Reg) (s : State) : Out := ieeeTwoOp (ieeeMul .t) ieeeSui .normal fa fb fc s

/-- DIVT_SUI (R627). -/
def execDivtSui (fa fb fc : Reg) (s : State) : Out := ieeeTwoOp (ieeeDiv .t) ieeeSui .normal fa fb fc s

/-- CVTTS_SUI (R634). -/
def execCvttsSui (fb fc : Reg) (s : State) : Out := ieeeOneOp ieeeToS ieeeSui .normal fb fc s

/-- CVTTQ_SVI (R635). -/
def execCvttqSvi (fb fc : Reg) (s : State) : Out := ieeeOneOp ieeeToInt ieeeSui .normal fb fc s

/-- CVTQS_SUI (R632). -/
def execCvtqsSui (fb fc : Reg) (s : State) : Out := ieeeOneOp (ieeeOfInt .s) ieeeSui .normal fb fc s

/-- CVTQT_SUI (R633). -/
def execCvtqtSui (fb fc : Reg) (s : State) : Out := ieeeOneOp (ieeeOfInt .t) ieeeSui .normal fb fc s

/-- ADDS_SUID (R620). -/
def execAddsSuid (fa fb fc : Reg) (s : State) : Out := ieeeTwoOp (ieeeAdd .s) ieeeSui .dynamic fa fb fc s

/-- SUBS_SUID (R622). -/
def execSubsSuid (fa fb fc : Reg) (s : State) : Out := ieeeTwoOp (ieeeSub .s) ieeeSui .dynamic fa fb fc s

/-- MULS_SUID (R624). -/
def execMulsSuid (fa fb fc : Reg) (s : State) : Out := ieeeTwoOp (ieeeMul .s) ieeeSui .dynamic fa fb fc s

/-- DIVS_SUID (R626). -/
def execDivsSuid (fa fb fc : Reg) (s : State) : Out := ieeeTwoOp (ieeeDiv .s) ieeeSui .dynamic fa fb fc s

/-- ADDT_SUID (R621). -/
def execAddtSuid (fa fb fc : Reg) (s : State) : Out := ieeeTwoOp (ieeeAdd .t) ieeeSui .dynamic fa fb fc s

/-- SUBT_SUID (R623). -/
def execSubtSuid (fa fb fc : Reg) (s : State) : Out := ieeeTwoOp (ieeeSub .t) ieeeSui .dynamic fa fb fc s

/-- MULT_SUID (R625). -/
def execMultSuid (fa fb fc : Reg) (s : State) : Out := ieeeTwoOp (ieeeMul .t) ieeeSui .dynamic fa fb fc s

/-- DIVT_SUID (R627). -/
def execDivtSuid (fa fb fc : Reg) (s : State) : Out := ieeeTwoOp (ieeeDiv .t) ieeeSui .dynamic fa fb fc s

/-- CVTTS_SUID (R634). -/
def execCvttsSuid (fb fc : Reg) (s : State) : Out := ieeeOneOp ieeeToS ieeeSui .dynamic fb fc s

/-- CVTTQ_SVID (R635). -/
def execCvttqSvid (fb fc : Reg) (s : State) : Out := ieeeOneOp ieeeToInt ieeeSui .dynamic fb fc s

/-- CVTQS_SUID (R632). -/
def execCvtqsSuid (fb fc : Reg) (s : State) : Out := ieeeOneOp (ieeeOfInt .s) ieeeSui .dynamic fb fc s

/-- CVTQT_SUID (R633). -/
def execCvtqtSuid (fb fc : Reg) (s : State) : Out := ieeeOneOp (ieeeOfInt .t) ieeeSui .dynamic fb fc s

end Sys2Proof.Machine
end

