-- ==== Sys2Proof/Machine/FpMemory.lean ====
section
/-! DEFINITION. Floating loads and stores (spec/45_fp_memory_branch.md). One definition for each instruction. -/

namespace Sys2Proof.Machine

/-- LDF (R572). -/
def execLdf (fa rb : Reg) (disp : BitVec 16) (s : State) : Out := loadFp 0x20 4 imageF fa rb disp s

/-- LDG (R573). -/
def execLdg (fa rb : Reg) (disp : BitVec 16) (s : State) : Out := loadFp 0x21 8 swapG fa rb disp s

/-- LDS (R574). -/
def execLds (fa rb : Reg) (disp : BitVec 16) (s : State) : Out := loadFp 0x22 4 imageS fa rb disp s

/-- LDT (R575). -/
def execLdt (fa rb : Reg) (disp : BitVec 16) (s : State) : Out := loadFp 0x23 8 id fa rb disp s

/-- STF (R576). -/
def execStf (fa rb : Reg) (disp : BitVec 16) (s : State) : Out := storeFp 0x24 4 (fun v => (datumF v).setWidth 64) fa rb disp s

/-- STG (R577). -/
def execStg (fa rb : Reg) (disp : BitVec 16) (s : State) : Out := storeFp 0x25 8 swapG fa rb disp s

/-- STS (R578). -/
def execSts (fa rb : Reg) (disp : BitVec 16) (s : State) : Out := storeFp 0x26 4 (fun v => (datumS v).setWidth 64) fa rb disp s

/-- STT (R579). -/
def execStt (fa rb : Reg) (disp : BitVec 16) (s : State) : Out := storeFp 0x27 8 id fa rb disp s

end Sys2Proof.Machine
end

