-- ==== Sys2Proof/Machine/FpMove.lean ====
section
/-! DEFINITION. Copies, conditional moves, longword conversions, register moves and FPCR access (spec/46_fp_operate.md sections 3, 5, 6). One definition for each instruction. -/

namespace Sys2Proof.Machine

/-- MT_FPCR (R700, R846): the FPCR takes bits [63:48]; in native mode the synchronous trap to the MT_FPCR entry follows. -/
def moveToFpcr (s : State) (v : Word) : State :=
  let s1 := { s with fpcr := v &&& 0xFFFF000000000000 }
  if s.palMode then advance s1 else takeException s1 .mtFpcr (trapPc s1) none

/-- FTOIT (R647). -/
def execFtoit (fa rc : Reg) (s : State) : Out := requireFp s (withReg rc) (.next (advance (writeInt s rc (readFp s fa))))

/-- FTOIS (R648). -/
def execFtois (fa rc : Reg) (s : State) : Out :=
  requireFp s (withReg rc) (.next (advance (writeInt s rc ((datumS (readFp s fa)).signExtend 64))))

/-- ITOFS (R644). -/
def execItofs (ra fc : Reg) (s : State) : Out := fpMove fc (imageS (readInt s ra)) s

/-- ITOFF (R645). -/
def execItoff (ra fc : Reg) (s : State) : Out := fpMove fc (imageF (readInt s ra)) s

/-- ITOFT (R646). -/
def execItoft (ra fc : Reg) (s : State) : Out := fpMove fc (readInt s ra) s

/-- CVTLQ (R673). -/
def execCvtlq (fb fc : Reg) (s : State) : Out := fpMove fc ((datumS (readFp s fb)).signExtend 64) s

/-- CPYS (R670). -/
def execCpys (fa fb fc : Reg) (s : State) : Out := fpMove fc ((readFp s fa).extractLsb' 63 1 ++ (readFp s fb).extractLsb' 0 63) s

/-- CPYSN (R671). -/
def execCpysn (fa fb fc : Reg) (s : State) : Out :=
  fpMove fc (~~~(readFp s fa).extractLsb' 63 1 ++ (readFp s fb).extractLsb' 0 63) s

/-- CPYSE (R672). -/
def execCpyse (fa fb fc : Reg) (s : State) : Out := fpMove fc ((readFp s fa).extractLsb' 52 12 ++ (readFp s fb).extractLsb' 0 52) s

/-- MT_FPCR (R700). -/
def execMtFpcr (fa fc : Reg) (s : State) : Out := requireFp s (withReg fc) (.next (moveToFpcr s (readFp s fa)))

/-- MF_FPCR (R701). -/
def execMfFpcr (fa fc : Reg) (s : State) : Out := requireFp s (withReg fc) (.next (advance (writeFp s fa s.fpcr)))

/-- FCMOVEQ (R676). -/
def execFcmoveq (fa fb fc : Reg) (s : State) : Out := fpCondMove (fpIsZero (readFp s fa)) fb fc s

/-- FCMOVNE (R677). -/
def execFcmovne (fa fb fc : Reg) (s : State) : Out := fpCondMove (!fpIsZero (readFp s fa)) fb fc s

/-- FCMOVLT (R678). -/
def execFcmovlt (fa fb fc : Reg) (s : State) : Out := fpCondMove (fpNegative (readFp s fa)) fb fc s

/-- FCMOVGE (R679). -/
def execFcmovge (fa fb fc : Reg) (s : State) : Out := fpCondMove (!fpNegative (readFp s fa)) fb fc s

/-- FCMOVLE (R680). -/
def execFcmovle (fa fb fc : Reg) (s : State) : Out := fpCondMove (!fpPositive (readFp s fa)) fb fc s

/-- FCMOVGT (R681). -/
def execFcmovgt (fa fb fc : Reg) (s : State) : Out := fpCondMove (fpPositive (readFp s fa)) fb fc s

/-- CVTQL (R674). -/
def execCvtql (fb fc : Reg) (s : State) : Out := fpOperate s vaxNone fc (quadToLong (readFp s fb))

/-- CVTQL_V (R674). -/
def execCvtqlV (fb fc : Reg) (s : State) : Out := fpOperate s vaxU fc (quadToLong (readFp s fb))

/-- CVTQL_SV (R674). -/
def execCvtqlSv (fb fc : Reg) (s : State) : Out := fpOperate s vaxSu fc (quadToLong (readFp s fb))

end Sys2Proof.Machine
end

