-- ==== Sys2Proof/Machine/FpVax.lean ====
section
/-! DEFINITION. VAX floating operates: opcode 15, and SQRTF and SQRTG of opcode 14 (spec/46_fp_operate.md). One definition for each instruction. -/

namespace Sys2Proof.Machine

/-- SQRTF_C (R642). -/
def execSqrtfC (fb fc : Reg) (s : State) : Out := vaxOneOp (vaxSqrt .f) vaxNone .chopped fb fc s

/-- SQRTG_C (R643). -/
def execSqrtgC (fb fc : Reg) (s : State) : Out := vaxOneOp (vaxSqrt .g) vaxNone .chopped fb fc s

/-- SQRTF (R642). -/
def execSqrtf (fb fc : Reg) (s : State) : Out := vaxOneOp (vaxSqrt .f) vaxNone .normal fb fc s

/-- SQRTG (R643). -/
def execSqrtg (fb fc : Reg) (s : State) : Out := vaxOneOp (vaxSqrt .g) vaxNone .normal fb fc s

/-- SQRTF_UC (R642). -/
def execSqrtfUc (fb fc : Reg) (s : State) : Out := vaxOneOp (vaxSqrt .f) vaxU .chopped fb fc s

/-- SQRTG_UC (R643). -/
def execSqrtgUc (fb fc : Reg) (s : State) : Out := vaxOneOp (vaxSqrt .g) vaxU .chopped fb fc s

/-- SQRTF_U (R642). -/
def execSqrtfU (fb fc : Reg) (s : State) : Out := vaxOneOp (vaxSqrt .f) vaxU .normal fb fc s

/-- SQRTG_U (R643). -/
def execSqrtgU (fb fc : Reg) (s : State) : Out := vaxOneOp (vaxSqrt .g) vaxU .normal fb fc s

/-- SQRTF_SC (R642). -/
def execSqrtfSc (fb fc : Reg) (s : State) : Out := vaxOneOp (vaxSqrt .f) vaxS .chopped fb fc s

/-- SQRTG_SC (R643). -/
def execSqrtgSc (fb fc : Reg) (s : State) : Out := vaxOneOp (vaxSqrt .g) vaxS .chopped fb fc s

/-- SQRTF_S (R642). -/
def execSqrtfS (fb fc : Reg) (s : State) : Out := vaxOneOp (vaxSqrt .f) vaxS .normal fb fc s

/-- SQRTG_S (R643). -/
def execSqrtgS (fb fc : Reg) (s : State) : Out := vaxOneOp (vaxSqrt .g) vaxS .normal fb fc s

/-- SQRTF_SUC (R642). -/
def execSqrtfSuc (fb fc : Reg) (s : State) : Out := vaxOneOp (vaxSqrt .f) vaxSu .chopped fb fc s

/-- SQRTG_SUC (R643). -/
def execSqrtgSuc (fb fc : Reg) (s : State) : Out := vaxOneOp (vaxSqrt .g) vaxSu .chopped fb fc s

/-- SQRTF_SU (R642). -/
def execSqrtfSu (fb fc : Reg) (s : State) : Out := vaxOneOp (vaxSqrt .f) vaxSu .normal fb fc s

/-- SQRTG_SU (R643). -/
def execSqrtgSu (fb fc : Reg) (s : State) : Out := vaxOneOp (vaxSqrt .g) vaxSu .normal fb fc s

/-- ADDF_C (R650). -/
def execAddfC (fa fb fc : Reg) (s : State) : Out := vaxTwoOp (vaxAdd .f) vaxNone .chopped fa fb fc s

/-- SUBF_C (R652). -/
def execSubfC (fa fb fc : Reg) (s : State) : Out := vaxTwoOp (vaxSub .f) vaxNone .chopped fa fb fc s

/-- MULF_C (R654). -/
def execMulfC (fa fb fc : Reg) (s : State) : Out := vaxTwoOp (vaxMul .f) vaxNone .chopped fa fb fc s

/-- DIVF_C (R656). -/
def execDivfC (fa fb fc : Reg) (s : State) : Out := vaxTwoOp (vaxDiv .f) vaxNone .chopped fa fb fc s

/-- CVTDG_C (R661). -/
def execCvtdgC (fb fc : Reg) (s : State) : Out := vaxOneOp (vaxConvert .d .g) vaxNone .chopped fb fc s

/-- ADDG_C (R651). -/
def execAddgC (fa fb fc : Reg) (s : State) : Out := vaxTwoOp (vaxAdd .g) vaxNone .chopped fa fb fc s

/-- SUBG_C (R653). -/
def execSubgC (fa fb fc : Reg) (s : State) : Out := vaxTwoOp (vaxSub .g) vaxNone .chopped fa fb fc s

/-- MULG_C (R655). -/
def execMulgC (fa fb fc : Reg) (s : State) : Out := vaxTwoOp (vaxMul .g) vaxNone .chopped fa fb fc s

/-- DIVG_C (R657). -/
def execDivgC (fa fb fc : Reg) (s : State) : Out := vaxTwoOp (vaxDiv .g) vaxNone .chopped fa fb fc s

/-- CVTGF_C (R663). -/
def execCvtgfC (fb fc : Reg) (s : State) : Out := vaxOneOp (vaxConvert .g .f) vaxNone .chopped fb fc s

/-- CVTGD_C (R662). -/
def execCvtgdC (fb fc : Reg) (s : State) : Out := vaxOneOp (vaxConvert .g .d) vaxNone .chopped fb fc s

/-- CVTGQ_C (R664). -/
def execCvtgqC (fb fc : Reg) (s : State) : Out := vaxOneOp vaxToInt vaxNone .chopped fb fc s

/-- CVTQF_C (R665). -/
def execCvtqfC (fb fc : Reg) (s : State) : Out := vaxOneOp (vaxOfInt .f) vaxNone .chopped fb fc s

/-- CVTQG_C (R666). -/
def execCvtqgC (fb fc : Reg) (s : State) : Out := vaxOneOp (vaxOfInt .g) vaxNone .chopped fb fc s

/-- ADDF (R650). -/
def execAddf (fa fb fc : Reg) (s : State) : Out := vaxTwoOp (vaxAdd .f) vaxNone .normal fa fb fc s

/-- SUBF (R652). -/
def execSubf (fa fb fc : Reg) (s : State) : Out := vaxTwoOp (vaxSub .f) vaxNone .normal fa fb fc s

/-- MULF (R654). -/
def execMulf (fa fb fc : Reg) (s : State) : Out := vaxTwoOp (vaxMul .f) vaxNone .normal fa fb fc s

/-- DIVF (R656). -/
def execDivf (fa fb fc : Reg) (s : State) : Out := vaxTwoOp (vaxDiv .f) vaxNone .normal fa fb fc s

/-- CVTDG (R661). -/
def execCvtdg (fb fc : Reg) (s : State) : Out := vaxOneOp (vaxConvert .d .g) vaxNone .normal fb fc s

/-- ADDG (R651). -/
def execAddg (fa fb fc : Reg) (s : State) : Out := vaxTwoOp (vaxAdd .g) vaxNone .normal fa fb fc s

/-- SUBG (R653). -/
def execSubg (fa fb fc : Reg) (s : State) : Out := vaxTwoOp (vaxSub .g) vaxNone .normal fa fb fc s

/-- MULG (R655). -/
def execMulg (fa fb fc : Reg) (s : State) : Out := vaxTwoOp (vaxMul .g) vaxNone .normal fa fb fc s

/-- DIVG (R657). -/
def execDivg (fa fb fc : Reg) (s : State) : Out := vaxTwoOp (vaxDiv .g) vaxNone .normal fa fb fc s

/-- CMPGEQ (R658). -/
def execCmpgeq (fa fb fc : Reg) (s : State) : Out := vaxTwoOp (fun _ => vaxEqual) vaxNone .normal fa fb fc s

/-- CMPGLT (R659). -/
def execCmpglt (fa fb fc : Reg) (s : State) : Out := vaxTwoOp (fun _ => vaxLess) vaxNone .normal fa fb fc s

/-- CMPGLE (R660). -/
def execCmpgle (fa fb fc : Reg) (s : State) : Out := vaxTwoOp (fun _ => vaxLessEq) vaxNone .normal fa fb fc s

/-- CVTGF (R663). -/
def execCvtgf (fb fc : Reg) (s : State) : Out := vaxOneOp (vaxConvert .g .f) vaxNone .normal fb fc s

/-- CVTGD (R662). -/
def execCvtgd (fb fc : Reg) (s : State) : Out := vaxOneOp (vaxConvert .g .d) vaxNone .normal fb fc s

/-- CVTGQ (R664). -/
def execCvtgq (fb fc : Reg) (s : State) : Out := vaxOneOp vaxToInt vaxNone .normal fb fc s

/-- CVTQF (R665). -/
def execCvtqf (fb fc : Reg) (s : State) : Out := vaxOneOp (vaxOfInt .f) vaxNone .normal fb fc s

/-- CVTQG (R666). -/
def execCvtqg (fb fc : Reg) (s : State) : Out := vaxOneOp (vaxOfInt .g) vaxNone .normal fb fc s

/-- ADDF_UC (R650). -/
def execAddfUc (fa fb fc : Reg) (s : State) : Out := vaxTwoOp (vaxAdd .f) vaxU .chopped fa fb fc s

/-- SUBF_UC (R652). -/
def execSubfUc (fa fb fc : Reg) (s : State) : Out := vaxTwoOp (vaxSub .f) vaxU .chopped fa fb fc s

/-- MULF_UC (R654). -/
def execMulfUc (fa fb fc : Reg) (s : State) : Out := vaxTwoOp (vaxMul .f) vaxU .chopped fa fb fc s

/-- DIVF_UC (R656). -/
def execDivfUc (fa fb fc : Reg) (s : State) : Out := vaxTwoOp (vaxDiv .f) vaxU .chopped fa fb fc s

/-- CVTDG_UC (R661). -/
def execCvtdgUc (fb fc : Reg) (s : State) : Out := vaxOneOp (vaxConvert .d .g) vaxU .chopped fb fc s

/-- ADDG_UC (R651). -/
def execAddgUc (fa fb fc : Reg) (s : State) : Out := vaxTwoOp (vaxAdd .g) vaxU .chopped fa fb fc s

/-- SUBG_UC (R653). -/
def execSubgUc (fa fb fc : Reg) (s : State) : Out := vaxTwoOp (vaxSub .g) vaxU .chopped fa fb fc s

/-- MULG_UC (R655). -/
def execMulgUc (fa fb fc : Reg) (s : State) : Out := vaxTwoOp (vaxMul .g) vaxU .chopped fa fb fc s

/-- DIVG_UC (R657). -/
def execDivgUc (fa fb fc : Reg) (s : State) : Out := vaxTwoOp (vaxDiv .g) vaxU .chopped fa fb fc s

/-- CVTGF_UC (R663). -/
def execCvtgfUc (fb fc : Reg) (s : State) : Out := vaxOneOp (vaxConvert .g .f) vaxU .chopped fb fc s

/-- CVTGD_UC (R662). -/
def execCvtgdUc (fb fc : Reg) (s : State) : Out := vaxOneOp (vaxConvert .g .d) vaxU .chopped fb fc s

/-- CVTGQ_VC (R664). -/
def execCvtgqVc (fb fc : Reg) (s : State) : Out := vaxOneOp vaxToInt vaxU .chopped fb fc s

/-- ADDF_U (R650). -/
def execAddfU (fa fb fc : Reg) (s : State) : Out := vaxTwoOp (vaxAdd .f) vaxU .normal fa fb fc s

/-- SUBF_U (R652). -/
def execSubfU (fa fb fc : Reg) (s : State) : Out := vaxTwoOp (vaxSub .f) vaxU .normal fa fb fc s

/-- MULF_U (R654). -/
def execMulfU (fa fb fc : Reg) (s : State) : Out := vaxTwoOp (vaxMul .f) vaxU .normal fa fb fc s

/-- DIVF_U (R656). -/
def execDivfU (fa fb fc : Reg) (s : State) : Out := vaxTwoOp (vaxDiv .f) vaxU .normal fa fb fc s

/-- CVTDG_U (R661). -/
def execCvtdgU (fb fc : Reg) (s : State) : Out := vaxOneOp (vaxConvert .d .g) vaxU .normal fb fc s

/-- ADDG_U (R651). -/
def execAddgU (fa fb fc : Reg) (s : State) : Out := vaxTwoOp (vaxAdd .g) vaxU .normal fa fb fc s

/-- SUBG_U (R653). -/
def execSubgU (fa fb fc : Reg) (s : State) : Out := vaxTwoOp (vaxSub .g) vaxU .normal fa fb fc s

/-- MULG_U (R655). -/
def execMulgU (fa fb fc : Reg) (s : State) : Out := vaxTwoOp (vaxMul .g) vaxU .normal fa fb fc s

/-- DIVG_U (R657). -/
def execDivgU (fa fb fc : Reg) (s : State) : Out := vaxTwoOp (vaxDiv .g) vaxU .normal fa fb fc s

/-- CVTGF_U (R663). -/
def execCvtgfU (fb fc : Reg) (s : State) : Out := vaxOneOp (vaxConvert .g .f) vaxU .normal fb fc s

/-- CVTGD_U (R662). -/
def execCvtgdU (fb fc : Reg) (s : State) : Out := vaxOneOp (vaxConvert .g .d) vaxU .normal fb fc s

/-- CVTGQ_V (R664). -/
def execCvtgqV (fb fc : Reg) (s : State) : Out := vaxOneOp vaxToInt vaxU .normal fb fc s

/-- ADDF_SC (R650). -/
def execAddfSc (fa fb fc : Reg) (s : State) : Out := vaxTwoOp (vaxAdd .f) vaxS .chopped fa fb fc s

/-- SUBF_SC (R652). -/
def execSubfSc (fa fb fc : Reg) (s : State) : Out := vaxTwoOp (vaxSub .f) vaxS .chopped fa fb fc s

/-- MULF_SC (R654). -/
def execMulfSc (fa fb fc : Reg) (s : State) : Out := vaxTwoOp (vaxMul .f) vaxS .chopped fa fb fc s

/-- DIVF_SC (R656). -/
def execDivfSc (fa fb fc : Reg) (s : State) : Out := vaxTwoOp (vaxDiv .f) vaxS .chopped fa fb fc s

/-- CVTDG_SC (R661). -/
def execCvtdgSc (fb fc : Reg) (s : State) : Out := vaxOneOp (vaxConvert .d .g) vaxS .chopped fb fc s

/-- ADDG_SC (R651). -/
def execAddgSc (fa fb fc : Reg) (s : State) : Out := vaxTwoOp (vaxAdd .g) vaxS .chopped fa fb fc s

/-- SUBG_SC (R653). -/
def execSubgSc (fa fb fc : Reg) (s : State) : Out := vaxTwoOp (vaxSub .g) vaxS .chopped fa fb fc s

/-- MULG_SC (R655). -/
def execMulgSc (fa fb fc : Reg) (s : State) : Out := vaxTwoOp (vaxMul .g) vaxS .chopped fa fb fc s

/-- DIVG_SC (R657). -/
def execDivgSc (fa fb fc : Reg) (s : State) : Out := vaxTwoOp (vaxDiv .g) vaxS .chopped fa fb fc s

/-- CVTGF_SC (R663). -/
def execCvtgfSc (fb fc : Reg) (s : State) : Out := vaxOneOp (vaxConvert .g .f) vaxS .chopped fb fc s

/-- CVTGD_SC (R662). -/
def execCvtgdSc (fb fc : Reg) (s : State) : Out := vaxOneOp (vaxConvert .g .d) vaxS .chopped fb fc s

/-- CVTGQ_SC (R664). -/
def execCvtgqSc (fb fc : Reg) (s : State) : Out := vaxOneOp vaxToInt vaxS .chopped fb fc s

/-- ADDF_S (R650). -/
def execAddfS (fa fb fc : Reg) (s : State) : Out := vaxTwoOp (vaxAdd .f) vaxS .normal fa fb fc s

/-- SUBF_S (R652). -/
def execSubfS (fa fb fc : Reg) (s : State) : Out := vaxTwoOp (vaxSub .f) vaxS .normal fa fb fc s

/-- MULF_S (R654). -/
def execMulfS (fa fb fc : Reg) (s : State) : Out := vaxTwoOp (vaxMul .f) vaxS .normal fa fb fc s

/-- DIVF_S (R656). -/
def execDivfS (fa fb fc : Reg) (s : State) : Out := vaxTwoOp (vaxDiv .f) vaxS .normal fa fb fc s

/-- CVTDG_S (R661). -/
def execCvtdgS (fb fc : Reg) (s : State) : Out := vaxOneOp (vaxConvert .d .g) vaxS .normal fb fc s

/-- ADDG_S (R651). -/
def execAddgS (fa fb fc : Reg) (s : State) : Out := vaxTwoOp (vaxAdd .g) vaxS .normal fa fb fc s

/-- SUBG_S (R653). -/
def execSubgS (fa fb fc : Reg) (s : State) : Out := vaxTwoOp (vaxSub .g) vaxS .normal fa fb fc s

/-- MULG_S (R655). -/
def execMulgS (fa fb fc : Reg) (s : State) : Out := vaxTwoOp (vaxMul .g) vaxS .normal fa fb fc s

/-- DIVG_S (R657). -/
def execDivgS (fa fb fc : Reg) (s : State) : Out := vaxTwoOp (vaxDiv .g) vaxS .normal fa fb fc s

/-- CMPGEQ_S (R658). -/
def execCmpgeqS (fa fb fc : Reg) (s : State) : Out := vaxTwoOp (fun _ => vaxEqual) vaxS .normal fa fb fc s

/-- CMPGLT_S (R659). -/
def execCmpgltS (fa fb fc : Reg) (s : State) : Out := vaxTwoOp (fun _ => vaxLess) vaxS .normal fa fb fc s

/-- CMPGLE_S (R660). -/
def execCmpgleS (fa fb fc : Reg) (s : State) : Out := vaxTwoOp (fun _ => vaxLessEq) vaxS .normal fa fb fc s

/-- CVTGF_S (R663). -/
def execCvtgfS (fb fc : Reg) (s : State) : Out := vaxOneOp (vaxConvert .g .f) vaxS .normal fb fc s

/-- CVTGD_S (R662). -/
def execCvtgdS (fb fc : Reg) (s : State) : Out := vaxOneOp (vaxConvert .g .d) vaxS .normal fb fc s

/-- CVTGQ_S (R664). -/
def execCvtgqS (fb fc : Reg) (s : State) : Out := vaxOneOp vaxToInt vaxS .normal fb fc s

/-- ADDF_SUC (R650). -/
def execAddfSuc (fa fb fc : Reg) (s : State) : Out := vaxTwoOp (vaxAdd .f) vaxSu .chopped fa fb fc s

/-- SUBF_SUC (R652). -/
def execSubfSuc (fa fb fc : Reg) (s : State) : Out := vaxTwoOp (vaxSub .f) vaxSu .chopped fa fb fc s

/-- MULF_SUC (R654). -/
def execMulfSuc (fa fb fc : Reg) (s : State) : Out := vaxTwoOp (vaxMul .f) vaxSu .chopped fa fb fc s

/-- DIVF_SUC (R656). -/
def execDivfSuc (fa fb fc : Reg) (s : State) : Out := vaxTwoOp (vaxDiv .f) vaxSu .chopped fa fb fc s

/-- CVTDG_SUC (R661). -/
def execCvtdgSuc (fb fc : Reg) (s : State) : Out := vaxOneOp (vaxConvert .d .g) vaxSu .chopped fb fc s

/-- ADDG_SUC (R651). -/
def execAddgSuc (fa fb fc : Reg) (s : State) : Out := vaxTwoOp (vaxAdd .g) vaxSu .chopped fa fb fc s

/-- SUBG_SUC (R653). -/
def execSubgSuc (fa fb fc : Reg) (s : State) : Out := vaxTwoOp (vaxSub .g) vaxSu .chopped fa fb fc s

/-- MULG_SUC (R655). -/
def execMulgSuc (fa fb fc : Reg) (s : State) : Out := vaxTwoOp (vaxMul .g) vaxSu .chopped fa fb fc s

/-- DIVG_SUC (R657). -/
def execDivgSuc (fa fb fc : Reg) (s : State) : Out := vaxTwoOp (vaxDiv .g) vaxSu .chopped fa fb fc s

/-- CVTGF_SUC (R663). -/
def execCvtgfSuc (fb fc : Reg) (s : State) : Out := vaxOneOp (vaxConvert .g .f) vaxSu .chopped fb fc s

/-- CVTGD_SUC (R662). -/
def execCvtgdSuc (fb fc : Reg) (s : State) : Out := vaxOneOp (vaxConvert .g .d) vaxSu .chopped fb fc s

/-- CVTGQ_SVC (R664). -/
def execCvtgqSvc (fb fc : Reg) (s : State) : Out := vaxOneOp vaxToInt vaxSu .chopped fb fc s

/-- ADDF_SU (R650). -/
def execAddfSu (fa fb fc : Reg) (s : State) : Out := vaxTwoOp (vaxAdd .f) vaxSu .normal fa fb fc s

/-- SUBF_SU (R652). -/
def execSubfSu (fa fb fc : Reg) (s : State) : Out := vaxTwoOp (vaxSub .f) vaxSu .normal fa fb fc s

/-- MULF_SU (R654). -/
def execMulfSu (fa fb fc : Reg) (s : State) : Out := vaxTwoOp (vaxMul .f) vaxSu .normal fa fb fc s

/-- DIVF_SU (R656). -/
def execDivfSu (fa fb fc : Reg) (s : State) : Out := vaxTwoOp (vaxDiv .f) vaxSu .normal fa fb fc s

/-- CVTDG_SU (R661). -/
def execCvtdgSu (fb fc : Reg) (s : State) : Out := vaxOneOp (vaxConvert .d .g) vaxSu .normal fb fc s

/-- ADDG_SU (R651). -/
def execAddgSu (fa fb fc : Reg) (s : State) : Out := vaxTwoOp (vaxAdd .g) vaxSu .normal fa fb fc s

/-- SUBG_SU (R653). -/
def execSubgSu (fa fb fc : Reg) (s : State) : Out := vaxTwoOp (vaxSub .g) vaxSu .normal fa fb fc s

/-- MULG_SU (R655). -/
def execMulgSu (fa fb fc : Reg) (s : State) : Out := vaxTwoOp (vaxMul .g) vaxSu .normal fa fb fc s

/-- DIVG_SU (R657). -/
def execDivgSu (fa fb fc : Reg) (s : State) : Out := vaxTwoOp (vaxDiv .g) vaxSu .normal fa fb fc s

/-- CVTGF_SU (R663). -/
def execCvtgfSu (fb fc : Reg) (s : State) : Out := vaxOneOp (vaxConvert .g .f) vaxSu .normal fb fc s

/-- CVTGD_SU (R662). -/
def execCvtgdSu (fb fc : Reg) (s : State) : Out := vaxOneOp (vaxConvert .g .d) vaxSu .normal fb fc s

/-- CVTGQ_SV (R664). -/
def execCvtgqSv (fb fc : Reg) (s : State) : Out := vaxOneOp vaxToInt vaxSu .normal fb fc s

end Sys2Proof.Machine
end

