-- ==== Sys2Proof/Machine/IntArith.lean ====
section
/-! DEFINITION. Integer arithmetic, compares and multiplies: opcodes 10 and 13 (spec/42_int_arith.md). One definition for each instruction. -/

namespace Sys2Proof.Machine

/-- ADDL (R441). -/
def execAddl (ra : Reg) (rb : Operand) (rc : Reg) (s : State) : Out :=
  intResult rc (sextLong ((readInt s ra) + (operandValue s rb))) s

/-- S4ADDL (R445). -/
def execS4addl (ra : Reg) (rb : Operand) (rc : Reg) (s : State) : Out :=
  intResult rc (sextLong (((readInt s ra) <<< 2) + (operandValue s rb))) s

/-- SUBL (R449). -/
def execSubl (ra : Reg) (rb : Operand) (rc : Reg) (s : State) : Out :=
  intResult rc (sextLong ((readInt s ra) - (operandValue s rb))) s

/-- S4SUBL (R453). -/
def execS4subl (ra : Reg) (rb : Operand) (rc : Reg) (s : State) : Out :=
  intResult rc (sextLong (((readInt s ra) <<< 2) - (operandValue s rb))) s

/-- CMPBGE (R462). -/
def execCmpbge (ra : Reg) (rb : Operand) (rc : Reg) (s : State) : Out :=
  intResult rc (compareBytes (readInt s ra) (operandValue s rb)) s

/-- S8ADDL (R447). -/
def execS8addl (ra : Reg) (rb : Operand) (rc : Reg) (s : State) : Out :=
  intResult rc (sextLong (((readInt s ra) <<< 3) + (operandValue s rb))) s

/-- S8SUBL (R455). -/
def execS8subl (ra : Reg) (rb : Operand) (rc : Reg) (s : State) : Out :=
  intResult rc (sextLong (((readInt s ra) <<< 3) - (operandValue s rb))) s

/-- CMPULT (R460). -/
def execCmpult (ra : Reg) (rb : Operand) (rc : Reg) (s : State) : Out :=
  intResult rc (truth ((readInt s ra).ult (operandValue s rb))) s

/-- ADDQ (R443). -/
def execAddq (ra : Reg) (rb : Operand) (rc : Reg) (s : State) : Out := intResult rc ((readInt s ra) + (operandValue s rb)) s

/-- S4ADDQ (R446). -/
def execS4addq (ra : Reg) (rb : Operand) (rc : Reg) (s : State) : Out :=
  intResult rc (((readInt s ra) <<< 2) + (operandValue s rb)) s

/-- SUBQ (R451). -/
def execSubq (ra : Reg) (rb : Operand) (rc : Reg) (s : State) : Out := intResult rc ((readInt s ra) - (operandValue s rb)) s

/-- S4SUBQ (R454). -/
def execS4subq (ra : Reg) (rb : Operand) (rc : Reg) (s : State) : Out :=
  intResult rc (((readInt s ra) <<< 2) - (operandValue s rb)) s

/-- CMPEQ (R457). -/
def execCmpeq (ra : Reg) (rb : Operand) (rc : Reg) (s : State) : Out :=
  intResult rc (truth ((readInt s ra) == (operandValue s rb))) s

/-- S8ADDQ (R448). -/
def execS8addq (ra : Reg) (rb : Operand) (rc : Reg) (s : State) : Out :=
  intResult rc (((readInt s ra) <<< 3) + (operandValue s rb)) s

/-- S8SUBQ (R456). -/
def execS8subq (ra : Reg) (rb : Operand) (rc : Reg) (s : State) : Out :=
  intResult rc (((readInt s ra) <<< 3) - (operandValue s rb)) s

/-- CMPULE (R461). -/
def execCmpule (ra : Reg) (rb : Operand) (rc : Reg) (s : State) : Out :=
  intResult rc (truth ((readInt s ra).ule (operandValue s rb))) s

/-- ADDL_V (R442). -/
def execAddlV (ra : Reg) (rb : Operand) (rc : Reg) (s : State) : Out :=
  intOverflow rc 32 (longInt (readInt s ra) + longInt (operandValue s rb)) s

/-- SUBL_V (R450). -/
def execSublV (ra : Reg) (rb : Operand) (rc : Reg) (s : State) : Out :=
  intOverflow rc 32 (longInt (readInt s ra) - longInt (operandValue s rb)) s

/-- CMPLT (R458). -/
def execCmplt (ra : Reg) (rb : Operand) (rc : Reg) (s : State) : Out :=
  intResult rc (truth ((readInt s ra).slt (operandValue s rb))) s

/-- ADDQ_V (R444). -/
def execAddqV (ra : Reg) (rb : Operand) (rc : Reg) (s : State) : Out :=
  intOverflow rc 64 ((readInt s ra).toInt + (operandValue s rb).toInt) s

/-- SUBQ_V (R452). -/
def execSubqV (ra : Reg) (rb : Operand) (rc : Reg) (s : State) : Out :=
  intOverflow rc 64 ((readInt s ra).toInt - (operandValue s rb).toInt) s

/-- CMPLE (R459). -/
def execCmple (ra : Reg) (rb : Operand) (rc : Reg) (s : State) : Out :=
  intResult rc (truth ((readInt s ra).sle (operandValue s rb))) s

/-- MULL (R463). -/
def execMull (ra : Reg) (rb : Operand) (rc : Reg) (s : State) : Out :=
  intResult rc (sextLong ((readInt s ra) * (operandValue s rb))) s

/-- MULQ (R465). -/
def execMulq (ra : Reg) (rb : Operand) (rc : Reg) (s : State) : Out := intResult rc ((readInt s ra) * (operandValue s rb)) s

/-- UMULH (R467). -/
def execUmulh (ra : Reg) (rb : Operand) (rc : Reg) (s : State) : Out := intResult rc (mulHigh (readInt s ra) (operandValue s rb)) s

/-- MULL_V (R464). -/
def execMullV (ra : Reg) (rb : Operand) (rc : Reg) (s : State) : Out :=
  intOverflow rc 32 (longInt (readInt s ra) * longInt (operandValue s rb)) s

/-- MULQ_V (R466). -/
def execMulqV (ra : Reg) (rb : Operand) (rc : Reg) (s : State) : Out :=
  intOverflow rc 64 ((readInt s ra).toInt * (operandValue s rb).toInt) s

end Sys2Proof.Machine
end

