-- ==== Sys2Proof/Machine/IntControl.lean ====
section
/-! DEFINITION. Integer branches and jumps (spec/41_int_control.md). One definition for each instruction. -/

namespace Sys2Proof.Machine

/-- BR (R411). -/
def execBr (ra : Reg) (disp : BitVec 21) (s : State) : Out := branchLink ra disp s

/-- BSR (R412). -/
def execBsr (ra : Reg) (disp : BitVec 21) (s : State) : Out := branchLink ra disp s

/-- BLBC (R413). -/
def execBlbc (ra : Reg) (disp : BitVec 21) (s : State) : Out := branchIf (!lowBitSet (readInt s ra)) disp s

/-- BEQ (R414). -/
def execBeq (ra : Reg) (disp : BitVec 21) (s : State) : Out := branchIf (isZero (readInt s ra)) disp s

/-- BLT (R415). -/
def execBlt (ra : Reg) (disp : BitVec 21) (s : State) : Out := branchIf (isNegative (readInt s ra)) disp s

/-- BLE (R416). -/
def execBle (ra : Reg) (disp : BitVec 21) (s : State) : Out := branchIf (isNegative (readInt s ra) || isZero (readInt s ra)) disp s

/-- BLBS (R417). -/
def execBlbs (ra : Reg) (disp : BitVec 21) (s : State) : Out := branchIf (lowBitSet (readInt s ra)) disp s

/-- BNE (R418). -/
def execBne (ra : Reg) (disp : BitVec 21) (s : State) : Out := branchIf (!isZero (readInt s ra)) disp s

/-- BGE (R419). -/
def execBge (ra : Reg) (disp : BitVec 21) (s : State) : Out := branchIf (!isNegative (readInt s ra)) disp s

/-- BGT (R420). -/
def execBgt (ra : Reg) (disp : BitVec 21) (s : State) : Out :=
  branchIf (!isNegative (readInt s ra) && !isZero (readInt s ra)) disp s

/-- JMP (R421). -/
def execJmp (ra rb : Reg) (s : State) : Out := jumpLink ra rb s

/-- JSR (R422). -/
def execJsr (ra rb : Reg) (s : State) : Out := jumpLink ra rb s

/-- RET (R423). -/
def execRet (ra rb : Reg) (s : State) : Out := jumpLink ra rb s

/-- JSR_COROUTINE (R424). -/
def execJsrCoroutine (ra rb : Reg) (s : State) : Out := jumpLink ra rb s

end Sys2Proof.Machine
end

