-- ==== Sys2Proof/Machine/IntLogical.lean ====
section
/-! DEFINITION. Logical operations, conditional moves, AMASK, IMPLVER and shifts (spec/43_int_logical_shift.md). One definition for each instruction. -/

namespace Sys2Proof.Machine

/-- AND (R481). -/
def execAnd (ra : Reg) (rb : Operand) (rc : Reg) (s : State) : Out := intResult rc ((readInt s ra) &&& (operandValue s rb)) s

/-- BIC (R482). -/
def execBic (ra : Reg) (rb : Operand) (rc : Reg) (s : State) : Out := intResult rc ((readInt s ra) &&& ~~~(operandValue s rb)) s

/-- CMOVLBS (R491). -/
def execCmovlbs (ra : Reg) (rb : Operand) (rc : Reg) (s : State) : Out :=
  condMove (lowBitSet (readInt s ra)) rc (operandValue s rb) s

/-- CMOVLBC (R492). -/
def execCmovlbc (ra : Reg) (rb : Operand) (rc : Reg) (s : State) : Out :=
  condMove (!lowBitSet (readInt s ra)) rc (operandValue s rb) s

/-- BIS (R483). -/
def execBis (ra : Reg) (rb : Operand) (rc : Reg) (s : State) : Out := intResult rc ((readInt s ra) ||| (operandValue s rb)) s

/-- CMOVEQ (R493). -/
def execCmoveq (ra : Reg) (rb : Operand) (rc : Reg) (s : State) : Out := condMove (isZero (readInt s ra)) rc (operandValue s rb) s

/-- CMOVNE (R494). -/
def execCmovne (ra : Reg) (rb : Operand) (rc : Reg) (s : State) : Out := condMove (!isZero (readInt s ra)) rc (operandValue s rb) s

/-- ORNOT (R484). -/
def execOrnot (ra : Reg) (rb : Operand) (rc : Reg) (s : State) : Out := intResult rc ((readInt s ra) ||| ~~~(operandValue s rb)) s

/-- XOR (R485). -/
def execXor (ra : Reg) (rb : Operand) (rc : Reg) (s : State) : Out := intResult rc ((readInt s ra) ^^^ (operandValue s rb)) s

/-- CMOVLT (R495). -/
def execCmovlt (ra : Reg) (rb : Operand) (rc : Reg) (s : State) : Out :=
  condMove (isNegative (readInt s ra)) rc (operandValue s rb) s

/-- CMOVGE (R496). -/
def execCmovge (ra : Reg) (rb : Operand) (rc : Reg) (s : State) : Out :=
  condMove (!isNegative (readInt s ra)) rc (operandValue s rb) s

/-- EQV (R486). -/
def execEqv (ra : Reg) (rb : Operand) (rc : Reg) (s : State) : Out := intResult rc ((readInt s ra) ^^^ ~~~(operandValue s rb)) s

/-- AMASK (R500). -/
def execAmask (rb : Operand) (rc : Reg) (s : State) : Out := intResult rc ((operandValue s rb) &&& ~~~featureMask) s

/-- CMOVLE (R497). -/
def execCmovle (ra : Reg) (rb : Operand) (rc : Reg) (s : State) : Out :=
  condMove (isNegative (readInt s ra) || isZero (readInt s ra)) rc (operandValue s rb) s

/-- CMOVGT (R498). -/
def execCmovgt (ra : Reg) (rb : Operand) (rc : Reg) (s : State) : Out :=
  condMove (!isNegative (readInt s ra) && !isZero (readInt s ra)) rc (operandValue s rb) s

/-- IMPLVER (R501). -/
def execImplver (rc : Reg) (s : State) : Out := intResult rc (2) s

/-- SRL (R506). -/
def execSrl (ra : Reg) (rb : Operand) (rc : Reg) (s : State) : Out :=
  intResult rc ((readInt s ra) >>> shiftCount (operandValue s rb)) s

/-- SLL (R505). -/
def execSll (ra : Reg) (rb : Operand) (rc : Reg) (s : State) : Out :=
  intResult rc ((readInt s ra) <<< shiftCount (operandValue s rb)) s

/-- SRA (R507). -/
def execSra (ra : Reg) (rb : Operand) (rc : Reg) (s : State) : Out :=
  intResult rc ((readInt s ra).sshiftRight (shiftCount (operandValue s rb))) s

end Sys2Proof.Machine
end

