-- ==== Sys2Proof/Machine/IntMemory.lean ====
section
/-! DEFINITION. Integer loads, stores, LDA and LDAH (spec/40_int_memory.md). One definition for each instruction. -/

namespace Sys2Proof.Machine

/-- LDA (R381). -/
def execLda (ra rb : Reg) (disp : BitVec 16) (s : State) : Out := .next (advance (writeInt s ra (effAddr s rb disp)))

/-- LDAH (R382). -/
def execLdah (ra rb : Reg) (disp : BitVec 16) (s : State) : Out :=
  .next (advance (writeInt s ra (readInt s rb + (disp.signExtend 64 <<< 16))))

/-- LDBU (R383). -/
def execLdbu (ra rb : Reg) (disp : BitVec 16) (s : State) : Out := loadInt 0x0A 1 id ra rb disp s

/-- LDQ_U (R387). -/
def execLdqU (ra rb : Reg) (disp : BitVec 16) (s : State) : Out := loadUnaligned ra rb disp s

/-- LDWU (R384). -/
def execLdwu (ra rb : Reg) (disp : BitVec 16) (s : State) : Out := loadInt 0x0C 2 id ra rb disp s

/-- STW (R391). -/
def execStw (ra rb : Reg) (disp : BitVec 16) (s : State) : Out := storeInt 0x0D 2 ra rb disp s

/-- STB (R390). -/
def execStb (ra rb : Reg) (disp : BitVec 16) (s : State) : Out := storeInt 0x0E 1 ra rb disp s

/-- STQ_U (R394). -/
def execStqU (ra rb : Reg) (disp : BitVec 16) (s : State) : Out := storeUnaligned ra rb disp s

/-- LDL (R385). -/
def execLdl (ra rb : Reg) (disp : BitVec 16) (s : State) : Out := loadInt 0x28 4 sextLong ra rb disp s

/-- LDQ (R386). -/
def execLdq (ra rb : Reg) (disp : BitVec 16) (s : State) : Out := loadInt 0x29 8 id ra rb disp s

/-- LDL_L (R388). -/
def execLdlL (ra rb : Reg) (disp : BitVec 16) (s : State) : Out := loadLocked 0x2A 4 sextLong ra rb disp s

/-- LDQ_L (R389). -/
def execLdqL (ra rb : Reg) (disp : BitVec 16) (s : State) : Out := loadLocked 0x2B 8 id ra rb disp s

/-- STL (R392). -/
def execStl (ra rb : Reg) (disp : BitVec 16) (s : State) : Out := storeInt 0x2C 4 ra rb disp s

/-- STQ (R393). -/
def execStq (ra rb : Reg) (disp : BitVec 16) (s : State) : Out := storeInt 0x2D 8 ra rb disp s

/-- STL_C (R395). -/
def execStlC (ra rb : Reg) (disp : BitVec 16) (s : State) : Out := storeCond 0x2E 4 ra rb disp s

/-- STQ_C (R396). -/
def execStqC (ra rb : Reg) (disp : BitVec 16) (s : State) : Out := storeCond 0x2F 8 ra rb disp s

end Sys2Proof.Machine
end

