-- ==== Sys2Proof/Machine/Misc.lean ====
section
/-! DEFINITION. The instructions of opcode 18 (spec/47_misc.md). One definition for each instruction. -/

namespace Sys2Proof.Machine

/-- The reference of WH64, translated as a write (R261). -/
def writeHintRef (s : State) (ea : Word) : DataRef :=
  { ea := ea, opcode := 0x18, reg := 31, write := true, checkRead := false, checkWrite := true, mode := currentMode s,
    vpte := false }

/-- WH64 at a virtual address; its translation faults are suppressed (R261, R731). -/
def writeHintAt (s : State) (ea : Word) : Out :=
  match translateData s (writeHintRef s ea) with
  | .ok pa => .next (advance (writeHint s pa))
  | .error (.stop f) => .fault f
  | .error _ => .next (advance s)

/-- TRAPB (R721). -/
def execTrapb (s : State) : Out := .next (advance s)

/-- EXCB (R722). -/
def execExcb (s : State) : Out := .next (advance s)

/-- MB (R723): it waits while the system withholds its acknowledgement (spec/20_memory.md R244, A43). -/
def execMb (s : State) : Out := .next (if s.ackHeld then wait s else advance s)

/-- WMB (R724). -/
def execWmb (s : State) : Out := .next (advance s)

/-- FETCH (R725). -/
def execFetch (s : State) : Out := .next (advance s)

/-- FETCH_M (R726). -/
def execFetchM (s : State) : Out := .next (advance s)

/-- RPCC (R727). -/
def execRpcc (ra : Reg) (s : State) : Out := .next (advance (writeInt s ra s.cc))

/-- RC (R728). -/
def execRc (ra : Reg) (s : State) : Out := .next (advance { writeInt s ra (ofBool s.intrFlag) with intrFlag := false })

/-- ECB (R730) has no architectural effect (R261); what it does to the caches, and where its translation stops, is `evictAfter`, which the
step applies to this outcome. -/
def execEcb (s : State) : Out := .next (advance s)

/-- RS (R729). -/
def execRs (ra : Reg) (s : State) : Out := .next (advance { writeInt s ra (ofBool s.intrFlag) with intrFlag := true })

/-- WH64 (R731). -/
def execWh64 (rb : Reg) (s : State) : Out := writeHintAt s (readInt s rb)

end Sys2Proof.Machine
end

