-- ==== Sys2Proof/Machine/Multimedia.lean ====
section
/-! DEFINITION. Sign extension, counts and the multimedia instructions of opcode 1C (spec/48_mvi_cix.md). One definition for each instruction. -/

namespace Sys2Proof.Machine

/-- SEXTB (R751). -/
def execSextb (rb : Operand) (rc : Reg) (s : State) : Out := intResult rc (((operandValue s rb).extractLsb' 0 8).signExtend 64) s

/-- SEXTW (R752). -/
def execSextw (rb : Operand) (rc : Reg) (s : State) : Out := intResult rc (((operandValue s rb).extractLsb' 0 16).signExtend 64) s

/-- CTPOP (R753). -/
def execCtpop (rb : Operand) (rc : Reg) (s : State) : Out := intResult rc (BitVec.ofNat 64 (countOnes (operandValue s rb))) s

/-- PERR (R756). -/
def execPerr (ra : Reg) (rb : Operand) (rc : Reg) (s : State) : Out :=
  intResult rc (BitVec.ofNat 64 (pixelError (readInt s ra) (operandValue s rb))) s

/-- CTLZ (R754). -/
def execCtlz (rb : Operand) (rc : Reg) (s : State) : Out := intResult rc (BitVec.ofNat 64 (leadingZeros (operandValue s rb))) s

/-- CTTZ (R755). -/
def execCttz (rb : Operand) (rc : Reg) (s : State) : Out := intResult rc (BitVec.ofNat 64 (trailingZeros (operandValue s rb))) s

/-- UNPKBW (R757). -/
def execUnpkbw (rb : Operand) (rc : Reg) (s : State) : Out := intResult rc (unpackByteWord (operandValue s rb)) s

/-- UNPKBL (R758). -/
def execUnpkbl (rb : Operand) (rc : Reg) (s : State) : Out := intResult rc (unpackByteLong (operandValue s rb)) s

/-- PKWB (R759). -/
def execPkwb (rb : Operand) (rc : Reg) (s : State) : Out := intResult rc (packWordByte (operandValue s rb)) s

/-- PKLB (R760). -/
def execPklb (rb : Operand) (rc : Reg) (s : State) : Out := intResult rc (packLongByte (operandValue s rb)) s

/-- MINSB8 (R761). -/
def execMinsb8 (ra : Reg) (rb : Operand) (rc : Reg) (s : State) : Out :=
  intResult rc (zipBytes minSigned (readInt s ra) (operandValue s rb)) s

/-- MINSW4 (R762). -/
def execMinsw4 (ra : Reg) (rb : Operand) (rc : Reg) (s : State) : Out :=
  intResult rc (zipWords minSigned (readInt s ra) (operandValue s rb)) s

/-- MINUB8 (R763). -/
def execMinub8 (ra : Reg) (rb : Operand) (rc : Reg) (s : State) : Out :=
  intResult rc (zipBytes minUnsigned (readInt s ra) (operandValue s rb)) s

/-- MINUW4 (R764). -/
def execMinuw4 (ra : Reg) (rb : Operand) (rc : Reg) (s : State) : Out :=
  intResult rc (zipWords minUnsigned (readInt s ra) (operandValue s rb)) s

/-- MAXUB8 (R765). -/
def execMaxub8 (ra : Reg) (rb : Operand) (rc : Reg) (s : State) : Out :=
  intResult rc (zipBytes maxUnsigned (readInt s ra) (operandValue s rb)) s

/-- MAXUW4 (R766). -/
def execMaxuw4 (ra : Reg) (rb : Operand) (rc : Reg) (s : State) : Out :=
  intResult rc (zipWords maxUnsigned (readInt s ra) (operandValue s rb)) s

/-- MAXSB8 (R767). -/
def execMaxsb8 (ra : Reg) (rb : Operand) (rc : Reg) (s : State) : Out :=
  intResult rc (zipBytes maxSigned (readInt s ra) (operandValue s rb)) s

/-- MAXSW4 (R768). -/
def execMaxsw4 (ra : Reg) (rb : Operand) (rc : Reg) (s : State) : Out :=
  intResult rc (zipWords maxSigned (readInt s ra) (operandValue s rb)) s

end Sys2Proof.Machine
end

