-- ==== Sys2Proof/Machine/PalCode.lean ====
section
/-! DEFINITION. CALL_PAL, the reserved opcodes, and the five PAL-reserved instructions (spec/49_palcode_instr.md). One definition for each instruction. -/

namespace Sys2Proof.Machine

/-- The PAL-reserved opcodes raise OPCDEC where they are not legal (R790). -/
def palReserved (s : State) (k : Out) : Out := if palLegal s then k else .next (opcdecTrap s)

/-- A CALL_PAL function that may be called: not in 40 to 7F, not above BF, and 00 to 3F in kernel mode only (R781). -/
def callPalLegal (s : State) (fn : BitVec 26) : Bool :=
  !((decide (0x40 ≤ fn.toNat) && decide (fn.toNat ≤ 0x7F)) || decide (0xBF < fn.toNat)
    || (decide (fn.toNat ≤ 0x3F) && currentMode s != 0))

/-- The entry of a CALL_PAL function (R781). -/
def callPalPc (s : State) (fn : BitVec 26) : Word :=
  (s.palBase &&& 0x00000FFFFFFF8000) ||| 0x2000 ||| ((fn.extractLsb' 7 1).setWidth 64 <<< 12)
    ||| ((fn.extractLsb' 0 6).setWidth 64 <<< 6)

/-- CALL_PAL: PALmode, then the link in R23 as PALmode maps it, then the jump; EXC_ADDR stays (R781, D9). -/
def callPalEntry (s : State) (fn : BitVec 26) : State :=
  { writeInt { s with palMode := true } 23 (trapPc s) with pc := callPalPc s fn }

/-- The TB-fill barrier (spec/20_memory.md R245): with I_CTL[TB_MB_EN] a write of DTB_PTE0, or of ITB_PTE in PALmode, acts as an MB, and
waits as MB does while the system withholds its acknowledgement (log 34). -/
def barrierHeld (s : State) (index : BitVec 8) : Bool :=
  s.ackHeld && s.iCtl.getLsbD 22 && (index == 0x21#8 || (index == 0x01#8 && s.palMode))

/-- The end of HW_MTPR. -/
def finishMtpr : Except Fault State → Out
  | .ok s => .next (advance s)
  | .error f => .fault f

/-- The end of HW_RET: RA other than 31 is refused (A32, D29); with STALL the requested Icache flushes happen (R122). -/
def finishHwRet (s : State) (ra : Reg) (target : Word) (stall : BitVec 1) : Out :=
  if ra = 31 then .next (if stall = 1 then performFlushes (palReturn s target) else palReturn s target)
  else .refused .hwRetRa

/-- CALL_PAL (R781). -/
def execCallPal (fn : BitVec 26) (s : State) : Out := .next (if callPalLegal s fn then callPalEntry s fn else opcdecTrap s)

/-- OPC01 (R834 (a)). -/
def execOpc01 (s : State) : Out := .next (opcdecTrap s)

/-- OPC02 (R834 (a)). -/
def execOpc02 (s : State) : Out := .next (opcdecTrap s)

/-- OPC03 (R834 (a)). -/
def execOpc03 (s : State) : Out := .next (opcdecTrap s)

/-- OPC04 (R834 (a)). -/
def execOpc04 (s : State) : Out := .next (opcdecTrap s)

/-- OPC05 (R834 (a)). -/
def execOpc05 (s : State) : Out := .next (opcdecTrap s)

/-- OPC06 (R834 (a)). -/
def execOpc06 (s : State) : Out := .next (opcdecTrap s)

/-- OPC07 (R834 (a)). -/
def execOpc07 (s : State) : Out := .next (opcdecTrap s)

/-- HW_MFPR (R800). -/
def execHwMfpr (ra : Reg) (index : BitVec 8) (s : State) : Out :=
  palReserved s (.next (advance (writeInt (readIpr s index).2 ra (readIpr s index).1)))

/-- HW_LD (R806). -/
def execHwLd (ra rb : Reg) (ty : BitVec 3) (len : BitVec 1) (disp : BitVec 12) (s : State) : Out :=
  palReserved s (hwLoad s ra ty len (hwEffAddr s rb disp))

/-- HW_MTPR (R801). -/
def execHwMtpr (rb : Reg) (index : BitVec 8) (s : State) : Out :=
  palReserved s (if barrierHeld s index then .next (wait s) else finishMtpr (writeIpr s index (readInt s rb)))

/-- HW_RET (R812). -/
def execHwRet (ra rb : Reg) (stall : BitVec 1) (s : State) : Out := palReserved s (finishHwRet s ra (readInt s rb) stall)

/-- HW_ST (R808). -/
def execHwSt (ra rb : Reg) (ty : BitVec 3) (len : BitVec 1) (disp : BitVec 12) (s : State) : Out :=
  palReserved s (hwStore s ra ty len (hwEffAddr s rb disp))

end Sys2Proof.Machine
end

