-- ==== Sys2Proof/Machine/ExecWord.lean ====
section
/-! DEFINITION. Decoding a word and running it. The dispatcher's type has more constructors with fields than Lean's compiled code can
number, so `decode` itself is not compiled. `execWordCompiled` runs a word without building the instruction; `execWord_compiled`
proves it equal to `execWord`, and the compiler takes it in its place. Nothing else uses it. -/

namespace Sys2Proof.Machine

/-- Run what the decoder answers. -/
def execDecoded (d : Except Reject Instr) (s : State) : Except Reject Out :=
  match d with
  | .ok i => .ok (exec i s)
  | .error e => .error e

/-- Decode a word and run it. -/
noncomputable def execWord (w : BitVec 32) (s : State) : Except Reject Out := execDecoded (decode w) s

/-! ### The compiled path: the decoder's tables with meanings in place of constructors -/

abbrev OprExec := List (BitVec 7 × (Reg → Operand → Reg → State → Out))
abbrev FpExec := List (BitVec 11 × (Reg → Reg → Reg → State → Out))

def intaExec : OprExec :=
  [(0x00, execAddl), (0x02, execS4addl), (0x09, execSubl), (0x0B, execS4subl), (0x0F, execCmpbge), (0x12, execS8addl),
   (0x1B, execS8subl), (0x1D, execCmpult), (0x20, execAddq), (0x22, execS4addq), (0x29, execSubq), (0x2B, execS4subq),
   (0x2D, execCmpeq), (0x32, execS8addq), (0x3B, execS8subq), (0x3D, execCmpule), (0x40, execAddlV),
   (0x49, execSublV), (0x4D, execCmplt), (0x60, execAddqV), (0x69, execSubqV), (0x6D, execCmple)]
def intlExec : OprExec :=
  [(0x00, execAnd), (0x08, execBic), (0x14, execCmovlbs), (0x16, execCmovlbc), (0x20, execBis), (0x24, execCmoveq),
   (0x26, execCmovne), (0x28, execOrnot), (0x40, execXor), (0x44, execCmovlt), (0x46, execCmovge), (0x48, execEqv),
   (0x61, fun _ rb rc => execAmask rb rc), (0x64, execCmovle), (0x66, execCmovgt),
   (0x6C, fun _ _ rc => execImplver rc)]
def intsExec : OprExec :=
  [(0x02, execMskbl), (0x06, execExtbl), (0x0B, execInsbl), (0x12, execMskwl), (0x16, execExtwl), (0x1B, execInswl),
   (0x22, execMskll), (0x26, execExtll), (0x2B, execInsll), (0x30, execZap), (0x31, execZapnot), (0x32, execMskql),
   (0x34, execSrl), (0x36, execExtql), (0x39, execSll), (0x3B, execInsql), (0x3C, execSra), (0x52, execMskwh),
   (0x57, execInswh), (0x5A, execExtwh), (0x62, execMsklh), (0x67, execInslh), (0x6A, execExtlh), (0x72, execMskqh),
   (0x77, execInsqh), (0x7A, execExtqh)]
def intmExec : OprExec :=
  [(0x00, execMull), (0x20, execMulq), (0x30, execUmulh), (0x40, execMullV), (0x60, execMulqV)]
def fptiExec : OprExec :=
  [(0x00, fun _ rb rc => execSextb rb rc), (0x01, fun _ rb rc => execSextw rb rc),
   (0x30, fun _ rb rc => execCtpop rb rc), (0x31, execPerr), (0x32, fun _ rb rc => execCtlz rb rc),
   (0x33, fun _ rb rc => execCttz rb rc), (0x34, fun _ rb rc => execUnpkbw rb rc),
   (0x35, fun _ rb rc => execUnpkbl rb rc), (0x36, fun _ rb rc => execPkwb rb rc),
   (0x37, fun _ rb rc => execPklb rb rc), (0x38, execMinsb8), (0x39, execMinsw4), (0x3A, execMinub8),
   (0x3B, execMinuw4), (0x3C, execMaxub8), (0x3D, execMaxuw4), (0x3E, execMaxsb8), (0x3F, execMaxsw4)]
def itofExecs : FpExec :=
  [(0x004, fun ra _ fc => execItofs ra fc), (0x014, fun ra _ fc => execItoff ra fc),
   (0x024, fun ra _ fc => execItoft ra fc)]
def sqrtfExecs : FpExec :=
  [(0x00A, fun _ fb fc => execSqrtfC fb fc), (0x08A, fun _ fb fc => execSqrtf fb fc),
   (0x10A, fun _ fb fc => execSqrtfUc fb fc), (0x18A, fun _ fb fc => execSqrtfU fb fc),
   (0x40A, fun _ fb fc => execSqrtfSc fb fc), (0x48A, fun _ fb fc => execSqrtfS fb fc),
   (0x50A, fun _ fb fc => execSqrtfSuc fb fc), (0x58A, fun _ fb fc => execSqrtfSu fb fc)]
def sqrtsExecs : FpExec :=
  [(0x00B, fun _ fb fc => execSqrtsC fb fc), (0x04B, fun _ fb fc => execSqrtsM fb fc),
   (0x08B, fun _ fb fc => execSqrts fb fc), (0x0CB, fun _ fb fc => execSqrtsD fb fc),
   (0x10B, fun _ fb fc => execSqrtsUc fb fc), (0x14B, fun _ fb fc => execSqrtsUm fb fc),
   (0x18B, fun _ fb fc => execSqrtsU fb fc), (0x1CB, fun _ fb fc => execSqrtsUd fb fc),
   (0x50B, fun _ fb fc => execSqrtsSuc fb fc), (0x54B, fun _ fb fc => execSqrtsSum fb fc),
   (0x58B, fun _ fb fc => execSqrtsSu fb fc), (0x5CB, fun _ fb fc => execSqrtsSud fb fc),
   (0x70B, fun _ fb fc => execSqrtsSuic fb fc), (0x74B, fun _ fb fc => execSqrtsSuim fb fc),
   (0x78B, fun _ fb fc => execSqrtsSui fb fc), (0x7CB, fun _ fb fc => execSqrtsSuid fb fc)]
def sqrtgExecs : FpExec :=
  [(0x02A, fun _ fb fc => execSqrtgC fb fc), (0x0AA, fun _ fb fc => execSqrtg fb fc),
   (0x12A, fun _ fb fc => execSqrtgUc fb fc), (0x1AA, fun _ fb fc => execSqrtgU fb fc),
   (0x42A, fun _ fb fc => execSqrtgSc fb fc), (0x4AA, fun _ fb fc => execSqrtgS fb fc),
   (0x52A, fun _ fb fc => execSqrtgSuc fb fc), (0x5AA, fun _ fb fc => execSqrtgSu fb fc)]
def sqrttExecs : FpExec :=
  [(0x02B, fun _ fb fc => execSqrttC fb fc), (0x06B, fun _ fb fc => execSqrttM fb fc),
   (0x0AB, fun _ fb fc => execSqrtt fb fc), (0x0EB, fun _ fb fc => execSqrttD fb fc),
   (0x12B, fun _ fb fc => execSqrttUc fb fc), (0x16B, fun _ fb fc => execSqrttUm fb fc),
   (0x1AB, fun _ fb fc => execSqrttU fb fc), (0x1EB, fun _ fb fc => execSqrttUd fb fc),
   (0x52B, fun _ fb fc => execSqrttSuc fb fc), (0x56B, fun _ fb fc => execSqrttSum fb fc),
   (0x5AB, fun _ fb fc => execSqrttSu fb fc), (0x5EB, fun _ fb fc => execSqrttSud fb fc),
   (0x72B, fun _ fb fc => execSqrttSuic fb fc), (0x76B, fun _ fb fc => execSqrttSuim fb fc),
   (0x7AB, fun _ fb fc => execSqrttSui fb fc), (0x7EB, fun _ fb fc => execSqrttSuid fb fc)]
def itfpExec : FpExec :=
  itofExecs ++ sqrtfExecs ++ sqrtsExecs ++ sqrtgExecs ++ sqrttExecs
def addfExecs : FpExec :=
  [(0x000, execAddfC), (0x080, execAddf), (0x100, execAddfUc), (0x180, execAddfU), (0x400, execAddfSc),
   (0x480, execAddfS), (0x500, execAddfSuc), (0x580, execAddfSu)]
def subfExecs : FpExec :=
  [(0x001, execSubfC), (0x081, execSubf), (0x101, execSubfUc), (0x181, execSubfU), (0x401, execSubfSc),
   (0x481, execSubfS), (0x501, execSubfSuc), (0x581, execSubfSu)]
def mulfExecs : FpExec :=
  [(0x002, execMulfC), (0x082, execMulf), (0x102, execMulfUc), (0x182, execMulfU), (0x402, execMulfSc),
   (0x482, execMulfS), (0x502, execMulfSuc), (0x582, execMulfSu)]
def divfExecs : FpExec :=
  [(0x003, execDivfC), (0x083, execDivf), (0x103, execDivfUc), (0x183, execDivfU), (0x403, execDivfSc),
   (0x483, execDivfS), (0x503, execDivfSuc), (0x583, execDivfSu)]
def cvtdgExecs : FpExec :=
  [(0x01E, fun _ fb fc => execCvtdgC fb fc), (0x09E, fun _ fb fc => execCvtdg fb fc),
   (0x11E, fun _ fb fc => execCvtdgUc fb fc), (0x19E, fun _ fb fc => execCvtdgU fb fc),
   (0x41E, fun _ fb fc => execCvtdgSc fb fc), (0x49E, fun _ fb fc => execCvtdgS fb fc),
   (0x51E, fun _ fb fc => execCvtdgSuc fb fc), (0x59E, fun _ fb fc => execCvtdgSu fb fc)]
def addgExecs : FpExec :=
  [(0x020, execAddgC), (0x0A0, execAddg), (0x120, execAddgUc), (0x1A0, execAddgU), (0x420, execAddgSc),
   (0x4A0, execAddgS), (0x520, execAddgSuc), (0x5A0, execAddgSu)]
def subgExecs : FpExec :=
  [(0x021, execSubgC), (0x0A1, execSubg), (0x121, execSubgUc), (0x1A1, execSubgU), (0x421, execSubgSc),
   (0x4A1, execSubgS), (0x521, execSubgSuc), (0x5A1, execSubgSu)]
def mulgExecs : FpExec :=
  [(0x022, execMulgC), (0x0A2, execMulg), (0x122, execMulgUc), (0x1A2, execMulgU), (0x422, execMulgSc),
   (0x4A2, execMulgS), (0x522, execMulgSuc), (0x5A2, execMulgSu)]
def divgExecs : FpExec :=
  [(0x023, execDivgC), (0x0A3, execDivg), (0x123, execDivgUc), (0x1A3, execDivgU), (0x423, execDivgSc),
   (0x4A3, execDivgS), (0x523, execDivgSuc), (0x5A3, execDivgSu)]
def cvtgfExecs : FpExec :=
  [(0x02C, fun _ fb fc => execCvtgfC fb fc), (0x0AC, fun _ fb fc => execCvtgf fb fc),
   (0x12C, fun _ fb fc => execCvtgfUc fb fc), (0x1AC, fun _ fb fc => execCvtgfU fb fc),
   (0x42C, fun _ fb fc => execCvtgfSc fb fc), (0x4AC, fun _ fb fc => execCvtgfS fb fc),
   (0x52C, fun _ fb fc => execCvtgfSuc fb fc), (0x5AC, fun _ fb fc => execCvtgfSu fb fc)]
def cvtgdExecs : FpExec :=
  [(0x02D, fun _ fb fc => execCvtgdC fb fc), (0x0AD, fun _ fb fc => execCvtgd fb fc),
   (0x12D, fun _ fb fc => execCvtgdUc fb fc), (0x1AD, fun _ fb fc => execCvtgdU fb fc),
   (0x42D, fun _ fb fc => execCvtgdSc fb fc), (0x4AD, fun _ fb fc => execCvtgdS fb fc),
   (0x52D, fun _ fb fc => execCvtgdSuc fb fc), (0x5AD, fun _ fb fc => execCvtgdSu fb fc)]
def cvtgqExecs : FpExec :=
  [(0x02F, fun _ fb fc => execCvtgqC fb fc), (0x0AF, fun _ fb fc => execCvtgq fb fc),
   (0x12F, fun _ fb fc => execCvtgqVc fb fc), (0x1AF, fun _ fb fc => execCvtgqV fb fc),
   (0x42F, fun _ fb fc => execCvtgqSc fb fc), (0x4AF, fun _ fb fc => execCvtgqS fb fc),
   (0x52F, fun _ fb fc => execCvtgqSvc fb fc), (0x5AF, fun _ fb fc => execCvtgqSv fb fc)]
def cvtqfExecs : FpExec :=
  [(0x03C, fun _ fb fc => execCvtqfC fb fc), (0x0BC, fun _ fb fc => execCvtqf fb fc)]
def cvtqgExecs : FpExec :=
  [(0x03E, fun _ fb fc => execCvtqgC fb fc), (0x0BE, fun _ fb fc => execCvtqg fb fc)]
def cmpgeqExecs : FpExec :=
  [(0x0A5, execCmpgeq), (0x4A5, execCmpgeqS)]
def cmpgltExecs : FpExec :=
  [(0x0A6, execCmpglt), (0x4A6, execCmpgltS)]
def cmpgleExecs : FpExec :=
  [(0x0A7, execCmpgle), (0x4A7, execCmpgleS)]
def fltvExec : FpExec :=
  addfExecs ++ subfExecs ++ mulfExecs ++ divfExecs ++ cvtdgExecs ++ addgExecs ++ subgExecs ++ mulgExecs
    ++ divgExecs ++ cvtgfExecs ++ cvtgdExecs ++ cvtgqExecs ++ cvtqfExecs ++ cvtqgExecs ++ cmpgeqExecs ++ cmpgltExecs ++ cmpgleExecs
def addsExecs : FpExec :=
  [(0x000, execAddsC), (0x040, execAddsM), (0x080, execAdds), (0x0C0, execAddsD), (0x100, execAddsUc),
   (0x140, execAddsUm), (0x180, execAddsU), (0x1C0, execAddsUd), (0x500, execAddsSuc), (0x540, execAddsSum),
   (0x580, execAddsSu), (0x5C0, execAddsSud), (0x700, execAddsSuic), (0x740, execAddsSuim), (0x780, execAddsSui),
   (0x7C0, execAddsSuid)]
def subsExecs : FpExec :=
  [(0x001, execSubsC), (0x041, execSubsM), (0x081, execSubs), (0x0C1, execSubsD), (0x101, execSubsUc),
   (0x141, execSubsUm), (0x181, execSubsU), (0x1C1, execSubsUd), (0x501, execSubsSuc), (0x541, execSubsSum),
   (0x581, execSubsSu), (0x5C1, execSubsSud), (0x701, execSubsSuic), (0x741, execSubsSuim), (0x781, execSubsSui),
   (0x7C1, execSubsSuid)]
def mulsExecs : FpExec :=
  [(0x002, execMulsC), (0x042, execMulsM), (0x082, execMuls), (0x0C2, execMulsD), (0x102, execMulsUc),
   (0x142, execMulsUm), (0x182, execMulsU), (0x1C2, execMulsUd), (0x502, execMulsSuc), (0x542, execMulsSum),
   (0x582, execMulsSu), (0x5C2, execMulsSud), (0x702, execMulsSuic), (0x742, execMulsSuim), (0x782, execMulsSui),
   (0x7C2, execMulsSuid)]
def divsExecs : FpExec :=
  [(0x003, execDivsC), (0x043, execDivsM), (0x083, execDivs), (0x0C3, execDivsD), (0x103, execDivsUc),
   (0x143, execDivsUm), (0x183, execDivsU), (0x1C3, execDivsUd), (0x503, execDivsSuc), (0x543, execDivsSum),
   (0x583, execDivsSu), (0x5C3, execDivsSud), (0x703, execDivsSuic), (0x743, execDivsSuim), (0x783, execDivsSui),
   (0x7C3, execDivsSuid)]
def addtExecs : FpExec :=
  [(0x020, execAddtC), (0x060, execAddtM), (0x0A0, execAddt), (0x0E0, execAddtD), (0x120, execAddtUc),
   (0x160, execAddtUm), (0x1A0, execAddtU), (0x1E0, execAddtUd), (0x520, execAddtSuc), (0x560, execAddtSum),
   (0x5A0, execAddtSu), (0x5E0, execAddtSud), (0x720, execAddtSuic), (0x760, execAddtSuim), (0x7A0, execAddtSui),
   (0x7E0, execAddtSuid)]
def subtExecs : FpExec :=
  [(0x021, execSubtC), (0x061, execSubtM), (0x0A1, execSubt), (0x0E1, execSubtD), (0x121, execSubtUc),
   (0x161, execSubtUm), (0x1A1, execSubtU), (0x1E1, execSubtUd), (0x521, execSubtSuc), (0x561, execSubtSum),
   (0x5A1, execSubtSu), (0x5E1, execSubtSud), (0x721, execSubtSuic), (0x761, execSubtSuim), (0x7A1, execSubtSui),
   (0x7E1, execSubtSuid)]
def multExecs : FpExec :=
  [(0x022, execMultC), (0x062, execMultM), (0x0A2, execMult), (0x0E2, execMultD), (0x122, execMultUc),
   (0x162, execMultUm), (0x1A2, execMultU), (0x1E2, execMultUd), (0x522, execMultSuc), (0x562, execMultSum),
   (0x5A2, execMultSu), (0x5E2, execMultSud), (0x722, execMultSuic), (0x762, execMultSuim), (0x7A2, execMultSui),
   (0x7E2, execMultSuid)]
def divtExecs : FpExec :=
  [(0x023, execDivtC), (0x063, execDivtM), (0x0A3, execDivt), (0x0E3, execDivtD), (0x123, execDivtUc),
   (0x163, execDivtUm), (0x1A3, execDivtU), (0x1E3, execDivtUd), (0x523, execDivtSuc), (0x563, execDivtSum),
   (0x5A3, execDivtSu), (0x5E3, execDivtSud), (0x723, execDivtSuic), (0x763, execDivtSuim), (0x7A3, execDivtSui),
   (0x7E3, execDivtSuid)]
def cvttsExecs : FpExec :=
  [(0x02C, fun _ fb fc => execCvttsC fb fc), (0x06C, fun _ fb fc => execCvttsM fb fc),
   (0x0AC, fun _ fb fc => execCvtts fb fc), (0x0EC, fun _ fb fc => execCvttsD fb fc),
   (0x12C, fun _ fb fc => execCvttsUc fb fc), (0x16C, fun _ fb fc => execCvttsUm fb fc),
   (0x1AC, fun _ fb fc => execCvttsU fb fc), (0x1EC, fun _ fb fc => execCvttsUd fb fc),
   (0x52C, fun _ fb fc => execCvttsSuc fb fc), (0x56C, fun _ fb fc => execCvttsSum fb fc),
   (0x5AC, fun _ fb fc => execCvttsSu fb fc), (0x5EC, fun _ fb fc => execCvttsSud fb fc),
   (0x72C, fun _ fb fc => execCvttsSuic fb fc), (0x76C, fun _ fb fc => execCvttsSuim fb fc),
   (0x7AC, fun _ fb fc => execCvttsSui fb fc), (0x7EC, fun _ fb fc => execCvttsSuid fb fc)]
def cvttqExecs : FpExec :=
  [(0x02F, fun _ fb fc => execCvttqC fb fc), (0x06F, fun _ fb fc => execCvttqM fb fc),
   (0x0AF, fun _ fb fc => execCvttq fb fc), (0x0EF, fun _ fb fc => execCvttqD fb fc),
   (0x12F, fun _ fb fc => execCvttqVc fb fc), (0x16F, fun _ fb fc => execCvttqVm fb fc),
   (0x1AF, fun _ fb fc => execCvttqV fb fc), (0x1EF, fun _ fb fc => execCvttqVd fb fc),
   (0x52F, fun _ fb fc => execCvttqSvc fb fc), (0x56F, fun _ fb fc => execCvttqSvm fb fc),
   (0x5AF, fun _ fb fc => execCvttqSv fb fc), (0x5EF, fun _ fb fc => execCvttqSvd fb fc),
   (0x72F, fun _ fb fc => execCvttqSvic fb fc), (0x76F, fun _ fb fc => execCvttqSvim fb fc),
   (0x7AF, fun _ fb fc => execCvttqSvi fb fc), (0x7EF, fun _ fb fc => execCvttqSvid fb fc)]
def cvtqsExecs : FpExec :=
  [(0x03C, fun _ fb fc => execCvtqsC fb fc), (0x07C, fun _ fb fc => execCvtqsM fb fc),
   (0x0BC, fun _ fb fc => execCvtqs fb fc), (0x0FC, fun _ fb fc => execCvtqsD fb fc),
   (0x73C, fun _ fb fc => execCvtqsSuic fb fc), (0x77C, fun _ fb fc => execCvtqsSuim fb fc),
   (0x7BC, fun _ fb fc => execCvtqsSui fb fc), (0x7FC, fun _ fb fc => execCvtqsSuid fb fc)]
def cvtqtExecs : FpExec :=
  [(0x03E, fun _ fb fc => execCvtqtC fb fc), (0x07E, fun _ fb fc => execCvtqtM fb fc),
   (0x0BE, fun _ fb fc => execCvtqt fb fc), (0x0FE, fun _ fb fc => execCvtqtD fb fc),
   (0x73E, fun _ fb fc => execCvtqtSuic fb fc), (0x77E, fun _ fb fc => execCvtqtSuim fb fc),
   (0x7BE, fun _ fb fc => execCvtqtSui fb fc), (0x7FE, fun _ fb fc => execCvtqtSuid fb fc)]
def cmptunExecs : FpExec :=
  [(0x0A4, execCmptun), (0x5A4, execCmptunSu)]
def cmpteqExecs : FpExec :=
  [(0x0A5, execCmpteq), (0x5A5, execCmpteqSu)]
def cmptltExecs : FpExec :=
  [(0x0A6, execCmptlt), (0x5A6, execCmptltSu)]
def cmptleExecs : FpExec :=
  [(0x0A7, execCmptle), (0x5A7, execCmptleSu)]
def cvtstExecs : FpExec :=
  [(0x2AC, fun _ fb fc => execCvtst fb fc), (0x6AC, fun _ fb fc => execCvtstS fb fc)]
def fltiExec : FpExec :=
  addsExecs ++ subsExecs ++ mulsExecs ++ divsExecs ++ addtExecs ++ subtExecs ++ multExecs ++ divtExecs
    ++ cvttsExecs ++ cvttqExecs ++ cvtqsExecs ++ cvtqtExecs ++ cmptunExecs ++ cmpteqExecs ++ cmptltExecs ++ cmptleExecs ++ cvtstExecs
def fltlExecs : FpExec :=
  [(0x010, fun _ fb fc => execCvtlq fb fc), (0x020, execCpys), (0x021, execCpysn), (0x022, execCpyse),
   (0x024, fun fa _ fc => execMtFpcr fa fc), (0x025, fun fa _ fc => execMfFpcr fa fc), (0x02A, execFcmoveq),
   (0x02B, execFcmovne), (0x02C, execFcmovlt), (0x02D, execFcmovge), (0x02E, execFcmovle), (0x02F, execFcmovgt),
   (0x030, fun _ fb fc => execCvtql fb fc), (0x130, fun _ fb fc => execCvtqlV fb fc),
   (0x530, fun _ fb fc => execCvtqlSv fb fc)]
def fltlExec : FpExec :=
  fltlExecs
def ftoiExec : FpExec :=
  [(0x070, fun fa _ rc => execFtoit fa rc), (0x078, fun fa _ rc => execFtois fa rc)]
def miscExec : List (BitVec 16 × (Reg → Reg → State → Out)) :=
  [(0x0000, fun _ _ => execTrapb), (0x0400, fun _ _ => execExcb), (0x4000, fun _ _ => execMb),
   (0x4400, fun _ _ => execWmb), (0x8000, fun _ _ => execFetch), (0xA000, fun _ _ => execFetchM),
   (0xC000, fun ra _ => execRpcc ra), (0xE000, fun ra _ => execRc ra), (0xE800, fun _ _ => execEcb),
   (0xF000, fun ra _ => execRs ra), (0xF800, fun _ rb => execWh64 rb)]

/-- A table of constructors as a table of meanings. -/
def oprRun (p : BitVec 7 × (Reg → Operand → Reg → Instr)) : BitVec 7 × (Reg → Operand → Reg → State → Out) :=
  (p.1, fun a b c s => exec (p.2 a b c) s)
def fpRun (p : BitVec 11 × (Reg → Reg → Reg → Instr)) : BitVec 11 × (Reg → Reg → Reg → State → Out) :=
  (p.1, fun a b c s => exec (p.2 a b c) s)
def miscRun (p : BitVec 16 × (Reg → Reg → Instr)) : BitVec 16 × (Reg → Reg → State → Out) :=
  (p.1, fun a b s => exec (p.2 a b) s)

theorem intaExec_eq : intaTable.map oprRun = intaExec := rfl
theorem intlExec_eq : intlTable.map oprRun = intlExec := rfl
theorem intsExec_eq : intsTable.map oprRun = intsExec := rfl
theorem intmExec_eq : intmTable.map oprRun = intmExec := rfl
theorem fptiExec_eq : fptiTable.map oprRun = fptiExec := rfl
theorem itofExecs_eq : itofRows.map fpRun = itofExecs := rfl
theorem sqrtfExecs_eq : sqrtfRows.map fpRun = sqrtfExecs := rfl
theorem sqrtsExecs_eq : sqrtsRows.map fpRun = sqrtsExecs := rfl
theorem sqrtgExecs_eq : sqrtgRows.map fpRun = sqrtgExecs := rfl
theorem sqrttExecs_eq : sqrttRows.map fpRun = sqrttExecs := rfl
theorem itfpExec_eq : itfpTable.map fpRun = itfpExec := by
  simp only [itfpTable, itfpExec, List.map_append, itofExecs_eq, sqrtfExecs_eq, sqrtsExecs_eq, sqrtgExecs_eq,
    sqrttExecs_eq]
theorem addfExecs_eq : addfRows.map fpRun = addfExecs := rfl
theorem subfExecs_eq : subfRows.map fpRun = subfExecs := rfl
theorem mulfExecs_eq : mulfRows.map fpRun = mulfExecs := rfl
theorem divfExecs_eq : divfRows.map fpRun = divfExecs := rfl
theorem cvtdgExecs_eq : cvtdgRows.map fpRun = cvtdgExecs := rfl
theorem addgExecs_eq : addgRows.map fpRun = addgExecs := rfl
theorem subgExecs_eq : subgRows.map fpRun = subgExecs := rfl
theorem mulgExecs_eq : mulgRows.map fpRun = mulgExecs := rfl
theorem divgExecs_eq : divgRows.map fpRun = divgExecs := rfl
theorem cvtgfExecs_eq : cvtgfRows.map fpRun = cvtgfExecs := rfl
theorem cvtgdExecs_eq : cvtgdRows.map fpRun = cvtgdExecs := rfl
theorem cvtgqExecs_eq : cvtgqRows.map fpRun = cvtgqExecs := rfl
theorem cvtqfExecs_eq : cvtqfRows.map fpRun = cvtqfExecs := rfl
theorem cvtqgExecs_eq : cvtqgRows.map fpRun = cvtqgExecs := rfl
theorem cmpgeqExecs_eq : cmpgeqRows.map fpRun = cmpgeqExecs := rfl
theorem cmpgltExecs_eq : cmpgltRows.map fpRun = cmpgltExecs := rfl
theorem cmpgleExecs_eq : cmpgleRows.map fpRun = cmpgleExecs := rfl
theorem fltvExec_eq : fltvTable.map fpRun = fltvExec := by
  simp only [fltvTable, fltvExec, List.map_append, addfExecs_eq, subfExecs_eq, mulfExecs_eq, divfExecs_eq,
    cvtdgExecs_eq, addgExecs_eq, subgExecs_eq, mulgExecs_eq, divgExecs_eq, cvtgfExecs_eq, cvtgdExecs_eq, cvtgqExecs_eq,
    cvtqfExecs_eq, cvtqgExecs_eq, cmpgeqExecs_eq, cmpgltExecs_eq, cmpgleExecs_eq]
theorem addsExecs_eq : addsRows.map fpRun = addsExecs := rfl
theorem subsExecs_eq : subsRows.map fpRun = subsExecs := rfl
theorem mulsExecs_eq : mulsRows.map fpRun = mulsExecs := rfl
theorem divsExecs_eq : divsRows.map fpRun = divsExecs := rfl
theorem addtExecs_eq : addtRows.map fpRun = addtExecs := rfl
theorem subtExecs_eq : subtRows.map fpRun = subtExecs := rfl
theorem multExecs_eq : multRows.map fpRun = multExecs := rfl
theorem divtExecs_eq : divtRows.map fpRun = divtExecs := rfl
theorem cvttsExecs_eq : cvttsRows.map fpRun = cvttsExecs := rfl
theorem cvttqExecs_eq : cvttqRows.map fpRun = cvttqExecs := rfl
theorem cvtqsExecs_eq : cvtqsRows.map fpRun = cvtqsExecs := rfl
theorem cvtqtExecs_eq : cvtqtRows.map fpRun = cvtqtExecs := rfl
theorem cmptunExecs_eq : cmptunRows.map fpRun = cmptunExecs := rfl
theorem cmpteqExecs_eq : cmpteqRows.map fpRun = cmpteqExecs := rfl
theorem cmptltExecs_eq : cmptltRows.map fpRun = cmptltExecs := rfl
theorem cmptleExecs_eq : cmptleRows.map fpRun = cmptleExecs := rfl
theorem cvtstExecs_eq : cvtstRows.map fpRun = cvtstExecs := rfl
theorem fltiExec_eq : fltiTable.map fpRun = fltiExec := by
  simp only [fltiTable, fltiExec, List.map_append, addsExecs_eq, subsExecs_eq, mulsExecs_eq, divsExecs_eq,
    addtExecs_eq, subtExecs_eq, multExecs_eq, divtExecs_eq, cvttsExecs_eq, cvttqExecs_eq, cvtqsExecs_eq, cvtqtExecs_eq,
    cmptunExecs_eq, cmpteqExecs_eq, cmptltExecs_eq, cmptleExecs_eq, cvtstExecs_eq]
theorem fltlExecs_eq : fltlRows.map fpRun = fltlExecs := rfl
theorem fltlExec_eq : fltlTable.map fpRun = fltlExec := by
  simp only [fltlTable, fltlExec, fltlExecs_eq]
theorem ftoiExec_eq : ftoiTable.map fpRun = ftoiExec := rfl
theorem miscExec_eq : miscTable.map miscRun = miscExec := rfl

def runOpr (t : OprExec) (miss : Reject) (w : BitVec 32) (s : State) : Except Reject Out :=
  match t.lookup (oprFunction w) with
  | some k => .ok (k (fieldA w) (fieldOperand w) (fieldC w) s)
  | none => .error miss

def runFp (t : FpExec) (miss : Reject) (w : BitVec 32) (s : State) : Except Reject Out :=
  match t.lookup (fpFunction w) with
  | some k => .ok (k (fieldA w) (fieldB w) (fieldC w) s)
  | none => .error miss

def runMisc (w : BitVec 32) (s : State) : Except Reject Out :=
  match miscExec.lookup (w.extractLsb' 0 16) with
  | some k => .ok (k (fieldA w) (fieldB w) s)
  | none => .error (.unlisted 0x18)

def runFlti (w : BitVec 32) (s : State) : Except Reject Out :=
  runFp fltiExec (if namesXFloating w then .opcdec else .unlisted 0x16) w s

def runFpti (w : BitVec 32) (s : State) : Except Reject Out :=
  if oprFunction w = 0x70 ∨ oprFunction w = 0x78 then runFp ftoiExec .opcdec w s
  else runOpr fptiExec .opcdec w s

def runJump (w : BitVec 32) (s : State) : Except Reject Out :=
  match (w.extractLsb' 14 2 : BitVec 2).toNat with
  | 0 => .ok (execJmp (fieldA w) (fieldB w) s)
  | 1 => .ok (execJsr (fieldA w) (fieldB w) s)
  | 2 => .ok (execRet (fieldA w) (fieldB w) s)
  | _ => .ok (execJsrCoroutine (fieldA w) (fieldB w) s)

/-- A word run without building its instruction. -/
def execWordCompiled (w : BitVec 32) (s : State) : Except Reject Out :=
  match (opcodeOf w).toNat with
  | 0x00 => .ok (execCallPal (w.extractLsb' 0 26) s)
  | 0x01 => .ok (execOpc01 s)
  | 0x02 => .ok (execOpc02 s)
  | 0x03 => .ok (execOpc03 s)
  | 0x04 => .ok (execOpc04 s)
  | 0x05 => .ok (execOpc05 s)
  | 0x06 => .ok (execOpc06 s)
  | 0x07 => .ok (execOpc07 s)
  | 0x08 => .ok (execLda (fieldA w) (fieldB w) (w.extractLsb' 0 16) s)
  | 0x09 => .ok (execLdah (fieldA w) (fieldB w) (w.extractLsb' 0 16) s)
  | 0x0A => .ok (execLdbu (fieldA w) (fieldB w) (w.extractLsb' 0 16) s)
  | 0x0B => .ok (execLdqU (fieldA w) (fieldB w) (w.extractLsb' 0 16) s)
  | 0x0C => .ok (execLdwu (fieldA w) (fieldB w) (w.extractLsb' 0 16) s)
  | 0x0D => .ok (execStw (fieldA w) (fieldB w) (w.extractLsb' 0 16) s)
  | 0x0E => .ok (execStb (fieldA w) (fieldB w) (w.extractLsb' 0 16) s)
  | 0x0F => .ok (execStqU (fieldA w) (fieldB w) (w.extractLsb' 0 16) s)
  | 0x10 => runOpr intaExec (.unlisted 0x10) w s
  | 0x11 => runOpr intlExec (.unlisted 0x11) w s
  | 0x12 => runOpr intsExec (.unlisted 0x12) w s
  | 0x13 => runOpr intmExec (.unlisted 0x13) w s
  | 0x14 => runFp itfpExec .opcdec w s
  | 0x15 => runFp fltvExec (.unlisted 0x15) w s
  | 0x16 => runFlti w s
  | 0x17 => runFp fltlExec (.unlisted 0x17) w s
  | 0x18 => runMisc w s
  | 0x19 => .ok (execHwMfpr (fieldA w) (w.extractLsb' 8 8) s)
  | 0x1A => runJump w s
  | 0x1B => .ok (execHwLd (fieldA w) (fieldB w) (w.extractLsb' 13 3) (w.extractLsb' 12 1) (w.extractLsb' 0 12) s)
  | 0x1C => runFpti w s
  | 0x1D => .ok (execHwMtpr (fieldB w) (w.extractLsb' 8 8) s)
  | 0x1E => .ok (execHwRet (fieldA w) (fieldB w) (w.extractLsb' 13 1) s)
  | 0x1F => .ok (execHwSt (fieldA w) (fieldB w) (w.extractLsb' 13 3) (w.extractLsb' 12 1) (w.extractLsb' 0 12) s)
  | 0x20 => .ok (execLdf (fieldA w) (fieldB w) (w.extractLsb' 0 16) s)
  | 0x21 => .ok (execLdg (fieldA w) (fieldB w) (w.extractLsb' 0 16) s)
  | 0x22 => .ok (execLds (fieldA w) (fieldB w) (w.extractLsb' 0 16) s)
  | 0x23 => .ok (execLdt (fieldA w) (fieldB w) (w.extractLsb' 0 16) s)
  | 0x24 => .ok (execStf (fieldA w) (fieldB w) (w.extractLsb' 0 16) s)
  | 0x25 => .ok (execStg (fieldA w) (fieldB w) (w.extractLsb' 0 16) s)
  | 0x26 => .ok (execSts (fieldA w) (fieldB w) (w.extractLsb' 0 16) s)
  | 0x27 => .ok (execStt (fieldA w) (fieldB w) (w.extractLsb' 0 16) s)
  | 0x28 => .ok (execLdl (fieldA w) (fieldB w) (w.extractLsb' 0 16) s)
  | 0x29 => .ok (execLdq (fieldA w) (fieldB w) (w.extractLsb' 0 16) s)
  | 0x2A => .ok (execLdlL (fieldA w) (fieldB w) (w.extractLsb' 0 16) s)
  | 0x2B => .ok (execLdqL (fieldA w) (fieldB w) (w.extractLsb' 0 16) s)
  | 0x2C => .ok (execStl (fieldA w) (fieldB w) (w.extractLsb' 0 16) s)
  | 0x2D => .ok (execStq (fieldA w) (fieldB w) (w.extractLsb' 0 16) s)
  | 0x2E => .ok (execStlC (fieldA w) (fieldB w) (w.extractLsb' 0 16) s)
  | 0x2F => .ok (execStqC (fieldA w) (fieldB w) (w.extractLsb' 0 16) s)
  | 0x30 => .ok (execBr (fieldA w) (w.extractLsb' 0 21) s)
  | 0x31 => .ok (execFbeq (fieldA w) (w.extractLsb' 0 21) s)
  | 0x32 => .ok (execFblt (fieldA w) (w.extractLsb' 0 21) s)
  | 0x33 => .ok (execFble (fieldA w) (w.extractLsb' 0 21) s)
  | 0x34 => .ok (execBsr (fieldA w) (w.extractLsb' 0 21) s)
  | 0x35 => .ok (execFbne (fieldA w) (w.extractLsb' 0 21) s)
  | 0x36 => .ok (execFbge (fieldA w) (w.extractLsb' 0 21) s)
  | 0x37 => .ok (execFbgt (fieldA w) (w.extractLsb' 0 21) s)
  | 0x38 => .ok (execBlbc (fieldA w) (w.extractLsb' 0 21) s)
  | 0x39 => .ok (execBeq (fieldA w) (w.extractLsb' 0 21) s)
  | 0x3A => .ok (execBlt (fieldA w) (w.extractLsb' 0 21) s)
  | 0x3B => .ok (execBle (fieldA w) (w.extractLsb' 0 21) s)
  | 0x3C => .ok (execBlbs (fieldA w) (w.extractLsb' 0 21) s)
  | 0x3D => .ok (execBne (fieldA w) (w.extractLsb' 0 21) s)
  | 0x3E => .ok (execBge (fieldA w) (w.extractLsb' 0 21) s)
  | _ => .ok (execBgt (fieldA w) (w.extractLsb' 0 21) s)

theorem lookup_map {α β γ : Type} [BEq α] (f : α × β → α × γ) (g : β → γ) (h : ∀ p, f p = (p.1, g p.2)) (k : α)
    (t : List (α × β)) : (t.map f).lookup k = (t.lookup k).map g := by
  induction t with
  | nil => rfl
  | cons p t ih =>
    obtain ⟨a, b⟩ := p
    simp only [List.map_cons, h, List.lookup_cons, ih]
    cases k == a <;> rfl

theorem runOpr_eq (t : OprTable) (u : OprExec) (h : t.map oprRun = u) (miss : Reject) (w : BitVec 32) (s : State) :
    execDecoded (decodeOpr t miss w) s = runOpr u miss w s := by
  subst h
  unfold runOpr decodeOpr
  rw [lookup_map oprRun (fun k a b c s => exec (k a b c) s) (fun _ => rfl)]
  cases t.lookup (oprFunction w) <;> rfl

theorem runFp_eq (t : FpTable) (u : FpExec) (h : t.map fpRun = u) (miss : Reject) (w : BitVec 32) (s : State) :
    execDecoded (decodeFp t miss w) s = runFp u miss w s := by
  subst h
  unfold runFp decodeFp
  rw [lookup_map fpRun (fun k a b c s => exec (k a b c) s) (fun _ => rfl)]
  cases t.lookup (fpFunction w) <;> rfl

theorem runMisc_eq (w : BitVec 32) (s : State) : execDecoded (decodeMisc w) s = runMisc w s := by
  unfold runMisc decodeMisc
  rw [← miscExec_eq, lookup_map miscRun (fun k a b s => exec (k a b) s) (fun _ => rfl)]
  cases miscTable.lookup (w.extractLsb' 0 16) <;> rfl

theorem runFpti_eq (w : BitVec 32) (s : State) : execDecoded (decodeFpti w) s = runFpti w s := by
  unfold runFpti decodeFpti
  split
  · exact runFp_eq _ _ ftoiExec_eq _ _ _
  · exact runOpr_eq _ _ fptiExec_eq _ _ _

theorem runJump_eq (w : BitVec 32) (s : State) : execDecoded (decodeJump w) s = runJump w s := by
  unfold runJump decodeJump
  generalize (w.extractLsb' 14 2 : BitVec 2).toNat = n
  rcases n with _ | _ | _ | n <;> rfl

/-- The compiled path is the model's. -/
@[csimp] theorem execWord_compiled : @execWord = @execWordCompiled := by
  funext w s
  unfold execWord execWordCompiled decode
  split
  all_goals try (rename_i h; rw [h])
  all_goals first
    | rfl
    | exact runOpr_eq _ _ intaExec_eq _ _ _
    | exact runOpr_eq _ _ intlExec_eq _ _ _
    | exact runOpr_eq _ _ intsExec_eq _ _ _
    | exact runOpr_eq _ _ intmExec_eq _ _ _
    | exact runFp_eq _ _ itfpExec_eq _ _ _
    | exact runFp_eq _ _ fltvExec_eq _ _ _
    | exact runFp_eq _ _ fltiExec_eq _ _ _
    | exact runFp_eq _ _ fltlExec_eq _ _ _
    | exact runMisc_eq _ _
    | exact runFpti_eq _ _
    | exact runJump_eq _ _
    | split <;> first | rfl | contradiction

end Sys2Proof.Machine
end

