-- ==== Sys2Proof/Machine/Restrictions.lean ====
section
/-! DEFINITION. The fetch blocks that the machine runs from, and the PALcode restrictions whose violation the model refuses
(spec/71_palcode_restrictions.md R1014, R1029, R1039; spec/93_implementation_defined.md Part B; log 36). -/

namespace Sys2Proof.Machine

/-! ### Fetch blocks -/

/-- The fetch block at the pc: four words of one aligned octaword, from the Icache block that the fetch read. -/
def fetchBlockAt (s : State) : FetchBlock :=
  { addr := s.pc.extractLsb' 4 60
    pal := s.palMode
    words :=
      match s.icache.find? (icacheHits s s.pc) with
      | some b => (b.words.drop (4 * (s.pc.extractLsb' 4 2).toNat)).take 4
      | none => [] }

/-- The record of fetch blocks, the present one first and the one before it second, once `b` is the present one. A block of the other
mode is not a previous fetch block: PALcode cannot know it (log 36). -/
def enterBlock (b : FetchBlock) : List FetchBlock → List FetchBlock
  | [] => [b]
  | c :: rest =>
    if c.pal != b.pal then [b]
    else if c.addr == b.addr then b :: rest.take 1
    else [b, c]

/-- The words of the present fetch block, and of the previous one. -/
def blockWords (s : State) : List (BitVec 32) := ((s.blocks.head?).map FetchBlock.words).getD []
def previousWords (s : State) : List (BitVec 32) := ((s.blocks[1]?).map FetchBlock.words).getD []

/-! ### Kinds of instruction words -/

def opcodeOf (w : BitVec 32) : Nat := (w.extractLsb' 26 6).toNat

def isHwMtpr (w : BitVec 32) : Bool := opcodeOf w == 0x1D

/-- An ITOF register move: opcode 14 with a function code that ends in 004, 014 or 024. -/
def isItof (w : BitVec 32) : Bool := opcodeOf w == 0x14 && w.extractLsb' 5 4 == 4#4

/-- The instructions that R1014 keeps out of a fetch block with a HW_MTPR: floating operates (with MT_FPCR and MF_FPCR), floating
conditional branches, FTOI and floating stores; not floating loads, not ITOF. -/
def isFpRestricted (w : BitVec 32) : Bool :=
  match opcodeOf w with
  | 0x14 => !isItof w
  | 0x15 | 0x16 | 0x17 => true
  | 0x1C => w.extractLsb' 5 11 == 0x070#11 || w.extractLsb' 5 11 == 0x078#11
  | 0x24 | 0x25 | 0x26 | 0x27 => true
  | 0x31 | 0x32 | 0x33 | 0x35 | 0x36 | 0x37 => true
  | _ => false

/-- A conditional branch, integer or floating. -/
def isCondBranch (w : BitVec 32) : Bool :=
  decide (0x30 ≤ opcodeOf w) && opcodeOf w != 0x30 && opcodeOf w != 0x34

/-- A conditional branch that can be mispredicted: not one of R31 ("BNE R31, 0 cannot be mispredicted in PALmode", R1020). -/
def isMispredictable (w : BitVec 32) : Bool := isCondBranch w && w.extractLsb' 21 5 != 31#5

/-- HW_RET with STALL. -/
def isStalledReturn (w : BitVec 32) : Bool := opcodeOf w == 0x1E && w.getLsbD 13

/-- An integer /V form that can trap: its destination is not R31, and its sources are not both R31 (spec/94_source_listings.md 1.5 has
MULQ/V R31,R31,R0 beside a HW_MTPR). -/
def canOverflow (w : BitVec 32) : Bool :=
  w.getLsbD 11 && w.extractLsb' 0 5 != 31#5 && !(w.extractLsb' 21 5 == 31#5 && w.extractLsb' 12 9 == 0b111110000#9)

/-- The word is no instruction, and takes OPCDEC (R834 (d), (e)). -/
def isRejected (s : State) (w : BitVec 32) : Bool :=
  match execWord w s with
  | .error .opcdec => true
  | _ => false

/-- A word that takes FEN where the floating unit is disabled, floating loads and stores apart (R835). -/
def needsFp (w : BitVec 32) : Bool :=
  match opcodeOf w with
  | 0x14 | 0x15 | 0x16 | 0x17 => true
  | 0x1C => w.extractLsb' 5 11 == 0x070#11 || w.extractLsb' 5 11 == 0x078#11
  | 0x31 | 0x32 | 0x33 | 0x35 | 0x36 | 0x37 => true
  | _ => false

/-- CVTQF or CVTQG, which have no exception (spec/46_fp_operate.md R665, R666). -/
def isVaxFromInt (w : BitVec 32) : Bool :=
  w.extractLsb' 5 11 == 0x0BC#11 || w.extractLsb' 5 11 == 0x03C#11 || w.extractLsb' 5 11 == 0x0BE#11 || w.extractLsb' 5 11 == 0x03E#11

/-- An instruction that R1039 calls mispredictable or trappable wherever it stands: one that takes OPCDEC or FEN in this state (R842); a
jump; a HW_RET without STALL; a reference through the DTB; an arithmetic operate that can trap; MT_FPCR in native mode. The manual gives
no list: DEDUCED, as wide as its own listings allow (log 36). -/
def isTrappable (s : State) (w : BitVec 32) : Bool :=
  isRejected s w || (needsFp w && !fpEnabled s) ||
  match opcodeOf w with
  | 0x00 => !callPalLegal s (w.extractLsb' 0 26)
  | 0x01 | 0x02 | 0x03 | 0x04 | 0x05 | 0x06 | 0x07 => true
  | 0x1A => true
  | 0x1E => !w.getLsbD 13
  | 0x0B => w.extractLsb' 21 5 != 31#5
  | 0x0A | 0x0C | 0x0D | 0x0E | 0x0F => true
  | 0x20 | 0x21 | 0x22 | 0x23 | 0x24 | 0x25 | 0x26 | 0x27 => true
  | 0x28 | 0x29 | 0x2A | 0x2B | 0x2C | 0x2D | 0x2E | 0x2F => true
  | 0x1B | 0x1F => decide (2 ≤ (w.extractLsb' 13 3).toNat)
  | 0x10 => (w.extractLsb' 5 6 == 0x00#6 || w.extractLsb' 5 6 == 0x09#6 || w.extractLsb' 5 6 == 0x20#6 || w.extractLsb' 5 6 == 0x29#6)
      && canOverflow w
  | 0x13 => canOverflow w
  | 0x14 => !isItof w && w.extractLsb' 0 5 != 31#5
  | 0x15 => !isVaxFromInt w && w.extractLsb' 0 5 != 31#5
  | 0x16 => w.extractLsb' 0 5 != 31#5
  | 0x17 => (!s.palMode && w.extractLsb' 5 11 == 0x024#11)
      || ((w.extractLsb' 5 11 == 0x030#11 || w.extractLsb' 5 11 == 0x130#11 || w.extractLsb' 5 11 == 0x530#11) && w.extractLsb' 0 5 != 31#5)
  | _ => false

/-! ### The restrictions -/

/-- A word of a fetch block. -/
def wordAt (block : List (BitVec 32)) (n : Nat) : BitVec 32 := block.getD n 0

/-- MULQ, which cannot trap. -/
def isMulq (w : BitVec 32) : Bool := opcodeOf w == 0x13 && w.extractLsb' 5 7 == 0x20#7

/-- The fetch block of R1042 (D.42): MULQ, MULQ, HW_MTPR MM_STAT, HW_RET with STALL. R1039 excepts it. -/
def isDelayedReturn (block : List (BitVec 32)) : Bool :=
  isMulq (wordAt block 0) && isMulq (wordAt block 1) && isHwMtpr (wordAt block 2)
    && (wordAt block 2).extractLsb' 8 8 == 0x27#8 && isStalledReturn (wordAt block 3)

/-- The HW_MTPR writes an Ibox register (spec/11_ipr_ebox_ibox.md R80), which R1008 has a HW_RET with STALL follow. -/
def writesIbox (w : BitVec 32) : Bool := decide (w.extractLsb' 8 8 ≤ 0x17#8) || w.extractLsb' 14 2 == 1#2

/-- HW_RET with STALL, which forces a mispredict (R812), stands in place `k` behind the HW_MTPR in place `m`, and neither form that the
manual itself writes excuses it: a conditional branch between the two (R1020), and an Ibox register, as the routine of
spec/12_ipr_mbox_cbox.md R187 ends by writing I_CTL beside its HW_RET with STALL (R1008; log 36). -/
def returnsBehind (block : List (BitVec 32)) (m k : Nat) : Bool :=
  decide (m < k) && isStalledReturn (wordAt block k) && !writesIbox (wordAt block m)
    && !(List.range 4).any fun j => decide (m < j) && decide (j < k) && isCondBranch (wordAt block j)

/-- The fetch block holds a mispredictable or trappable instruction together with the HW_MTPR in place `m`: one that counts wherever it
stands, a conditional branch before the HW_MTPR, or a HW_RET with STALL behind it (log 36). -/
def trappableTogether (s : State) (block : List (BitVec 32)) (m : Nat) : Bool :=
  !isDelayedReturn block && (List.range 4).any fun k =>
    isTrappable s (wordAt block k) || (decide (k < m) && isMispredictable (wordAt block k)) || returnsBehind block m k

/-- Why the model refuses an instruction word that may be HW_MTPR, HW_LD or a floating instruction beside one: only where the
PAL-reserved opcodes are legal. -/
def restriction (s : State) (w : BitVec 32) : Option Refusal :=
  if !palLegal s then none
  else if opcodeOf w == 0x1B && w.extractLsb' 13 3 == 1#3 && s.pc.extractLsb' 2 2 == 3#2 then some .lockedLoadFourth
  else if (isHwMtpr w && (blockWords s).any isFpRestricted) || (isFpRestricted w && (blockWords s).any isHwMtpr) then
    some .mixedFetchBlock
  else if isHwMtpr w && (trappableTogether s (blockWords s) (s.pc.extractLsb' 2 2).toNat
      || (previousWords s).any (isTrappable s)) then
    some .trappableWithMtpr
  else none

end Sys2Proof.Machine
end

