-- ==== Sys2Proof/Machine/Run.lean ====
section
/-! DEFINITION. One step of the machine, from its parts: the schedule, sleep, interrupt-type entries, fetch, decode, execution and the
time that passes (spec/60_exceptions.md R838; logs 9, 14). -/

namespace Sys2Proof.Machine

/-- One more instruction since the last LDx_L, up to 81; one that waited is run again and does not count twice. -/
def ageLock (s : State) : LockWatch :=
  { s.lockWatch with age := if s.waiting || decide (80 < s.lockWatch.age) then s.lockWatch.age else s.lockWatch.age + 1 }

/-- The prefetches of the last 80 instructions, one instruction later; one that waited is run again and does not count twice. -/
def agePrefetches (s : State) : List Prefetch :=
  if s.waiting then s.prefetches
  else (s.prefetches.map fun p => { p with age := p.age + 1 }).filter fun p => decide (p.age ≤ 80)

/-- What an instruction starts from: no entry taken yet, a pc that no jump has set, and its fetch block noted. -/
def beginInstr (s : State) : State :=
  { s with
    viaJump := false, trap := none, waiting := false, lockWatch := ageLock s, prefetches := agePrefetches s,
    blocks := enterBlock (fetchBlockAt s) s.blocks }

/-- Apply a function to a next state; faults and refusals stay. -/
def settle (f : State → State) : Out → Out
  | .next s => .next (f s)
  | .fault r => .fault r
  | .refused r => .refused r

/-- The instruction word is ECB (R331, R730). -/
def isEcb (w : BitVec 32) : Bool := w.extractLsb' 26 6 == 0x18#6 && w.extractLsb' 0 16 == 0xE800#16

/-- What a word that ran on `t` and answered `o` does to the caches beside its effect: ECB evicts its block, where its address translates
(R261, R730), and the machine stops where the lookup is not defined (R304, A23); every other word nothing. -/
def evictAfter (w : BitVec 32) (t : State) (o : Out) : Out :=
  if isEcb w then
    match translateData t (evictRef t (readInt t (w.extractLsb' 16 5))) with
    | .ok pa => settle (fun u => evictAt u pa) o
    | .error (.stop f) => .fault f
    | .error _ => o
  else o

/-- Run a fetched word on `t`; `pre` is the state before the fetch. A block that the word has brought into the caches may have another
one leave them. -/
def runWord (pre : State) (w : BitVec 32) (t : State) : Out :=
  match execWord w t with
  | .ok o =>
    match restriction t w with
    | some r => .refused r
    | none => settle (fun u => account pre (some w) (makeRoom u)) (evictAfter w t o)
  | .error .opcdec => .next (account pre (some w) (opcdecTrap t))
  | .error (.unlisted op) => .refused (.unlistedFunction op)

/-- Fetch and run. -/
def runFetched (s : State) : Out :=
  match fetch s with
  | .word w t => runWord s w (beginInstr t)
  | .trap t => .next (account s none t)
  | .stop f => .fault f

/-- A step of the core (R838): sleep, machine check, interrupt, then an instruction. A machine check goes before an interrupt (log 8). -/
def coreStep (s : State) : Out :=
  if s.asleep then .next (if isum s != 0 then wakeUp s else s)
  else if mchkPending s then .next (account s none (takeMachineCheck s))
  else if interruptPending s then .next (account s none (takeInterrupt s))
  else runFetched s

/-- A step: the next event of the schedule, or a step of the core. -/
def runStep (s : State) : Out :=
  match s.env with
  | [] => coreStep s
  | .run :: rest => coreStep { s with env := rest }
  | e :: rest => .next (deliver e { s with env := rest })

end Sys2Proof.Machine
end

