-- ==== Sys2Proof/Safety.lean ====
section
/-! DEFINITION. The terms of the claims: a sound state, the shape that every step keeps, and the words in which a claim says what an
instruction changes and that it changes nothing else. -/

namespace Sys2Proof.Machine

/-- A stored register holds ones only where `mask` has them (its reserved bits read as zero). -/
def within (mask v : Word) : Bool := v &&& ~~~mask == 0

/-- The invariant of the machine: memory is in canonical form, each TB has its 128 entries (R43), the pc is aligned (R36), and the
bits that no rule implements are zero in the FPCR (R40), IER_CM (R105), SIRR (R106), PAL_BASE (R115), I_CTL (R118), VA_CTL (R88), M_CTL
(R170), DC_CTL without F_HIT (R171), DC_STAT (R172), I_STAT (R120), PCTX (R128), PMPC (R100) and EXC_ADDR (R101); a cache set stays
enabled (A16); no two Icache blocks stand in one place of the two-way cache (R18); no block of memory has two states in the data caches, and what
main memory holds below a written one is eight quadwords (R272). -/
structure Sound (s : State) : Prop where
  mem : s.mem.wf = true
  itb : s.itb.length = 128
  dtb0 : s.dtb0.length = 128
  dtb1 : s.dtb1.length = 128
  pc : within (~~~3) s.pc = true
  fpcr : within 0xFFFF000000000000 s.fpcr = true
  ierCm : within 0x0000007FFFFFE018 s.ierCm = true
  sirr : within 0x1FFFC000 s.sirr = true
  palBase : within 0x00000FFFFFFF8000 s.palBase = true
  iCtl : within iCtlMask s.iCtl = true
  vaCtl : within 0xFFFFFFFFC0000007 s.vaCtl = true
  mCtl : within 0x3E s.mCtl = true
  dcCtl : within 0xF3 s.dcCtl = true
  dcStat : within 0x1F s.dcStat = true
  iStat : within 0x000001FFE0000000 s.iStat = true
  pctx : within 0x00007F8000001FE6 s.pctx = true
  pmpc : within (~~~2) s.pmpc = true
  excAddr : within (~~~2) s.excAddr = true
  icache : s.icache.Pairwise fun b c => samePlace b c = false
  cached : s.cached.Pairwise fun b c => b.block ≠ c.block
  below : ∀ c ∈ s.cached, ∀ l, c.below = some l → l.length = 8
  icEn : s.iCtl.extractLsb' 1 2 ≠ 0#2
  setEn : s.dcCtl.extractLsb' 0 2 ≠ 0#2

/-! ### What an instruction changes -/

/-- An outcome is a next state, and `P` holds of it. -/
def Completes (o : Out) (P : State → Prop) : Prop := ∃ t, o = .next t ∧ P t

/-- `t` is `s` with the pc at `p`; no other field differs. -/
def OnlyPc (s : State) (p : Word) (t : State) : Prop := t = { s with pc := p }

/-- `t` is `s` after an instruction with the one destination R[r]: R[r] holds `v` (R31 reads zero), every other register number reads
as before, so do the registers that the present mode hides, the pc has advanced by 4, and no other field differs, memory
included. -/
structure WroteInt (s : State) (r : Reg) (v : Word) (t : State) : Prop where
  value : readInt t r = if r = 31 then 0 else v
  others : ∀ q, q ≠ r → readInt t q = readInt s q
  shadow : ∀ i : Fin 8, activeSlot s r ≠ some i → t.shadow[i] = s.shadow[i]
  regs : ∀ i : Fin 31, activeSlot s r ≠ none ∨ i.val ≠ r.toNat → t.intRegs[i] = s.intRegs[i]
  pc : t.pc = s.pc + 4
  frame : { t with intRegs := s.intRegs, shadow := s.shadow, pc := s.pc } = s

/-- The same for the one destination F[r]. -/
structure WroteFp (s : State) (r : Reg) (v : Word) (t : State) : Prop where
  value : readFp t r = if r = 31 then 0 else v
  others : ∀ q, q ≠ r → readFp t q = readFp s q
  pc : t.pc = s.pc + 4
  frame : { t with fpRegs := s.fpRegs, pc := s.pc } = s

/-- Reading `n` bytes at a physical address of `s` gives `v`, and leaves `t`: the bytes of memory, the lowest address least significant
(R221, R223); ones where the address is absent (R248); in I/O space some value of the platform's, the reference at the head of the
trace (R230). -/
structure Gets (s : State) (pa : PhysAddr) (n : Nat) (v : Word) (t : State) : Prop where
  high : ∀ i, n ≤ i → i < 8 → byteOf v i = 0
  absentOnes : absent s pa = true → ∀ i, i < n → byteOf v i = 0xFF
  memory : inIoSpace pa = false → absent s pa = false → ∀ i, i < n → byteOf v i = s.mem.readByte (pa.toNat + i)
  after : t = if inIoSpace pa then { s with ioTrace := .read pa n :: s.ioTrace, free := t.free } else s

/-- `t` is `s` after the low `n` bytes of `v` are put at a physical address: in memory that exists, byte i at `pa + i` (in
initialisation mode, some bytes) and every other byte of memory as before; nothing where the address is absent; in I/O space the
reference at the head of the trace and no byte of memory. The block of memory is Dirty then, over what main memory held below it (in
initialisation mode, Clean). No other field differs. -/
structure Puts (s : State) (pa : PhysAddr) (n : Nat) (v : Word) (t : State) : Prop where
  bytes : inIoSpace pa = false → absent s pa = false → initMode s = false →
    ∀ i, i < n → t.mem.readByte (pa.toNat + i) = byteOf v i
  others : ∀ b, b < pa.toNat ∨ pa.toNat + n ≤ b ∨ inIoSpace pa = true ∨ absent s pa = true →
    t.mem.readByte b = s.mem.readByte b
  trace : t.ioTrace =
    if inIoSpace pa then .write pa n (BitVec.ofNat 64 (v.toNat % 2 ^ (8 * n))) :: s.ioTrace else s.ioTrace
  free : initMode s = false → t.free = s.free
  cached : t.cached = if inIoSpace pa || absent s pa then s.cached else dirtied s (pa.extractLsb' 6 38)
  frame : { t with mem := s.mem, ioTrace := s.ioTrace, free := s.free, cached := s.cached } = s

/-- `t` is `s` after the entry `e` at an offset from PAL_BASE: EXC_ADDR holds `saved`, PALmode is on, the pc is at the entry, and
beside EXC_SUM (and the model's own bookkeeping) no other field differs: no register, no byte of memory, not the mode in IER_CM. -/
structure Entered (s : State) (e : Entry) (offset saved : Word) (t : State) : Prop where
  excAddr : t.excAddr = saved
  palMode : t.palMode = true
  pc : t.pc = (s.palBase &&& 0x00000FFFFFFF8000) + offset
  entry : t.trap = some e
  frame : { t with excAddr := s.excAddr, excSum := s.excSum, palMode := s.palMode, pc := s.pc, trap := s.trap,
                   viaJump := s.viaJump, waiting := s.waiting, blocks := s.blocks, free := s.free } = s

/-- `t` is `s` after a Dstream fault of the reference `r`: VA holds its effective address, MM_STAT the value `mm`, EXC_SUM[REG] its
register, and the rest is the entry. -/
structure Faulted (s : State) (r : DataRef) (e : Entry) (offset mm : Word) (t : State) : Prop where
  entered : Entered { s with va := r.ea, mmStat := mm } e offset (faultPc s) t
  reg : t.excSum.reg = r.reg

/-- MM_STAT of a reference: OPCODE in bits [9:4], then fault on write, fault on read, access violation, write. -/
def mmWord (opcode : Nat) (fow fr acv wr : Bool) : Word :=
  BitVec.ofNat 64 (16 * opcode + 8 * fow.toNat + 4 * fr.toNat + 2 * acv.toNat + wr.toNat)

/-- The byte offset of a byte-manipulation instruction (R520). -/
def offsetOf (s : State) (b : Word) : Nat := if bigEndian s then 7 - b.toNat % 8 else b.toNat % 8

/-! ### Encodings, as the rules of the instructions give them -/

/-- An Opr instruction's opcode and seven-bit function code (R333). -/
def OprCode (i : Instr) (op fn : Nat) : Prop :=
  ((encode i).extractLsb' 26 6).toNat = op ∧ ((encode i).extractLsb' 5 7).toNat = fn

/-- An F-P instruction's opcode and eleven-bit function code (R334). -/
def FpCode (i : Instr) (op fn : Nat) : Prop :=
  ((encode i).extractLsb' 26 6).toNat = op ∧ ((encode i).extractLsb' 5 11).toNat = fn

/-- The opcode of an instruction in any format (R330). -/
def Opcode (i : Instr) (op : Nat) : Prop := ((encode i).extractLsb' 26 6).toNat = op

/-- The opcode, and the sixteen low bits that select a miscellaneous instruction (R331). -/
def MiscCode (i : Instr) (fn : Nat) : Prop :=
  ((encode i).extractLsb' 26 6).toNat = 0x18 ∧ ((encode i).extractLsb' 0 16).toNat = fn

/-! ### Translation -/

/-- A TB entry matches an address under an ASN: valid, its ASN or ASM, and the virtual page numbers VA[47:13] equal but for the low
3 * GH bits (R304). -/
abbrev EntryMatches (e : TbEntry) (asn : BitVec 8) (va : Word) : Prop :=
  e.valid = true ∧ (e.asm = true ∨ e.asn = asn) ∧
    e.tag.toNat / 2 ^ (3 * e.gh.toNat) = va.toNat / 2 ^ 13 % 2 ^ 35 / 2 ^ (3 * e.gh.toNat)

/-- The reference has the physical address `pa`, and no armed parity error shows. -/
def Reaches (s : State) (r : DataRef) (pa : PhysAddr) : Prop := translateData s r = .ok pa ∧ tagParity s = false

/-! ### Numbers and rounding (R600, R604, R607, R609) -/

/-- The number of a T (or S) register image that is a zero or a normal number. -/
def ieeeNumber (v : Word) : ℚ :=
  if ieeeClass v = .zero then 0
  else (if v.getLsbD 63 then -1 else 1) * (2 ^ 52 + (v.extractLsb' 0 52).toNat) * 2 ^ ((v.extractLsb' 52 11).toNat - 1075 : ℤ)

/-- The place of an image that is no NaN and no denormal among the ordered numbers and the two infinities. -/
def ieeeOrder (v : Word) : WithBot (WithTop ℚ) :=
  if ieeeClass v = .inf then (if v.getLsbD 63 then ⊥ else ((⊤ : WithTop ℚ) : WithBot (WithTop ℚ)))
  else ((ieeeNumber v : WithTop ℚ) : WithBot (WithTop ℚ))

/-- The number of a G (or F) register image: 0.1f with excess 1024, and true zero. -/
def vaxNumber (v : Word) : ℚ :=
  if v = 0 then 0
  else (if v.getLsbD 63 then -1 else 1) * (2 ^ 52 + (v.extractLsb' 0 52).toNat) * 2 ^ ((v.extractLsb' 52 11).toNat - 1077 : ℤ)

/-- The number of a D register image: 0.1f with excess 128. -/
def vaxNumberD (v : Word) : ℚ :=
  if v = 0 then 0
  else (if v.getLsbD 63 then -1 else 1) * (2 ^ 55 + (v.extractLsb' 0 55).toNat) * 2 ^ ((v.extractLsb' 55 8).toNat - 184 : ℤ)

/-- A number of at most `p` significant bits, its exponent unbounded. -/
def HasBits (p : Nat) (y : ℝ) : Prop := ∃ n e : ℤ, |n| < 2 ^ p ∧ y = n * 2 ^ e

/-- `y` is `x` rounded to `p` significant bits. A tie goes to the neighbour whose last bit is zero, or away from zero. -/
def RoundsTo (p : Nat) (m : Rounding) (x y : ℝ) : Prop :=
  HasBits p y ∧
    match m with
    | .chopped => 0 ≤ x * y ∧ |y| ≤ |x| ∧ ∀ z, HasBits p z → |z| ≤ |x| → |z| ≤ |y|
    | .minus => y ≤ x ∧ ∀ z, HasBits p z → z ≤ x → z ≤ y
    | .plus => x ≤ y ∧ ∀ z, HasBits p z → x ≤ z → y ≤ z
    | .nearestEven =>
      (∀ z, HasBits p z → |x - y| ≤ |x - z|) ∧ ∀ z, HasBits p z → |x - z| = |x - y| → z ≠ y → HasBits (p - 1) y
    | .nearestAway => ∀ z, HasBits p z → |x - y| ≤ |x - z| ∧ (|x - z| = |x - y| → |z| ≤ |y|)

/-- `i` is `x` rounded to an integer. -/
def RoundsToInt (m : Rounding) (x : ℝ) (i : ℤ) : Prop :=
  match m with
  | .chopped => 0 ≤ x * i ∧ |(i : ℝ)| ≤ |x| ∧ |x| < |(i : ℝ)| + 1
  | .minus => i = ⌊x⌋
  | .plus => i = ⌈x⌉
  | .nearestEven => |x - i| ≤ 1 / 2 ∧ (|x - i| = 1 / 2 → Even i)
  | .nearestAway => |x - i| ≤ 1 / 2 ∧ (|x - i| = 1 / 2 → |x| ≤ |(i : ℝ)|)

/-- What an IEEE instruction delivers for the exact nonzero result `x` in format `m`: the rounded number; on overflow an infinity or
the largest number, by the mode and the sign; on underflow +0; with OVF, UNF and INE detected (R607 (a), (b)). -/
def DeliversIeee (m : FpFormat) (mode : Rounding) (x : ℝ) (r : FpResult) : Prop :=
  ∃ y : ℝ, RoundsTo (fpPrec m) mode x y ∧
    if (2 : ℝ) ^ (fpMaxExp m + 1) ≤ |y| then
      r.conds = { noConds with ovf := true, ine := true } ∧
        r.value = some
          (if mode = .chopped ∨ (mode = .minus ∧ 0 < x) ∨ (mode = .plus ∧ x < 0) then signedMax m (decide (x < 0))
           else signedInf (decide (x < 0)))
    else if |y| < (2 : ℝ) ^ fpMinExp m then r = { value := some 0, conds := { noConds with unf := true, ine := true } }
    else
      ∃ v b, r = { value := some v, conds := { noConds with ine := b } } ∧ (b = true ↔ y ≠ x) ∧
        ieeeClass v = .finite ∧ (ieeeNumber v : ℝ) = y ∧ (m = .s → isSImage v = true)

/-- What a VAX instruction delivers for the exact nonzero result `x`: the rounded number in the format's layout; on overflow an
UNPREDICTABLE result; on underflow true zero (R609). -/
def DeliversVax (m : FpFormat) (mode : Rounding) (x : ℝ) (r : FpResult) : Prop :=
  ∃ y : ℝ, RoundsTo (fpPrec m) mode x y ∧
    if (2 : ℝ) ^ (fpMaxExp m + 1) ≤ |y| then r = { value := none, conds := { noConds with ovf := true } }
    else if |y| < (2 : ℝ) ^ fpMinExp m then r = { value := some 0, conds := { noConds with unf := true } }
    else ∃ v, r = { value := some v, conds := noConds } ∧ v ≠ 0 ∧
      ((if m = .d then vaxNumberD v else vaxNumber v : ℚ) : ℝ) = y

/-! ### Floating operates -/

/-- What a floating operate with destination `fc`, qualifiers `q` and result `r` answers: FEN where the unit is disabled; nothing but
the advance for F31; otherwise F[fc] takes the result (some value, where the result is UNPREDICTABLE), and ARITH follows if a condition
is reported or has a clear status bit (R606). -/
structure FpOutcome (s : State) (q : TrapQual) (fc : Reg) (r : FpResult) (o : Out) : Prop where
  disabled : fpEnabled s = false → Completes o fun t => Entered s .fen 0x200 (faultPc s) t ∧ t.excSum.reg = fc
  discarded : fpEnabled s = true → fc = 31 → Completes o (OnlyPc s (s.pc + 4))
  plain : fpEnabled s = true → fc ≠ 31 → fpTraps s q r.conds = false →
    Completes o fun t => ∃ v, (∀ x, r.value = some x → v = x) ∧ WroteFp { s with free := t.free } fc v t
  trapped : fpEnabled s = true → fc ≠ 31 → fpTraps s q r.conds = true →
    Completes o fun t => ∃ v, (∀ x, r.value = some x → v = x) ∧
      Entered (writeFp s fc v) .arith 0x600 (trapPc s) t ∧ t.excSum = fpTrapSum s q fc r.conds

/-- The sixteen trap and rounding forms of an IEEE instruction, in the order of Table A-6. -/
def ieeeForms : List (TrapQual × RoundField) :=
  [(ieeeNone, .chopped), (ieeeNone, .minus), (ieeeNone, .normal), (ieeeNone, .dynamic),
   (ieeeU, .chopped), (ieeeU, .minus), (ieeeU, .normal), (ieeeU, .dynamic),
   (ieeeSu, .chopped), (ieeeSu, .minus), (ieeeSu, .normal), (ieeeSu, .dynamic),
   (ieeeSui, .chopped), (ieeeSui, .minus), (ieeeSui, .normal), (ieeeSui, .dynamic)]

/-- The eight forms of CVTQS and CVTQT. -/
def ieeeFromIntForms : List (TrapQual × RoundField) :=
  [(ieeeNone, .chopped), (ieeeNone, .minus), (ieeeNone, .normal), (ieeeNone, .dynamic),
   (ieeeSui, .chopped), (ieeeSui, .minus), (ieeeSui, .normal), (ieeeSui, .dynamic)]

/-- The function code of a trap and rounding form: `trp` in bits [10:8] and `rnd` in bits [7:6] (R602), over the six bits of `src`
and `fnc`. -/
def formCode (f : TrapQual × RoundField) (low : Nat) : Nat :=
  256 * (if f.1.i then 7 else if f.1.s then (if f.1.u then 5 else 4) else if f.1.u then 1 else 0)
    + 64 * (match f.2 with | .chopped => 0 | .minus => 1 | .normal => 2 | .dynamic => 3) + low

/-- The eight trap and rounding forms of a VAX instruction, in the order of Table A-5. -/
def vaxForms : List (TrapQual × RoundField) :=
  [(vaxNone, .chopped), (vaxNone, .normal), (vaxU, .chopped), (vaxU, .normal),
   (vaxS, .chopped), (vaxS, .normal), (vaxSu, .chopped), (vaxSu, .normal)]

end Sys2Proof.Machine
end

