-- ==== Sys2Proof/Certificates/Slice0/Obligations.lean ====
section
/-! DEFINITION. The statements for the provers. Each docstring says which rule of spec/ the statement formalises; the words
`Completes`, `WroteInt`, `WroteFp`, `Gets`, `Puts`, `Entered`, `Faulted` and `FpOutcome` are those of Sys2Proof/Safety.lean. -/

open Sys2Proof Sys2Proof.Machine

/-- Reset leaves the values that Table 7-10 states -/
def Obligations.ResetHoldsTheStatedValues : Prop :=
  State.reset.pc = 0x780 ∧ State.reset.palMode = true ∧ State.reset.lockFlag = false ∧ State.reset.palBase = 0 ∧
    State.reset.iCtl.extractLsb' 1 2 = 3#2 ∧ State.reset.iCtl &&& ~~~6#64 = 0 ∧ State.reset.bistFail = false ∧
    State.reset.pctx.getLsbD 2 = true ∧ State.reset.pctx &&& ~~~4#64 = 0 ∧
    State.reset.vaCtl.extractLsb' 0 3 = 0#3 ∧ State.reset.dtbTag0 = 0 ∧ State.reset.dtbTag1 = 0 ∧
    State.reset.dtbPte0 = 0 ∧ State.reset.dtbPte1 = 0 ∧ State.reset.dtbAsn0 = 0 ∧ State.reset.dtbAsn1 = 0 ∧
    State.reset.mCtl = 0 ∧ State.reset.dcCtl.extractLsb' 0 2 = 3#2 ∧ State.reset.dcCtl.extractLsb' 2 6 = 0#6 ∧
    State.reset.writeMany = 0 ∧ State.reset.itbPtr = 0 ∧ State.reset.dtbPtr = 0 ∧ State.reset.icache = []

/-- The state after reset satisfies the invariant -/
def Obligations.ResetStateIsSound : Prop :=
  Sound State.reset

/-- Every step of the machine keeps the invariant -/
def Obligations.EveryStepKeepsTheStateSound : Prop :=
  ∀ s t : State, Sound s → step s = .next t → Sound t

/-- A step fetches a word, decodes it and runs the instruction it is -/
def Obligations.StepRunsTheDecodedInstruction : Prop :=
  ∀ (s t : State) (rest : List EnvEvent) (w : BitVec 32) (i : Instr),
    (s.env = [] ∧ rest = []) ∨ s.env = .run :: rest →
    let s' := { s with env := rest }
    s'.asleep = false → mchkPending s' = false → interruptPending s' = false →
    fetch s' = .word w t → decode w = .ok i →
    ∀ after : Out → Out, after = evictAfter w (beginInstr t) →
    (restriction (beginInstr t) w = none →
        step s = settle (fun u => account s' (some w) (makeRoom u)) (after (exec i (beginInstr t)))) ∧
      (∀ r, restriction (beginInstr t) w = some r → step s = .refused r) ∧
      ((∀ ra rb, i ≠ .ecb ra rb) → ∀ o, after o = o) ∧
      ∀ ra rb, i = .ecb ra rb → ∀ r : DataRef,
        r = { ea := readInt (beginInstr t) rb, opcode := 0x18, reg := 31, write := false, checkRead := true, checkWrite := false,
              mode := currentMode (beginInstr t), vpte := false } →
        (∀ f, translateData (beginInstr t) r = .error (.stop f) → ∀ o, after o = .fault f) ∧
        (∀ acv fr fw, translateData (beginInstr t) r = .error .miss ∨ translateData (beginInstr t) r = .error (.violation acv fr fw) →
          ∀ o, after o = o) ∧
        ∀ pa, translateData (beginInstr t) r = .ok pa → ∀ u,
          (inIoSpace pa = true → after (.next u) = .next u) ∧
          (inIoSpace pa = false → after (.next u) = .next (evictBlock u (pa.extractLsb' 6 38)))

/-- Between two instructions only the counters and the profile registers move, and CC by the cycles that pass -/
def Obligations.TimeBetweenInstructions : Prop :=
  ∀ (pre s : State) (w : Option (BitVec 32)),
    { account pre w s with
      cc := s.cc, pctr := s.pctr, pc0Req := s.pc0Req, pc1Req := s.pc1Req, pmpc := s.pmpc, iStat := s.iStat,
      pmStopped := s.pmStopped, free := s.free } = s ∧
    (s.ccEna = false → (account pre w s).cc = s.cc) ∧
    (s.ccEna = true → cyclesNow s = Config.freeTime s.free + 1 ∧
      (account pre w s).cc.extractLsb' 32 32 = s.cc.extractLsb' 32 32 ∧
      (account pre w s).cc.toNat % 2 ^ 32 = (s.cc.toNat + cyclesNow s) % 2 ^ 32)

/-- A deliverable machine check or interrupt is taken instead of the next instruction -/
def Obligations.InterruptsAndMachineChecksAreTakenBeforeTheFetch : Prop :=
  (∀ (s : State) (rest : List EnvEvent), (s.env = [] ∧ rest = []) ∨ s.env = .run :: rest →
      let s' := { s with env := rest }
      s.asleep = false → s.palMode = false →
      (s.mchkDReq = true ∨ s.mchkIReq = true →
        ∃ u, step s = .next (account s' none u) ∧ Entered { s' with mchkIReq := false } .mchk 0x500 (faultPc s) u) ∧
      (s.mchkDReq = false → s.mchkIReq = false → isum s ≠ 0 →
        ∃ u, step s = .next (account s' none u) ∧ Entered s' .interrupt 0x680 (faultPc s) u)) ∧
    ∀ s : State, s.palMode = true → mchkPending s = false ∧ interruptPending s = false

/-- ISUM is the AND of every request with its enable -/
def Obligations.IsumCollectsTheEnabledRequests : Prop :=
  ∀ s : State,
    (∀ n, n < 6 → (isum s).getLsbD (33 + n) = (s.irqPins.getLsbD n && s.ierCm.getLsbD (33 + n))) ∧
    (isum s).getLsbD 32 = (s.slReq && s.ierCm.getLsbD 32) ∧ (isum s).getLsbD 31 = (s.crReq && s.ierCm.getLsbD 31) ∧
    (isum s).getLsbD 30 = (s.pc1Req && s.ierCm.getLsbD 30) ∧ (isum s).getLsbD 29 = (s.pc0Req && s.ierCm.getLsbD 29) ∧
    (∀ n, 14 ≤ n → n ≤ 28 → (isum s).getLsbD n = (s.sirr.getLsbD n && s.ierCm.getLsbD n)) ∧
    (∀ p ∈ [(0, 3), (1, 4), (2, 9), (3, 10)],
      (isum s).getLsbD p.2 =
        (s.pctx.getLsbD (9 + p.1) && s.pctx.getLsbD (5 + p.1) && s.ierCm.getLsbD 13 && decide (p.1 ≤ (currentMode s).toNat))) ∧
    ∀ n, n ∉ [3, 4, 9, 10] → (n < 14 ∨ 38 < n) → (isum s).getLsbD n = false

/-- A fetch reads the Icache block that hits, else the longword at the translated address, and fills its block -/
def Obligations.FetchReadsTheIcacheThenMemory : Prop :=
  ∀ s : State, s.palMode = true ∨ s.itbInit = true → signOk (s.iCtl.getLsbD 15) s.pc = true →
    (∀ b, s.icache.find? (icacheHits s s.pc) = some b → s.palMode = true ∨ b.re.getLsbD (currentMode s).toNat = true →
      fetch s = .word (b.words.getD (s.pc.extractLsb' 2 4).toNat 0) s) ∧
    (s.icache.find? (icacheHits s s.pc) = none → ∀ (pa : PhysAddr) (asm : Bool) (re : BitVec 4),
      s.palMode = true ∧ pa = s.pc.setWidth 44 ∧ asm = true ∧ re = 0xF ∨
        s.palMode = false ∧ currentMode s = 0 ∧ superpage (s.iCtl.extractLsb' 3 3) s.pc = some pa ∧ asm = true ∧ re = 1 ∨
        s.palMode = false ∧ superpage (s.iCtl.extractLsb' 3 3) s.pc = none ∧
          (∃ e, s.itb.filter (fun e => tbHits e (currentAsn s) s.pc) = [e] ∧ e.re.getLsbD (currentMode s).toNat = true ∧
            pa = tbPhys e s.pc ∧ asm = e.asm ∧ re = e.re) →
      inIoSpace pa = false → ∀ byte : Nat → Byte, (∀ a, byte a = if absent s pa then 0xFF else s.mem.readByte a) →
      ∃ w t b, fetch s = .word w t ∧ (∀ i, i < 4 → w.extractLsb' (8 * i) 8 = byte ((pa &&& ~~~3#44).toNat + i)) ∧
        { t with icache := s.icache, free := s.free } = s ∧ t.icache.find? (icacheHits t t.pc) = some b ∧
        b.tag = s.pc.extractLsb' 6 42 ∧ b.pal = s.palMode ∧ b.asn = s.pctx.extractLsb' 39 8 ∧ b.asm = asm ∧ b.re = re ∧
        (∀ k i, k < 16 → i < 4 → (b.words.getD k 0).extractLsb' (8 * i) 8 = byte ((pa &&& ~~~63#44).toNat + (4 * k + i))) ∧
        (s.iCtl.extractLsb' 1 2 ≠ 0#2 → s.iCtl.getLsbD (if b.way then 2 else 1) = true) ∧
        (∀ c ∈ t.icache, c = b ∨ c ∈ s.icache) ∧
        ∀ c ∈ s.icache, c.way ≠ b.way ∨ c.tag.setWidth 9 ≠ b.tag.setWidth 9 → c ∈ t.icache)

/-- ITB_MISS and the forms of IACV -/
def Obligations.FetchFaults : Prop :=
  (∀ s : State, s.palMode = false → s.itbInit = true → signOk (s.iCtl.getLsbD 15) s.pc = true →
      (∀ b, s.icache.find? (icacheHits s s.pc) = some b → b.re.getLsbD (currentMode s).toNat = false →
        ∃ u, fetch s = .trap u ∧ Entered s .iacv 0x480 (faultPc s) u ∧ u.excSum.badIva = false ∧ u.excSum.pcOvfl = false) ∧
      (s.icache.find? (icacheHits s s.pc) = none → ∀ pa, superpage (s.iCtl.extractLsb' 3 3) s.pc = some pa → currentMode s ≠ 0 →
        ∃ u, fetch s = .trap u ∧ Entered s .iacv 0x480 (faultPc s) u ∧ u.excSum.badIva = false ∧ u.excSum.pcOvfl = false) ∧
      (s.icache.find? (icacheHits s s.pc) = none → superpage (s.iCtl.extractLsb' 3 3) s.pc = none →
        (s.itb.filter (fun e => tbHits e (currentAsn s) s.pc) = [] →
          ∃ u, fetch s = .trap u ∧ Entered s .itbMiss 0x580 (faultPc s) u) ∧
        (∀ e, s.itb.filter (fun e => tbHits e (currentAsn s) s.pc) = [e] → e.re.getLsbD (currentMode s).toNat = false →
          ∃ u, fetch s = .trap u ∧ Entered s .iacv 0x480 (faultPc s) u ∧ u.excSum.badIva = false ∧ u.excSum.pcOvfl = false))) ∧
    (∀ s : State, signOk (s.iCtl.getLsbD 15) s.pc = false → s.viaJump = false →
      ∃ u, fetch s = .trap u ∧ Entered s .iacv 0x480 (faultPc s) u ∧ u.excSum.badIva = false ∧ u.excSum.pcOvfl = true) ∧
    ∀ s : State, signOk (s.iCtl.getLsbD 15) s.pc = false → s.viaJump = true →
      ∃ u va ea, fetch s = .trap u ∧ Entered { s with va := va } .iacv 0x480 ea u ∧
        u.excSum.badIva = true ∧ u.excSum.pcOvfl = false ∧ va &&& ~~~1#64 = s.pc &&& ~~~1#64 ∧
        ea.getLsbD 0 = s.palMode ∧ ea.getLsbD 1 = false

/-- The fetch blocks that PALcode may not hold stop the step by name -/
def Obligations.RestrictedFetchBlocks : Prop :=
  (∀ (i : Instr) (op fn : Nat), op = ((encode i).extractLsb' 26 6).toNat → fn = ((encode i).extractLsb' 5 11).toNat →
      (isFpRestricted (encode i) = true ↔
        op ∈ [0x15, 0x16, 0x17, 0x24, 0x25, 0x26, 0x27, 0x31, 0x32, 0x33, 0x35, 0x36, 0x37] ∨
        (op = 0x14 ∧ fn ∉ [0x004, 0x014, 0x024]) ∨ (op = 0x1C ∧ fn ∈ [0x070, 0x078])) ∧
      ∀ u : State, (op ∈ [0x01, 0x02, 0x03, 0x04, 0x05, 0x06, 0x07, 0x0A, 0x0C, 0x0D, 0x0E, 0x0F, 0x1A, 0x20, 0x21, 0x22, 0x23, 0x24,
            0x25, 0x26, 0x27, 0x28, 0x29, 0x2A, 0x2B, 0x2C, 0x2D, 0x2E, 0x2F] → isTrappable u (encode i) = true) ∧
        (op ∈ [0x08, 0x09, 0x11, 0x12, 0x18, 0x19, 0x1D, 0x30, 0x34, 0x38, 0x39, 0x3A, 0x3B, 0x3C, 0x3D, 0x3E, 0x3F] →
          isTrappable u (encode i) = false) ∧
        (op = 0x0B → isTrappable u (encode i) = decide ((encode i).extractLsb' 21 5 ≠ 31#5)) ∧
        (op ∈ [0x10, 0x13] → ∀ overflows idle : Prop,
          (overflows ↔ 64 ≤ fn % 128 ∧ (op = 0x13 ∨ fn % 128 ∈ [0x40, 0x49, 0x60, 0x69])) →
          (idle ↔ (encode i).extractLsb' 0 5 = 31#5 ∨
            ((encode i).extractLsb' 21 5 = 31#5 ∧ (encode i).extractLsb' 12 9 = 0b111110000#9)) →
          (isTrappable u (encode i) = true ↔ overflows ∧ ¬idle)) ∧
        (op ∈ [0x14, 0x15, 0x16, 0x17, 0x31, 0x32, 0x33, 0x35, 0x36, 0x37] → (isTrappable u (encode i) = true ↔
          fpEnabled u = false ∨ (op = 0x17 ∧ fn = 0x024 ∧ u.palMode = false) ∨
            ((encode i).extractLsb' 0 5 ≠ 31#5 ∧ ((op = 0x14 ∧ fn ∉ [0x004, 0x014, 0x024]) ∨
              (op = 0x15 ∧ fn ∉ [0x0BC, 0x03C, 0x0BE, 0x03E]) ∨ op = 0x16 ∨
              (op = 0x17 ∧ fn ∈ [0x030, 0x130, 0x530]))))) ∧
        (op = 0x00 → ∀ f, f = ((encode i).extractLsb' 0 26).toNat → (isTrappable u (encode i) = true ↔
          0x40 ≤ f ∧ f ≤ 0x7F ∨ 0xBF < f ∨ (f ≤ 0x3F ∧ currentMode u ≠ 0))) ∧
        (op = 0x1C → isTrappable u (encode i) = (decide (fn ∈ [0x070, 0x078]) && !fpEnabled u)) ∧
        (op ∈ [0x1B, 0x1F] → isTrappable u (encode i) = decide (2 ≤ ((encode i).extractLsb' 13 3).toNat)) ∧
        (op = 0x1E → isTrappable u (encode i) = !(encode i).getLsbD 13)) ∧
    (∀ (u : State) (w : BitVec 32), decode w = .error .opcdec → isTrappable u w = true) ∧
    ∀ (s t : State) (rest : List EnvEvent) (w : BitVec 32) (i : Instr),
      (s.env = [] ∧ rest = []) ∨ s.env = .run :: rest →
      let s' := { s with env := rest }
      s'.asleep = false → mchkPending s' = false → interruptPending s' = false →
      fetch s' = .word w t → decode w = .ok i →
      ∀ (op : Nat) (here before : List (BitVec 32)), op = (w.extractLsb' 26 6).toNat → here = blockWords (beginInstr t) →
        before = previousWords (beginInstr t) →
        (∀ b, t.icache.find? (icacheHits t t.pc) = some b → here = (b.words.drop (4 * (t.pc.extractLsb' 4 2).toNat)).take 4) ∧
        ∀ (runs : Prop) (at_ : Nat → BitVec 32) (m : Nat), (runs ↔ step s = settle (fun u => account s' (some w) (makeRoom u)) (evictAfter w (beginInstr t) (exec i (beginInstr t)))) →
        (∀ k, at_ k = here.getD k 0) → m = (t.pc.extractLsb' 2 2).toNat →
        (palLegal t = false ∨ (op ∉ [0x1B, 0x1D] ∧ isFpRestricted w = false) → runs) ∧
        (palLegal t = true → op = 0x1B →
          (w.extractLsb' 13 3 = 1#3 ∧ m = 3 → step s = .refused .lockedLoadFourth) ∧ (¬(w.extractLsb' 13 3 = 1#3 ∧ m = 3) → runs)) ∧
        (palLegal t = true → isFpRestricted w = true →
          ((∃ y ∈ here, (y.extractLsb' 26 6).toNat = 0x1D) → step s = .refused .mixedFetchBlock) ∧
          ((∀ y ∈ here, (y.extractLsb' 26 6).toNat ≠ 0x1D) → runs)) ∧
        (palLegal t = true → op = 0x1D →
          ((∃ y ∈ here, isFpRestricted y = true) → step s = .refused .mixedFetchBlock) ∧
          ((∀ y ∈ here, isFpRestricted y = false) → ∀ (excepted beside : Prop),
            (excepted ↔ (∀ k ∈ [0, 1], ((at_ k).extractLsb' 26 6).toNat = 0x13 ∧ ((at_ k).extractLsb' 5 7).toNat = 0x20) ∧
              ((at_ 2).extractLsb' 26 6).toNat = 0x1D ∧ ((at_ 2).extractLsb' 8 8).toNat = 0x27 ∧
              ((at_ 3).extractLsb' 26 6).toNat = 0x1E ∧ (at_ 3).getLsbD 13 = true) →
            (beside ↔ ∃ k, k < 4 ∧
              (isTrappable (beginInstr t) (at_ k) = true ∨
                (k < m ∧ isCondBranch (at_ k) = true ∧ (at_ k).extractLsb' 21 5 ≠ 31#5) ∨
                (m < k ∧ ((at_ k).extractLsb' 26 6).toNat = 0x1E ∧ (at_ k).getLsbD 13 = true ∧
                  0x17 < ((at_ m).extractLsb' 8 8).toNat ∧ (at_ m).extractLsb' 14 2 ≠ 1#2 ∧
                  ∀ j, m < j → j < k → isCondBranch (at_ j) = false))) →
            ((∃ y ∈ before, isTrappable (beginInstr t) y = true) ∨ (¬excepted ∧ beside) → step s = .refused .trappableWithMtpr) ∧
            (¬((∃ y ∈ before, isTrappable (beginInstr t) y = true) ∨ (¬excepted ∧ beside)) → runs)))

/-- Decoding the word of any instruction gives the instruction back -/
def Obligations.DecodeInvertsEncode : Prop :=
  ∀ i : Instr, decode (encode i) = .ok i ∧ decodeTableWord 32 (encode i).toNat = some i

/-- Encoding a decoded word gives the word back, but for the three ignored bits of the register form -/
def Obligations.EncodeInvertsDecode : Prop :=
  ∀ (w : BitVec 32) (i : Instr), decode w = .ok i →
    encode i =
      if ((w.extractLsb' 26 6).toNat ∈ [0x10, 0x11, 0x12, 0x13] ∨
          ((w.extractLsb' 26 6).toNat = 0x1C ∧ (w.extractLsb' 5 7).toNat ∉ [0x70, 0x78])) ∧ w.getLsbD 12 = false
      then w &&& ~~~0xE000#32 else w

/-- Words written in the spec's rules decode to the instructions they stand for -/
def Obligations.WordsOfTheSpecDecode : Prop :=
  ∀ p ∈ ([(0x00000083, .callPal 0x83), (0x20220010, .lda 1 2 0x10), (0x249F8000, .ldah 4 31 0x8000),
      (0xA0220004, .ldl 1 2 4), (0x2C220005, .ldqU 1 2 5), (0xB8220000, .stlC 1 2 0), (0x88220008, .lds 1 2 8),
      (0x9C220008, .stt 1 2 8), (0xC3E00003, .br 31 3), (0xE4200004, .beq 1 4), (0xDC200004, .fbgt 1 4),
      (0x6B5B4000, .jsr 26 27 0), (0x6BFA8001, .ret 31 26 1), (0x40220003, .addl 1 (.reg 2) 3),
      (0x4020B003, .addl 1 (.lit 5) 3), (0x4C220C03, .mulqV 1 (.reg 2) 3), (0x47FF041F, .bis 31 (.reg 31) 31),
      (0x47E03D83, .implver 31 (.lit 1) 3), (0x48069720, .sll 0 (.lit 52) 0), (0x482070C3, .extbl 1 (.lit 3) 3),
      (0x73F01003, .sextb 31 (.lit 0x80) 3), (0x70220703, .minsb8 1 (.reg 2) 3), (0x703F0E03, .ftoit 1 31 3),
      (0x501F0480, .itoft 0 31 0), (0x53E21563, .sqrtt 31 2 3), (0x58221463, .divt 1 2 3), (0x5BE205E3, .cvttqC 31 2 3),
      (0x54221003, .addf 1 2 3), (0x5C220403, .cpys 1 2 3), (0x6020C000, .rpcc 1 0), (0x6002F800, .wh64 0 2),
      (0x64DF1110, .hwMfpr 6 31 0x11 0x10), (0x77E1C120, .hwMtpr 31 1 0xC1 0x20), (0x6C845000, .hwLd 4 4 2 1 0),
      (0x7C221008, .hwSt 1 2 0 1 8), (0x7BF78000, .hwRet 31 23 2 0 0)] : List (BitVec 32 × Instr)),
    decode p.1 = .ok p.2

/-- Which words are no instruction, and what a fetched one does: OPCDEC, or a stop by name -/
def Obligations.WordsThatAreNotInstructions : Prop :=
  (∀ w : BitVec 32, decode w = .error .opcdec ↔
      ((w.extractLsb' 26 6).toNat = 0x14 ∧ (w.extractLsb' 5 11).toNat ∉
        [0x004, 0x00A, 0x00B, 0x014, 0x024, 0x02A, 0x02B, 0x04B, 0x06B, 0x08A, 0x08B, 0x0AA, 0x0AB, 0x0CB, 0x0EB,
          0x10A, 0x10B, 0x12A, 0x12B, 0x14B, 0x16B, 0x18A, 0x18B, 0x1AA, 0x1AB, 0x1CB, 0x1EB, 0x40A, 0x42A, 0x48A,
          0x4AA, 0x50A, 0x50B, 0x52A, 0x52B, 0x54B, 0x56B, 0x58A, 0x58B, 0x5AA, 0x5AB, 0x5CB, 0x5EB, 0x70B, 0x72B,
          0x74B, 0x76B, 0x78B, 0x7AB, 0x7CB, 0x7EB]) ∨
      ((w.extractLsb' 26 6).toNat = 0x16 ∧ (w.extractLsb' 9 2).toNat = 1) ∨
      ((w.extractLsb' 26 6).toNat = 0x1C ∧ (w.extractLsb' 5 7).toNat ∉
        [0x00, 0x01, 0x30, 0x31, 0x32, 0x33, 0x34, 0x35, 0x36, 0x37, 0x38, 0x39, 0x3A, 0x3B, 0x3C, 0x3D, 0x3E, 0x3F] ∧
        (w.extractLsb' 5 11).toNat ∉ [0x070, 0x078])) ∧
    (∀ (w : BitVec 32) (op : BitVec 6), decode w = .error (.unlisted op) →
      op = w.extractLsb' 26 6 ∧ op.toNat ∈ [0x10, 0x11, 0x12, 0x13, 0x15, 0x16, 0x17, 0x18]) ∧
    ∀ (s t : State) (rest : List EnvEvent) (w : BitVec 32),
      (s.env = [] ∧ rest = []) ∨ s.env = .run :: rest →
      let s' := { s with env := rest }
      s'.asleep = false → mchkPending s' = false → interruptPending s' = false → fetch s' = .word w t →
      (decode w = .error .opcdec →
        ∃ u, step s = .next (account s' (some w) u) ∧ Entered (beginInstr t) .opcdec 0x400 (faultPc t) u) ∧
      ∀ op, decode w = .error (.unlisted op) → step s = .refused (.unlistedFunction op)

/-- OPC01 to OPC07 always, and the five PAL-reserved opcodes where they are not legal, take OPCDEC -/
def Obligations.ReservedAndPrivilegedOpcodesTakeOpcdec : Prop :=
  (∀ p ∈ ([(.opc01, 1), (.opc02, 2), (.opc03, 3), (.opc04, 4), (.opc05, 5), (.opc06, 6), (.opc07, 7)]
        : List ((BitVec 26 → Instr) × Nat)),
      ∀ rest s, Opcode (p.1 rest) p.2 ∧ Completes (exec (p.1 rest) s) (Entered s .opcdec 0x400 (faultPc s))) ∧
    ∀ (s : State) (i : Instr), s.palMode = false → (s.iCtl.getLsbD 12 = false ∨ currentMode s ≠ 0) →
      (encode i).extractLsb' 26 6 ∈ [0x19#6, 0x1B#6, 0x1D#6, 0x1E#6, 0x1F#6] →
      Completes (exec i s) (Entered s .opcdec 0x400 (faultPc s))

/-- R31 and F31 read zero and discard writes; in PALmode with SDE[1] set, R4 to R7 and R20 to R23 name the shadow registers -/
def Obligations.RegisterNumbers : Prop :=
  ∀ (s : State) (r : Reg),
    (readInt s 31 = 0 ∧ readFp s 31 = 0 ∧ ∀ v, writeInt s 31 v = s ∧ writeFp s 31 v = s) ∧
    (s.palMode = true → s.iCtl.getLsbD 7 = true → ∀ k : Fin 8, r.toNat = (if k.val < 4 then 4 + k.val else 16 + k.val) →
      readInt s r = s.shadow[k] ∧ ∀ v, writeInt s r v = { s with shadow := s.shadow.set k v }) ∧
    ((s.palMode && s.iCtl.getLsbD 7) = false ∨ r.toNat ∉ [4, 5, 6, 7, 20, 21, 22, 23] → ∀ k : Fin 31, r.toNat = k.val →
      readInt s r = s.intRegs[k] ∧ ∀ v, writeInt s r v = { s with intRegs := s.intRegs.set k v }) ∧
    ∀ k : Fin 31, r.toNat = k.val →
      readFp s r = s.fpRegs[k] ∧ ∀ v, writeFp s r v = { s with fpRegs := s.fpRegs.set k v }

/-- The second operand is a register or a zero-extended literal; displacements are signed -/
def Obligations.OperandFormsAndAddresses : Prop :=
  ∀ (s : State) (r : Reg) (v : BitVec 8) (d : BitVec 16) (h : BitVec 12) (b : BitVec 21),
    operandValue s (.reg r) = readInt s r ∧ (operandValue s (.lit v)).toNat = v.toNat ∧
    effAddr s r d = BitVec.ofInt 64 ((readInt s r).toInt + d.toInt) ∧
    hwEffAddr s r h = BitVec.ofInt 64 ((readInt s r).toInt + h.toInt) ∧
    branchTarget s b = BitVec.ofInt 64 (s.pc.toInt + 4 + 4 * b.toInt)

/-- ADDx, SUBx and their scaled forms: the sum modulo 2^64, or its low 32 bits sign-extended -/
def Obligations.AddAndSubtract : Prop :=
  (∀ p ∈ ([(.addq, 0x20, fun a b => a + b), (.s4addq, 0x22, fun a b => 4 * a + b), (.s8addq, 0x32, fun a b => 8 * a + b),
      (.subq, 0x29, fun a b => a - b), (.s4subq, 0x2B, fun a b => 4 * a - b), (.s8subq, 0x3B, fun a b => 8 * a - b)]
      : List ((Reg → Operand → Reg → Instr) × Nat × (Int → Int → Int))),
    ∀ ra rb rc s, OprCode (p.1 ra rb rc) 0x10 p.2.1 ∧
      Completes (exec (p.1 ra rb rc) s)
        (WroteInt s rc (BitVec.ofInt 64 (p.2.2 (readInt s ra).toInt (operandValue s rb).toInt)))) ∧
    ∀ p ∈ ([(.addl, 0x00, fun a b => a + b), (.s4addl, 0x02, fun a b => 4 * a + b), (.s8addl, 0x12, fun a b => 8 * a + b),
      (.subl, 0x09, fun a b => a - b), (.s4subl, 0x0B, fun a b => 4 * a - b), (.s8subl, 0x1B, fun a b => 8 * a - b)]
      : List ((Reg → Operand → Reg → Instr) × Nat × (Int → Int → Int))),
    ∀ ra rb rc s, OprCode (p.1 ra rb rc) 0x10 p.2.1 ∧
      Completes (exec (p.1 ra rb rc) s)
        (WroteInt s rc ((BitVec.ofInt 32 (p.2.2 (readInt s ra).toInt (operandValue s rb).toInt)).signExtend 64))

/-- The five quadword compares write 1 or 0, CMPBGE one bit a byte; MULL, MULQ and UMULH the product -/
def Obligations.ComparesAndMultiplies : Prop :=
  ((∀ p ∈ ([(.cmpeq, 0x2D, fun a b => decide (a = b)), (.cmplt, 0x4D, fun a b => decide (a.toInt < b.toInt)),
        (.cmple, 0x6D, fun a b => decide (a.toInt ≤ b.toInt)), (.cmpult, 0x1D, fun a b => decide (a.toNat < b.toNat)),
        (.cmpule, 0x3D, fun a b => decide (a.toNat ≤ b.toNat))] : List ((Reg → Operand → Reg → Instr) × Nat × (Word → Word → Bool))),
      ∀ ra rb rc s, OprCode (p.1 ra rb rc) 0x10 p.2.1 ∧
        Completes (exec (p.1 ra rb rc) s)
          (WroteInt s rc (if p.2.2 (readInt s ra) (operandValue s rb) then 1 else 0))) ∧
      ∀ ra rb rc s, OprCode (.cmpbge ra rb rc) 0x10 0x0F ∧
        Completes (exec (.cmpbge ra rb rc) s) fun t => ∃ v, WroteInt s rc v t ∧ (∀ i, 8 ≤ i → v.getLsbD i = false) ∧
          ∀ i, i < 8 → v.getLsbD i = decide ((byteOf (operandValue s rb) i).toNat ≤ (byteOf (readInt s ra) i).toNat)) ∧
    (∀ p ∈ ([(.mull, 0x00, fun a b => (BitVec.ofInt 32 (a.toInt * b.toInt)).signExtend 64),
        (.mulq, 0x20, fun a b => BitVec.ofInt 64 (a.toInt * b.toInt)),
        (.umulh, 0x30, fun a b => BitVec.ofNat 64 (a.toNat * b.toNat / 2 ^ 64))] : List ((Reg → Operand → Reg → Instr) × Nat × (Word → Word → Word))),
      ∀ ra rb rc s, OprCode (p.1 ra rb rc) 0x13 p.2.1 ∧
        Completes (exec (p.1 ra rb rc) s) (WroteInt s rc (p.2.2 (readInt s ra) (operandValue s rb))))

/-- The six /V forms write the truncated result, and trap to ARITH exactly when it does not fit -/
def Obligations.OverflowFormsWriteThenTrap : Prop :=
  ∀ p ∈ ([(.addlV, 0x10, 0x40, 32, fun a b => a + b), (.sublV, 0x10, 0x49, 32, fun a b => a - b),
      (.mullV, 0x13, 0x40, 32, fun a b => a * b), (.addqV, 0x10, 0x60, 64, fun a b => a + b),
      (.subqV, 0x10, 0x69, 64, fun a b => a - b), (.mulqV, 0x13, 0x60, 64, fun a b => a * b)]
      : List ((Reg → Operand → Reg → Instr) × Nat × Nat × Nat × (Int → Int → Int))),
    ∀ ra rb rc s, OprCode (p.1 ra rb rc) p.2.1 p.2.2.1 ∧
      ∀ (w : Nat) (x : Int), w = p.2.2.2.1 →
        x = p.2.2.2.2 ((readInt s ra).setWidth w).toInt ((operandValue s rb).setWidth w).toInt →
        (rc = 31 ∨ (-2 ^ (w - 1) ≤ x ∧ x < 2 ^ (w - 1)) →
          Completes (exec (p.1 ra rb rc) s) (WroteInt s rc ((BitVec.ofInt w x).signExtend 64))) ∧
        (rc ≠ 31 → ¬(-2 ^ (w - 1) ≤ x ∧ x < 2 ^ (w - 1)) →
          Completes (exec (p.1 ra rb rc) s) fun t =>
            Entered (writeInt s rc ((BitVec.ofInt w x).signExtend 64)) .arith 0x600 (trapPc s) t ∧
            t.excSum = { excSumOf 0 with int := true, iov := true, reg := rc, setIov := !s.fpcr.getLsbD 57 })

/-- AND, BIC, BIS, ORNOT, XOR, EQV bit by bit; SLL, SRL, SRA by Rbv[5:0]; AMASK clears 0x307; IMPLVER is 2 -/
def Obligations.LogicalOperationsAndShifts : Prop :=
  (∀ p ∈ ([(.and, 0x00, fun a b => a && b), (.bic, 0x08, fun a b => a && !b), (.bis, 0x20, fun a b => a || b),
      (.ornot, 0x28, fun a b => a || !b), (.xor, 0x40, fun a b => a != b), (.eqv, 0x48, fun a b => a == b)]
      : List ((Reg → Operand → Reg → Instr) × Nat × (Bool → Bool → Bool))),
    ∀ ra rb rc s, OprCode (p.1 ra rb rc) 0x11 p.2.1 ∧
      Completes (exec (p.1 ra rb rc) s) fun t => ∃ v, WroteInt s rc v t ∧
        ∀ i, i < 64 → v.getLsbD i = p.2.2 ((readInt s ra).getLsbD i) ((operandValue s rb).getLsbD i)) ∧
    (∀ ra rb rc s, OprCode (.amask ra rb rc) 0x11 0x61 ∧
      Completes (exec (.amask ra rb rc) s) fun t => ∃ v, WroteInt s rc v t ∧
        ∀ i, i < 64 → v.getLsbD i = ((operandValue s rb).getLsbD i && !decide (i ∈ [0, 1, 2, 8, 9]))) ∧
    (∀ ra rb rc s, OprCode (.implver ra rb rc) 0x11 0x6C ∧ Completes (exec (.implver ra rb rc) s) (WroteInt s rc 2)) ∧
    ∀ p ∈ ([(.sll, 0x39, fun a n => BitVec.ofNat 64 (a.toNat * 2 ^ n)), (.srl, 0x34, fun a n => BitVec.ofNat 64 (a.toNat / 2 ^ n)),
      (.sra, 0x3C, fun a n => BitVec.ofInt 64 (a.toInt / 2 ^ n))] : List ((Reg → Operand → Reg → Instr) × Nat × (Word → Nat → Word))),
    ∀ ra rb rc s, OprCode (p.1 ra rb rc) 0x12 p.2.1 ∧
      Completes (exec (p.1 ra rb rc) s) (WroteInt s rc (p.2.2 (readInt s ra) ((operandValue s rb).toNat % 64)))

/-- The eight CMOVx: Rc takes Rbv if the condition on Ra holds, and keeps its value otherwise -/
def Obligations.ConditionalMoves : Prop :=
  ∀ p ∈ ([(.cmovlbs, 0x14, fun a => a.getLsbD 0), (.cmovlbc, 0x16, fun a => !a.getLsbD 0),
      (.cmoveq, 0x24, fun a => decide (a.toInt = 0)), (.cmovne, 0x26, fun a => decide (a.toInt ≠ 0)),
      (.cmovlt, 0x44, fun a => decide (a.toInt < 0)), (.cmovge, 0x46, fun a => decide (0 ≤ a.toInt)),
      (.cmovle, 0x64, fun a => decide (a.toInt ≤ 0)), (.cmovgt, 0x66, fun a => decide (0 < a.toInt))]
      : List ((Reg → Operand → Reg → Instr) × Nat × (Word → Bool))),
    ∀ ra rb rc s, OprCode (p.1 ra rb rc) 0x11 p.2.1 ∧
      Completes (exec (p.1 ra rb rc) s) fun t =>
        if p.2.2 (readInt s ra) then WroteInt s rc (operandValue s rb) t else OnlyPc s (s.pc + 4) t

/-- EXTxL and EXTxH: the bytes of the field that starts at the byte offset -/
def Obligations.ByteExtracts : Prop :=
  (∀ p ∈ ([(.extbl, 0x06, 1), (.extwl, 0x16, 2), (.extll, 0x26, 4), (.extql, 0x36, 8)] : List ((Reg → Operand → Reg → Instr) × Nat × Nat)),
    ∀ ra rb rc s, OprCode (p.1 ra rb rc) 0x12 p.2.1 ∧
      Completes (exec (p.1 ra rb rc) s) fun t => ∃ v, WroteInt s rc v t ∧ ∀ i, i < 8 →
        byteOf v i =
          if i < p.2.2 ∧ offsetOf s (operandValue s rb) + i < 8
          then byteOf (readInt s ra) (offsetOf s (operandValue s rb) + i) else 0) ∧
    ∀ p ∈ ([(.extwh, 0x5A, 2), (.extlh, 0x6A, 4), (.extqh, 0x7A, 8)] : List ((Reg → Operand → Reg → Instr) × Nat × Nat)),
    ∀ ra rb rc s, OprCode (p.1 ra rb rc) 0x12 p.2.1 ∧
      Completes (exec (p.1 ra rb rc) s) fun t => ∃ v, WroteInt s rc v t ∧ ∀ i, i < 8 →
        byteOf v i =
          if i < p.2.2 ∧ (offsetOf s (operandValue s rb) = 0 ∨ 8 ≤ offsetOf s (operandValue s rb) + i)
          then byteOf (readInt s ra) ((offsetOf s (operandValue s rb) + i) % 8) else 0

/-- INSxL and INSxH: the low bytes of Ra at the byte offset of a double quadword -/
def Obligations.ByteInserts : Prop :=
  ∀ p ∈ ([(.insbl, 0x0B, 1, 0), (.inswl, 0x1B, 2, 0), (.insll, 0x2B, 4, 0), (.insql, 0x3B, 8, 0), (.inswh, 0x57, 2, 8),
      (.inslh, 0x67, 4, 8), (.insqh, 0x77, 8, 8)] : List ((Reg → Operand → Reg → Instr) × Nat × Nat × Nat)),
    ∀ ra rb rc s, OprCode (p.1 ra rb rc) 0x12 p.2.1 ∧
      Completes (exec (p.1 ra rb rc) s) fun t => ∃ v, WroteInt s rc v t ∧ ∀ i, i < 8 →
        byteOf v i =
          if offsetOf s (operandValue s rb) ≤ i + p.2.2.2 ∧ i + p.2.2.2 < offsetOf s (operandValue s rb) + p.2.2.1
          then byteOf (readInt s ra) (i + p.2.2.2 - offsetOf s (operandValue s rb)) else 0

/-- MSKxL and MSKxH clear the bytes of the field; ZAP and ZAPNOT clear, or keep, the bytes that Rbv[7:0] selects -/
def Obligations.ByteMasksAndZaps : Prop :=
  (∀ p ∈ ([(.mskbl, 0x02, 1, 0), (.mskwl, 0x12, 2, 0), (.mskll, 0x22, 4, 0), (.mskql, 0x32, 8, 0), (.mskwh, 0x52, 2, 8),
        (.msklh, 0x62, 4, 8), (.mskqh, 0x72, 8, 8)] : List ((Reg → Operand → Reg → Instr) × Nat × Nat × Nat)),
      ∀ ra rb rc s, OprCode (p.1 ra rb rc) 0x12 p.2.1 ∧
        Completes (exec (p.1 ra rb rc) s) fun t => ∃ v, WroteInt s rc v t ∧ ∀ i, i < 8 →
          byteOf v i =
            if offsetOf s (operandValue s rb) ≤ i + p.2.2.2 ∧ i + p.2.2.2 < offsetOf s (operandValue s rb) + p.2.2.1
            then 0 else byteOf (readInt s ra) i) ∧
    (∀ p ∈ ([(.zap, 0x30, true), (.zapnot, 0x31, false)] : List ((Reg → Operand → Reg → Instr) × Nat × Bool)),
      ∀ ra rb rc s, OprCode (p.1 ra rb rc) 0x12 p.2.1 ∧
        Completes (exec (p.1 ra rb rc) s) fun t => ∃ v, WroteInt s rc v t ∧ ∀ i, i < 8 →
          byteOf v i = if (operandValue s rb).getLsbD i = p.2.2 then 0 else byteOf (readInt s ra) i)

/-- SEXTB, SEXTW, CTPOP, CTLZ, CTTZ, PERR, UNPKBW, UNPKBL, PKWB and PKLB -/
def Obligations.ExtensionsCountsAndPixels : Prop :=
  (∀ ra rb rc s,
      (OprCode (.sextb ra rb rc) 0x1C 0x00 ∧ Completes (exec (.sextb ra rb rc) s)
        (WroteInt s rc (BitVec.ofInt 64 ((operandValue s rb).setWidth 8).toInt))) ∧
      (OprCode (.sextw ra rb rc) 0x1C 0x01 ∧ Completes (exec (.sextw ra rb rc) s)
        (WroteInt s rc (BitVec.ofInt 64 ((operandValue s rb).setWidth 16).toInt))) ∧
      (OprCode (.ctpop ra rb rc) 0x1C 0x30 ∧ Completes (exec (.ctpop ra rb rc) s)
        (WroteInt s rc (BitVec.ofNat 64 (Finset.univ.filter fun i : Fin 64 => (operandValue s rb).getLsbD i = true).card))) ∧
      (OprCode (.ctlz ra rb rc) 0x1C 0x32 ∧ Completes (exec (.ctlz ra rb rc) s) fun t =>
        ∃ n, WroteInt s rc (BitVec.ofNat 64 n) t ∧ n ≤ 64 ∧ (∀ i, i < n → (operandValue s rb).getLsbD (63 - i) = false) ∧
          (n < 64 → (operandValue s rb).getLsbD (63 - n) = true)) ∧
      (OprCode (.cttz ra rb rc) 0x1C 0x33 ∧ Completes (exec (.cttz ra rb rc) s) fun t =>
        ∃ n, WroteInt s rc (BitVec.ofNat 64 n) t ∧ n ≤ 64 ∧ (∀ i, i < n → (operandValue s rb).getLsbD i = false) ∧
          (n < 64 → (operandValue s rb).getLsbD n = true))) ∧
    ((∀ ra rb rc s, OprCode (.perr ra rb rc) 0x1C 0x31 ∧ Completes (exec (.perr ra rb rc) s)
        (WroteInt s rc (BitVec.ofNat 64 (∑ i : Fin 8,
          ((byteOf (readInt s ra) i).toNat - (byteOf (operandValue s rb) i).toNat : Int).natAbs)))) ∧
      ∀ p ∈ ([(.unpkbw, 0x34, fun b i => if i % 2 = 0 then b (i / 2) else 0),
        (.unpkbl, 0x35, fun b i => if i = 0 then b 0 else if i = 4 then b 1 else 0),
        (.pkwb, 0x36, fun b i => if i < 4 then b (2 * i) else 0), (.pklb, 0x37, fun b i => if i < 2 then b (4 * i) else 0)]
        : List ((Reg → Operand → Reg → Instr) × Nat × ((Nat → Byte) → Nat → Byte))),
      ∀ ra rb rc s, OprCode (p.1 ra rb rc) 0x1C p.2.1 ∧
        Completes (exec (p.1 ra rb rc) s) fun t => ∃ v, WroteInt s rc v t ∧
          ∀ i, i < 8 → byteOf v i = p.2.2 (byteOf (operandValue s rb)) i)

/-- MINxx and MAXxx on eight bytes or four words, signed or unsigned -/
def Obligations.VectorMinimaAndMaxima : Prop :=
  (∀ p ∈ ([(.minsb8, 0x38, min), (.maxsb8, 0x3E, max)] : List ((Reg → Operand → Reg → Instr) × Nat × (Int → Int → Int))), ∀ ra rb rc s,
      OprCode (p.1 ra rb rc) 0x1C p.2.1 ∧ Completes (exec (p.1 ra rb rc) s) fun t => ∃ v, WroteInt s rc v t ∧
        ∀ i, i < 8 → (byteOf v i).toInt = p.2.2 (byteOf (readInt s ra) i).toInt (byteOf (operandValue s rb) i).toInt) ∧
    (∀ p ∈ ([(.minub8, 0x3A, min), (.maxub8, 0x3C, max)] : List ((Reg → Operand → Reg → Instr) × Nat × (Nat → Nat → Nat))), ∀ ra rb rc s,
      OprCode (p.1 ra rb rc) 0x1C p.2.1 ∧ Completes (exec (p.1 ra rb rc) s) fun t => ∃ v, WroteInt s rc v t ∧
        ∀ i, i < 8 → (byteOf v i).toNat = p.2.2 (byteOf (readInt s ra) i).toNat (byteOf (operandValue s rb) i).toNat) ∧
    (∀ p ∈ ([(.minsw4, 0x39, min), (.maxsw4, 0x3F, max)] : List ((Reg → Operand → Reg → Instr) × Nat × (Int → Int → Int))), ∀ ra rb rc s,
      OprCode (p.1 ra rb rc) 0x1C p.2.1 ∧ Completes (exec (p.1 ra rb rc) s) fun t => ∃ v, WroteInt s rc v t ∧
        ∀ i, i < 4 → (wordOf v i).toInt = p.2.2 (wordOf (readInt s ra) i).toInt (wordOf (operandValue s rb) i).toInt) ∧
    ∀ p ∈ ([(.minuw4, 0x3B, min), (.maxuw4, 0x3D, max)] : List ((Reg → Operand → Reg → Instr) × Nat × (Nat → Nat → Nat))), ∀ ra rb rc s,
      OprCode (p.1 ra rb rc) 0x1C p.2.1 ∧ Completes (exec (p.1 ra rb rc) s) fun t => ∃ v, WroteInt s rc v t ∧
        ∀ i, i < 4 → (wordOf v i).toNat = p.2.2 (wordOf (readInt s ra) i).toNat (wordOf (operandValue s rb) i).toNat

/-- LDA and LDAH add the displacement, or 65536 times it, modulo 2^64 -/
def Obligations.LoadAddress : Prop :=
  ∀ p ∈ ([(.lda, 0x08, 1), (.ldah, 0x09, 65536)] : List ((Reg → Reg → BitVec 16 → Instr) × Nat × Int)),
    ∀ ra rb disp s, Opcode (p.1 ra rb disp) p.2.1 ∧
      Completes (exec (p.1 ra rb disp) s) (WroteInt s ra (BitVec.ofInt 64 ((readInt s rb).toInt + p.2.2 * disp.toInt)))

/-- LDBU, LDWU, LDL and LDQ read the bytes at the translated address, lowest address least significant -/
def Obligations.IntegerLoads : Prop :=
  ∀ p ∈ ([(.ldbu, 0x0A, 1, fun v => v), (.ldwu, 0x0C, 2, fun v => v), (.ldl, 0x28, 4, fun v => (v.setWidth 32).signExtend 64),
      (.ldq, 0x29, 8, fun v => v)] : List ((Reg → Reg → BitVec 16 → Instr) × BitVec 6 × Nat × (Word → Word))),
    ∀ ra rb disp s pa, Opcode (p.1 ra rb disp) p.2.1.toNat ∧
      ((effAddr s rb disp).toNat % p.2.2.1 = 0 → Reaches s (loadRef s p.2.1 ra (effAddr s rb disp)) pa →
        (ra = 31 → Completes (exec (p.1 ra rb disp) s) (OnlyPc (notePrefetch s pa) (s.pc + 4))) ∧
        (ra ≠ 31 → Completes (exec (p.1 ra rb disp) s) fun t =>
          ∃ v u, Gets s (endianAddr s pa p.2.2.1) p.2.2.1 v u ∧ WroteInt { u with lockFlag := false, lockWatch := LockWatch.idle } ra (p.2.2.2 v) t))

/-- STB, STW, STL and STQ put their low bytes at the translated address and clear the lock flag -/
def Obligations.IntegerStores : Prop :=
  ∀ p ∈ ([(.stb, 0x0E, 1), (.stw, 0x0D, 2), (.stl, 0x2C, 4), (.stq, 0x2D, 8)] : List ((Reg → Reg → BitVec 16 → Instr) × BitVec 6 × Nat)), ∀ ra rb disp s pa,
    Opcode (p.1 ra rb disp) p.2.1.toNat ∧
      ((effAddr s rb disp).toNat % p.2.2 = 0 → Reaches s (storeRef s p.2.1 ra (effAddr s rb disp)) pa → s.mem.wf = true →
        Completes (exec (p.1 ra rb disp) s) fun t =>
          ∃ u, Puts s (endianAddr s pa p.2.2) p.2.2 (readInt s ra) u ∧ t = { u with lockFlag := false, lockWatch := LockWatch.idle, pc := s.pc + 4 })

/-- LDx_L locks the block it reads; STx_C stores and answers 1 if the lock still holds, and answers 0 otherwise -/
def Obligations.LoadLockedAndStoreConditional : Prop :=
  (∀ p ∈ ([(.ldlL, 0x2A, 4), (.ldqL, 0x2B, 8)] : List ((Reg → Reg → BitVec 16 → Instr) × BitVec 6 × Nat)), ∀ ra rb disp s pa,
    Opcode (p.1 ra rb disp) p.2.1.toNat ∧
      ((effAddr s rb disp).toNat % p.2.2 = 0 → Reaches s (loadRef s p.2.1 ra (effAddr s rb disp)) pa →
        Completes (exec (p.1 ra rb disp) s) fun t =>
          ∃ v u, Gets s (endianAddr s pa p.2.2) p.2.2 v u ∧
            WroteInt { u with
              lockFlag := true
              lockBlock := pa.extractLsb' 6 38
              lockWatch := { LockWatch.idle with
                prefetched := s.prefetches.any fun q => q.block == pa.extractLsb' 6 38 && decide (q.age ≤ 80) } } ra
              ((v.setWidth (8 * p.2.2)).signExtend 64) t)) ∧
    (∀ p ∈ ([(.stlC, 0x2E, 4), (.stqC, 0x2F, 8)] : List ((Reg → Reg → BitVec 16 → Instr) × BitVec 6 × Nat)), ∀ ra rb disp s pa,
    Opcode (p.1 ra rb disp) p.2.1.toNat ∧
      ((effAddr s rb disp).toNat % p.2.2 = 0 → Reaches s (storeRef s p.2.1 ra (effAddr s rb disp)) pa → s.mem.wf = true →
        ∀ waits erratum wins : Prop,
        (waits ↔ s.ackHeld = true ∧ inIoSpace pa = false ∧ absent s pa = false ∧ dirtyAckInternal s (pa.extractLsb' 6 38) = false ∧
          pa.extractLsb' 6 38 = s.lockBlock ∧ (s.lockFlag = true ∨ s.lockWatch.stolen = true ∧ s.lockWatch.prefetched = true)) →
        (erratum ↔ inIoSpace pa = false ∧ absent s pa = false ∧ pa.extractLsb' 6 38 = s.lockBlock ∧
          s.lockWatch.stolen = true ∧ s.lockWatch.prefetched = true) →
        (wins ↔ inIoSpace pa = true ∨
          s.lockFlag = true ∧ pa.extractLsb' 6 38 = s.lockBlock ∧ platformGrants s (pa.extractLsb' 6 38) = true ∧ absent s pa = false) →
        (waits → exec (p.1 ra rb disp) s = .next { s with waiting := true }) ∧
        (¬waits → ¬erratum → wins → Completes (exec (p.1 ra rb disp) s) fun t =>
          ∃ u, Puts s (endianAddr s pa p.2.2) p.2.2 (readInt s ra) u ∧
            WroteInt { u with lockFlag := false, lockWatch := LockWatch.idle } ra 1 t) ∧
        (¬waits → ¬erratum → ¬wins → Completes (exec (p.1 ra rb disp) s)
          (WroteInt { s with lockFlag := false, lockWatch := LockWatch.idle } ra 0)) ∧
        (¬waits → erratum → ∀ d : State, d = { s with free := s.free + 1 } → Completes (exec (p.1 ra rb disp) s) fun t =>
          (∃ u, Puts d (endianAddr s pa p.2.2) p.2.2 (readInt s ra) u ∧
            WroteInt { u with lockFlag := false, lockWatch := LockWatch.idle } ra 1 t) ∨
          WroteInt { d with lockFlag := false, lockWatch := LockWatch.idle } ra 0 t))) ∧
    (∀ (s : State) (pa : PhysAddr) (b : BitVec 38), b = (pa.extractLsb' 6 37).setWidth 38 →
      notePrefetch s pa = { s with
        lockWatch := (notePrefetch s pa).lockWatch
        prefetches := { block := b, age := 0 } :: s.prefetches.filter fun q => q.block != b } ∧
      (notePrefetch s pa).lockWatch.age = s.lockWatch.age ∧ (notePrefetch s pa).lockWatch.stolen = s.lockWatch.stolen ∧
      ((notePrefetch s pa).lockWatch.prefetched = true ↔ s.lockWatch.prefetched = true ∨
        (s.lockFlag = true ∨ s.lockWatch.stolen = true) ∧ s.lockBlock = b ∧ s.lockWatch.age ≤ 80)) ∧
    (∀ (s : State) (b : BitVec 38) (sh wr : Bool),
      (sh = true ↔ ∃ c, s.cached.find? (fun c => c.block == b) = some c ∧ c.shared = true) →
      (wr = true ↔ ∃ c, s.cached.find? (fun c => c.block == b) = some c ∧ c.below ≠ none) →
      dirtyAckInternal s b = (if sh then !s.writeMany.getLsbD (if wr then 25 else 24) else wr || !s.writeMany.getLsbD 22) ∧
      platformGrants s b = (dirtyAckInternal s b || s.stcGrant)) ∧
    ∀ (s : State) (q : Prefetch), s.waiting = false → (q ∈ (beginInstr s).prefetches ↔
      ∃ o ∈ s.prefetches, q.block = o.block ∧ q.age = o.age + 1 ∧ q.age ≤ 80)

/-- LDQ_U and STQ_U use the aligned quadword that holds the address, and LDQ_U to R31 does nothing -/
def Obligations.UnalignedQuadwordAccesses : Prop :=
  ∀ ra rb disp s pa, Opcode (.ldqU ra rb disp) 0x0B ∧ Opcode (.stqU ra rb disp) 0x0F ∧
    (ra = 31 → Completes (exec (.ldqU ra rb disp) s) (OnlyPc s (s.pc + 4))) ∧
    (ra ≠ 31 → Reaches s (loadRef s 0x0B ra (effAddr s rb disp)) pa → Completes (exec (.ldqU ra rb disp) s) fun t =>
        ∃ v u, Gets s (pa &&& ~~~7#44) 8 v u ∧ WroteInt { u with lockFlag := false, lockWatch := LockWatch.idle } ra v t) ∧
    (Reaches s (storeRef s 0x0F ra (effAddr s rb disp)) pa → s.mem.wf = true →
      Completes (exec (.stqU ra rb disp) s) fun t =>
        ∃ u, Puts s (pa &&& ~~~7#44) 8 (readInt s ra) u ∧ t = { u with lockFlag := false, lockWatch := LockWatch.idle, pc := s.pc + 4 })

/-- UNALIGN, DTBM_SINGLE and DFAULT of every ordinary load and store, in that order, with what they record -/
def Obligations.DataReferenceFaults : Prop :=
  (∀ p ∈ ([(.ldbu, 0x0A, 1, false), (.ldwu, 0x0C, 2, false), (.ldl, 0x28, 4, false), (.ldq, 0x29, 8, false),
        (.ldlL, 0x2A, 4, false), (.ldqL, 0x2B, 8, false), (.stqU, 0x0F, 1, true), (.stb, 0x0E, 1, true),
        (.stw, 0x0D, 2, true), (.stl, 0x2C, 4, true), (.stq, 0x2D, 8, true), (.stlC, 0x2E, 4, true),
        (.stqC, 0x2F, 8, true)]
      : List ((Reg → Reg → BitVec 16 → Instr) × BitVec 6 × Nat × Bool)), ∀ ra rb disp s r,
      r = (if p.2.2.2 then storeRef else loadRef) s p.2.1 ra (effAddr s rb disp) →
      (r.ea.toNat % p.2.2.1 ≠ 0 → Completes (exec (p.1 ra rb disp) s)
        (Faulted s r .unalign 0x280 (mmWord p.2.1.toNat false false false p.2.2.2))) ∧
      (r.ea.toNat % p.2.2.1 = 0 → translateData s r = .error .miss → Completes (exec (p.1 ra rb disp) s)
        (Faulted s r .dtbmSingle 0x300 (mmWord p.2.1.toNat false false false p.2.2.2))) ∧
      ∀ acv fr fw, r.ea.toNat % p.2.2.1 = 0 → translateData s r = .error (.violation acv fr fw) →
        Completes (exec (p.1 ra rb disp) s) (Faulted s r .dfault 0x380 (mmWord p.2.1.toNat fw fr acv p.2.2.2))) ∧
    (∀ ra rb disp s, ra ≠ 31 →
      (translateData s (loadRef s 0x0B ra (effAddr s rb disp)) = .error .miss → Completes (exec (.ldqU ra rb disp) s)
        (Faulted s (loadRef s 0x0B ra (effAddr s rb disp)) .dtbmSingle 0x300 (mmWord 0x0B false false false false))) ∧
      ∀ acv fr fw, translateData s (loadRef s 0x0B ra (effAddr s rb disp)) = .error (.violation acv fr fw) →
        Completes (exec (.ldqU ra rb disp) s)
          (Faulted s (loadRef s 0x0B ra (effAddr s rb disp)) .dfault 0x380 (mmWord 0x0B fw fr acv false))) ∧
    ∀ p ∈ ([(.ldf, 0x20, 4, false), (.ldg, 0x21, 8, false), (.lds, 0x22, 4, false), (.ldt, 0x23, 8, false),
        (.stf, 0x24, 4, true), (.stg, 0x25, 8, true), (.sts, 0x26, 4, true), (.stt, 0x27, 8, true)]
      : List ((Reg → Reg → BitVec 16 → Instr) × BitVec 6 × Nat × Bool)), ∀ fa rb disp s r,
      r = (if p.2.2.2 then storeRef else loadRef) s p.2.1 fa (effAddr s rb disp) → (fpEnabled s = true ∨ fa = 31 ∧ p.2.2.2 = false) →
      (r.ea.toNat % p.2.2.1 ≠ 0 → Completes (exec (p.1 fa rb disp) s)
        (Faulted s r .unalign 0x280 (mmWord p.2.1.toNat false false false p.2.2.2))) ∧
      (r.ea.toNat % p.2.2.1 = 0 → translateData s r = .error .miss → Completes (exec (p.1 fa rb disp) s)
        (Faulted s r .dtbmSingle 0x300 (mmWord p.2.1.toNat false false false p.2.2.2))) ∧
      ∀ acv fr fw, r.ea.toNat % p.2.2.1 = 0 → translateData s r = .error (.violation acv fr fw) →
        Completes (exec (p.1 fa rb disp) s) (Faulted s r .dfault 0x380 (mmWord p.2.1.toNat fw fr acv p.2.2.2))

/-- The sign check, the superpages, the DTB lookup and the permission check -/
def Obligations.DataTranslation : Prop :=
  ∀ (s : State) (r : DataRef) (k : Nat), k = (if s.vaCtl.getLsbD 1 then 48 else 43) →
    (r.ea ≠ (r.ea.setWidth k).signExtend 64 → translateData s r = .error (.violation true false false)) ∧
    (r.ea = (r.ea.setWidth k).signExtend 64 →
      (∀ pa : PhysAddr,
        (s.mCtl.getLsbD 3 = true ∧ (r.ea.extractLsb' 46 2).toNat = 2 ∧ pa = r.ea.setWidth 44 ∨
          s.mCtl.getLsbD 2 = true ∧ (r.ea.extractLsb' 41 7).toNat = 0x7E ∧ pa = (r.ea.setWidth 41).signExtend 44 ∨
          s.mCtl.getLsbD 1 = true ∧ (r.ea.extractLsb' 30 18).toNat = 0x3FFFE ∧ pa = (r.ea.setWidth 30).setWidth 44) →
        translateData s r = if r.mode = 0 then .ok pa else .error (.violation true false false)) ∧
      (¬(s.mCtl.getLsbD 3 = true ∧ (r.ea.extractLsb' 46 2).toNat = 2) →
        ¬(s.mCtl.getLsbD 2 = true ∧ (r.ea.extractLsb' 41 7).toNat = 0x7E) →
        ¬(s.mCtl.getLsbD 1 = true ∧ (r.ea.extractLsb' 30 18).toNat = 0x3FFFE) →
        ((∀ e ∈ s.dtb0, ¬EntryMatches e.toTbEntry s.dtbAsn0 r.ea) → (∀ e ∈ s.dtb1, ¬EntryMatches e.toTbEntry s.dtbAsn1 r.ea) →
          translateData s r = .error .miss) ∧
        ∀ (i j : Nat) (e : DtbEntry), s.dtb0[i]? = some e → s.dtb1[j]? = some e →
          EntryMatches e.toTbEntry s.dtbAsn0 r.ea → EntryMatches e.toTbEntry s.dtbAsn1 r.ea →
          (∀ i' e', s.dtb0[i']? = some e' → EntryMatches e'.toTbEntry s.dtbAsn0 r.ea → i' = i) →
          (∀ j' e', s.dtb1[j']? = some e' → EntryMatches e'.toTbEntry s.dtbAsn1 r.ea → j' = j) →
          ∀ acv fr fw, acv = (r.checkRead && !e.re.getLsbD r.mode.toNat || r.checkWrite && !e.we.getLsbD r.mode.toNat) →
            fr = (r.checkRead && e.fOnRead) → fw = (r.checkWrite && e.fOnWrite) →
            ((acv || fr || fw) = true → translateData s r = .error (.violation acv fr fw)) ∧
            ((acv || fr || fw) = false → ∃ pa, translateData s r = .ok pa ∧ ∀ b, b < 44 →
              pa.getLsbD b = if b < 13 + 3 * e.gh.toNat then r.ea.getLsbD b else e.pfn.getLsbD (b - 13))))

/-- Little-endian data, and the address inversion of VA_CTL[B_ENDIAN] -/
def Obligations.ByteOrderAndTheMemoryOfBytes : Prop :=
  (∀ (m : Memory) (a n : Nat), n ≤ 8 → ∀ i, i < 8 → byteOf (m.read a n) i = if i < n then m.readByte (a + i) else 0) ∧
    (∀ (m : Memory) (a n : Nat) (v : Word), m.wf = true → n ≤ 8 →
      (m.write a n v).wf = true ∧ ∀ b, (m.write a n v).readByte b = if a ≤ b ∧ b < a + n then byteOf v (b - a) else m.readByte b) ∧
    ∀ (s : State) (pa : PhysAddr),
      (s.vaCtl.getLsbD 0 = false → ∀ n, endianAddr s pa n = pa) ∧
      (s.vaCtl.getLsbD 0 = true → endianAddr s pa 1 = pa ^^^ 7#44 ∧ endianAddr s pa 2 = pa ^^^ 6#44 ∧
        endianAddr s pa 4 = pa ^^^ 4#44 ∧ endianAddr s pa 8 = pa)

/-- Stores of another agent, probes and victims: the lock and the state of a block; what a store of the core does to it and to the blocks it displaces -/
def Obligations.LockIsLostToOtherAgents : Prop :=
  (∀ (s : State) (rest : List EnvEvent) (a : BitVec 43) (v : Byte), s.env = .remoteWrite a v :: rest →
      absent s (a.setWidth 44) = false → s.mem.wf = true →
      Completes (step s) fun t =>
        (∀ b, t.mem.readByte b = if b = a.toNat then v else s.mem.readByte b) ∧
        t.cached = s.cached.filter (fun c => c.block != (a.setWidth 44).extractLsb' 6 38) ∧
        t.lockFlag = (s.lockFlag && decide (s.lockBlock ≠ (a.setWidth 44).extractLsb' 6 38)) ∧
        t.lockWatch = { s.lockWatch with stolen := s.lockWatch.stolen || (s.lockFlag && !t.lockFlag) } ∧
        { t with mem := s.mem, cached := s.cached, lockFlag := s.lockFlag, lockWatch := s.lockWatch, env := s.env } = s ∧ t.env = rest) ∧
    (∀ (m : Memory) (a i : Nat), i < 64 → (m.readQuads a 8).length = 8 ∧
      byteOf ((m.readQuads a 8).getD (i / 8) 0) (i % 8) = m.readByte (a + i)) ∧
    (∀ s : State, (s.cached = [] → makeRoom s = s) ∧
      ∀ (c : CachedBlock) (older rivals : List CachedBlock), s.cached = c :: older →
      ∀ p ∈ ([(none, 2 ^ 7, 8), (some 0, 2 ^ 14, 1), (some 1, 2 ^ 15, 1), (some 3, 2 ^ 16, 1), (some 7, 2 ^ 17, 1), (some 15, 2 ^ 18, 1)]
          : List (Option (BitVec 4) × Nat × Nat)), p.1 = (if s.writeMany.getLsbD 0 then some (s.writeMany.extractLsb' 2 4) else none) →
        rivals = older.filter (fun d => d.block.toNat % p.2.1 == c.block.toNat % p.2.1) →
        (rivals.length < p.2.2 → makeRoom s = s) ∧
        (p.2.2 ≤ rivals.length →
          ((∀ d ∈ rivals, s.lockFlag = true ∧ s.lockBlock = d.block) → makeRoom s = s) ∧
          ((∃ d ∈ rivals, ¬(s.lockFlag = true ∧ s.lockBlock = d.block)) →
            ∃ d ∈ rivals, ¬(s.lockFlag = true ∧ s.lockBlock = d.block) ∧ ∃ n, makeRoom s = evictBlock { s with free := n } d.block))) ∧
    ∀ (s : State) (rest : List EnvEvent) (b : BitVec 38) (old : Option CachedBlock) (others : List CachedBlock) (written : Option (List Word))
      (quads : List Word) (taken : Prop) (next : ProbeNext),
      old = s.cached.find? (fun c => c.block == b) → others = s.cached.filter (fun c => c.block != b) →
      written = old.bind CachedBlock.below → quads = written.getD (s.mem.readQuads (64 * b.toNat) 8) →
      (initMode s = true → dirtied s b = others) ∧
      (initMode s = false → dirtied s b = { block := b, shared := false, below := some quads } :: others) ∧
      (initMode s = false ∨ written = none → evictBlock s b = { s with cached := others }) ∧
      (initMode s = true → s.mem.wf = true → ∀ l, written = some l → l.length = 8 →
        evictBlock s b = { s with cached := others, mem := (evictBlock s b).mem } ∧
        ∀ a, (evictBlock s b).mem.readByte a = if a / 64 = b.toNat then byteOf (l.getD (a % 64 / 8) 0) (a % 8) else s.mem.readByte a) ∧
      (s.env = .victim b :: rest → step s = .next
        (if s.lockFlag = true ∧ s.lockBlock = b then { s with env := rest } else { evictBlock s b with env := rest })) ∧
      (s.env = .probe b next :: rest →
        (taken ↔ next = .invalid ∨ next = .transition3 ∧ ∃ c, old = some c ∧ c.shared = false ∧ c.below ≠ none) →
        (next = .nop → step s = .next { s with env := rest }) ∧
        (taken → step s = .next { s with
          env := rest
          cached := others
          lockFlag := s.lockFlag && decide (s.lockBlock ≠ b)
          lockWatch := { s.lockWatch with stolen := s.lockWatch.stolen || (s.lockFlag && decide (s.lockBlock = b)) } }) ∧
        (¬taken → ∀ p ∈ ([(.clean, others), (.cleanShared, { block := b, shared := true, below := none } :: others),
            (.dirtyShared, { block := b, shared := true, below := some quads } :: others),
            (.transition1, { block := b, shared := true, below := written } :: others),
            (.transition3, { block := b, shared := true, below := none } :: others)] : List (ProbeNext × List CachedBlock)),
          next = p.1 → step s = .next { s with env := rest, cached := p.2 }))

/-- The eight conditional branches, BR and BSR -/
def Obligations.IntegerBranches : Prop :=
  (∀ p ∈ ([(.blbc, 0x38, fun a => !a.getLsbD 0), (.beq, 0x39, fun a => decide (a.toInt = 0)),
      (.blt, 0x3A, fun a => decide (a.toInt < 0)), (.ble, 0x3B, fun a => decide (a.toInt ≤ 0)), (.blbs, 0x3C, fun a => a.getLsbD 0),
      (.bne, 0x3D, fun a => decide (a.toInt ≠ 0)), (.bge, 0x3E, fun a => decide (0 ≤ a.toInt)),
      (.bgt, 0x3F, fun a => decide (0 < a.toInt))] : List ((Reg → BitVec 21 → Instr) × Nat × (Word → Bool))),
    ∀ ra disp s, Opcode (p.1 ra disp) p.2.1 ∧ Completes (exec (p.1 ra disp) s)
      (OnlyPc s (if p.2.2 (readInt s ra) then s.pc + 4 + BitVec.ofInt 64 (4 * disp.toInt) else s.pc + 4))) ∧
    ∀ p ∈ ([(.br, 0x30), (.bsr, 0x34)] : List ((Reg → BitVec 21 → Instr) × Nat)),
    ∀ ra disp s, Opcode (p.1 ra disp) p.2 ∧ Completes (exec (p.1 ra disp) s) fun t =>
      t.pc = s.pc + 4 + BitVec.ofInt 64 (4 * disp.toInt) ∧ WroteInt s ra (s.pc + 4) { t with pc := s.pc + 4 }

/-- JMP, JSR, RET and JSR_COROUTINE go to R[b] with its two low bits cleared and link pc + 4 -/
def Obligations.Jumps : Prop :=
  ∀ p ∈ ([(.jmp, 0), (.jsr, 1), (.ret, 2), (.jsrCoroutine, 3)] : List ((Reg → Reg → BitVec 14 → Instr) × Nat)),
    ∀ ra rb hint s, Opcode (p.1 ra rb hint) 0x1A ∧ ((encode (p.1 ra rb hint)).extractLsb' 14 2).toNat = p.2 ∧
      Completes (exec (p.1 ra rb hint) s) fun t =>
        t.pc = readInt s rb &&& ~~~3#64 ∧ t.viaJump = true ∧
        WroteInt s ra (s.pc + 4) { t with pc := s.pc + 4, viaJump := s.viaJump }

/-- The six floating branches test the sign and the zero of the register image -/
def Obligations.FloatingBranches : Prop :=
  ∀ p ∈ ([(.fbeq, 0x31, fun _ z => z), (.fblt, 0x32, fun n z => n && !z), (.fble, 0x33, fun n z => n || z),
      (.fbne, 0x35, fun _ z => !z), (.fbge, 0x36, fun n z => !n || z), (.fbgt, 0x37, fun n z => !n && !z)]
      : List ((Reg → BitVec 21 → Instr) × Nat × (Bool → Bool → Bool))),
    ∀ fa disp s, Opcode (p.1 fa disp) p.2.1 ∧
      (fpEnabled s = true → Completes (exec (p.1 fa disp) s)
        (OnlyPc s (if p.2.2 ((readFp s fa).getLsbD 63) (decide ((readFp s fa).toNat % 2 ^ 63 = 0))
          then s.pc + 4 + BitVec.ofInt 64 (4 * disp.toInt) else s.pc + 4))) ∧
      (fpEnabled s = false → Completes (exec (p.1 fa disp) s) (Entered s .fen 0x200 (faultPc s)))

/-- The register images of S, F and G data and the data of register images -/
def Obligations.FloatingMemoryFormats : Prop :=
  (∀ m : Word, (imageS m).getLsbD 63 = m.getLsbD 31 ∧ (imageS m).extractLsb' 29 23 = m.extractLsb' 0 23 ∧
      (imageS m).extractLsb' 0 29 = 0 ∧
      ((imageS m).extractLsb' 52 11).toNat =
        (if (m.extractLsb' 23 8).toNat = 255 then 2047 else if (m.extractLsb' 23 8).toNat = 0 then 0
         else (m.extractLsb' 23 8).toNat + 896) ∧
      datumS (imageS m) = m.setWidth 32) ∧
    (∀ m : Word, (imageF m).getLsbD 63 = m.getLsbD 15 ∧ (imageF m).extractLsb' 45 7 = m.extractLsb' 0 7 ∧
      (imageF m).extractLsb' 29 16 = m.extractLsb' 16 16 ∧ (imageF m).extractLsb' 0 29 = 0 ∧
      ((imageF m).extractLsb' 52 11).toNat =
        (if (m.extractLsb' 7 8).toNat = 0 then 0 else (m.extractLsb' 7 8).toNat + 896) ∧
      datumF (imageF m) = m.setWidth 32) ∧
    (∀ m : Word, (∀ i, i < 4 → wordOf (swapG m) i = wordOf m (3 - i)) ∧ swapG (swapG m) = m) ∧
    ∀ v : Word, (datumS v).extractLsb' 30 2 = v.extractLsb' 62 2 ∧ (datumS v).extractLsb' 0 30 = v.extractLsb' 29 30 ∧
      (datumF v).getLsbD 15 = v.getLsbD 63 ∧ (datumF v).getLsbD 14 = v.getLsbD 62 ∧
      (datumF v).extractLsb' 7 7 = v.extractLsb' 52 7 ∧ (datumF v).extractLsb' 0 7 = v.extractLsb' 45 7 ∧
      (datumF v).extractLsb' 16 16 = v.extractLsb' 29 16

/-- Floating loads put the register image of the datum in Fa, floating stores put the datum of the image in memory -/
def Obligations.FloatingLoadsAndStores : Prop :=
  (∀ p ∈ ([(.ldf, 0x20, 4, imageF), (.ldg, 0x21, 8, swapG), (.lds, 0x22, 4, imageS), (.ldt, 0x23, 8, fun v => v)]
      : List ((Reg → Reg → BitVec 16 → Instr) × BitVec 6 × Nat × (Word → Word))),
    ∀ fa rb disp s pa, Opcode (p.1 fa rb disp) p.2.1.toNat ∧
      ((effAddr s rb disp).toNat % p.2.2.1 = 0 → Reaches s (loadRef s p.2.1 fa (effAddr s rb disp)) pa →
        (fa = 31 → p.2.1 ≠ 0x22 → Completes (exec (p.1 fa rb disp) s) (OnlyPc (notePrefetch s pa) (s.pc + 4))) ∧
        (fa = 31 → p.2.1 = 0x22 → ∀ b : BitVec 38, b = (pa.extractLsb' 6 37).setWidth 38 → Completes (exec (p.1 fa rb disp) s) fun t =>
          OnlyPc { notePrefetch s pa with cached := t.cached, free := t.free } (s.pc + 4) t ∧
          (t.cached = s.cached ∨ t.cached = dirtied s b ∧ absentBlock s b = false) ∧
          (absentBlock s b = true ∨ s.mCtl.extractLsb' 4 2 = 1#2 → t.cached = s.cached ∧ t.free = s.free) ∧
          (absentBlock s b = false → s.mCtl.extractLsb' 4 2 = 0#2 → t.cached = dirtied s b ∧ t.free = s.free)) ∧
        (fa ≠ 31 → fpEnabled s = true → Completes (exec (p.1 fa rb disp) s) fun t =>
          ∃ v u, Gets s (endianAddr s pa p.2.2.1) p.2.2.1 v u ∧ WroteFp { u with lockFlag := false, lockWatch := LockWatch.idle } fa (p.2.2.2 v) t)) ∧
      (fpEnabled s = false → fa ≠ 31 → Completes (exec (p.1 fa rb disp) s) fun t =>
        Entered s .fen 0x200 (faultPc s) t ∧ t.excSum.reg = fa)) ∧
    ∀ p ∈ ([(.stf, 0x24, 4, fun v => (datumF v).setWidth 64), (.stg, 0x25, 8, swapG),
      (.sts, 0x26, 4, fun v => (datumS v).setWidth 64), (.stt, 0x27, 8, fun v => v)] : List ((Reg → Reg → BitVec 16 → Instr) × BitVec 6 × Nat × (Word → Word))),
    ∀ fa rb disp s pa, Opcode (p.1 fa rb disp) p.2.1.toNat ∧
      (fpEnabled s = true → (effAddr s rb disp).toNat % p.2.2.1 = 0 →
        Reaches s (storeRef s p.2.1 fa (effAddr s rb disp)) pa → s.mem.wf = true →
        Completes (exec (p.1 fa rb disp) s) fun t =>
          ∃ u, Puts s (endianAddr s pa p.2.2.1) p.2.2.1 (p.2.2.2 (readFp s fa)) u ∧
            t = { u with lockFlag := false, lockWatch := LockWatch.idle, pc := s.pc + 4 }) ∧
      (fpEnabled s = false → Completes (exec (p.1 fa rb disp) s) fun t =>
        Entered s .fen 0x200 (faultPc s) t ∧ t.excSum.reg = fa)

/-- Every form of every IEEE operate: its code, FEN, F31, the result in Fc, and the ARITH trap -/
def Obligations.IeeeFloatingOperates : Prop :=
  (∀ p ∈ ([(0x16, 0x000, ieeeAdd .s, ieeeForms,
        [.addsC, .addsM, .adds, .addsD, .addsUc, .addsUm, .addsU, .addsUd, .addsSuc, .addsSum, .addsSu, .addsSud,
         .addsSuic, .addsSuim, .addsSui, .addsSuid]),
      (0x16, 0x020, ieeeAdd .t, ieeeForms,
        [.addtC, .addtM, .addt, .addtD, .addtUc, .addtUm, .addtU, .addtUd, .addtSuc, .addtSum, .addtSu, .addtSud,
         .addtSuic, .addtSuim, .addtSui, .addtSuid]),
      (0x16, 0x001, ieeeSub .s, ieeeForms,
        [.subsC, .subsM, .subs, .subsD, .subsUc, .subsUm, .subsU, .subsUd, .subsSuc, .subsSum, .subsSu, .subsSud,
         .subsSuic, .subsSuim, .subsSui, .subsSuid]),
      (0x16, 0x021, ieeeSub .t, ieeeForms,
        [.subtC, .subtM, .subt, .subtD, .subtUc, .subtUm, .subtU, .subtUd, .subtSuc, .subtSum, .subtSu, .subtSud,
         .subtSuic, .subtSuim, .subtSui, .subtSuid]),
      (0x16, 0x002, ieeeMul .s, ieeeForms,
        [.mulsC, .mulsM, .muls, .mulsD, .mulsUc, .mulsUm, .mulsU, .mulsUd, .mulsSuc, .mulsSum, .mulsSu, .mulsSud,
         .mulsSuic, .mulsSuim, .mulsSui, .mulsSuid]),
      (0x16, 0x022, ieeeMul .t, ieeeForms,
        [.multC, .multM, .mult, .multD, .multUc, .multUm, .multU, .multUd, .multSuc, .multSum, .multSu, .multSud,
         .multSuic, .multSuim, .multSui, .multSuid]),
      (0x16, 0x003, ieeeDiv .s, ieeeForms,
        [.divsC, .divsM, .divs, .divsD, .divsUc, .divsUm, .divsU, .divsUd, .divsSuc, .divsSum, .divsSu, .divsSud,
         .divsSuic, .divsSuim, .divsSui, .divsSuid]),
      (0x16, 0x023, ieeeDiv .t, ieeeForms,
        [.divtC, .divtM, .divt, .divtD, .divtUc, .divtUm, .divtU, .divtUd, .divtSuc, .divtSum, .divtSu, .divtSud,
         .divtSuic, .divtSuim, .divtSui, .divtSuid]),
      (0x16, 0x024, ieeeUnordered, [(ieeeNone, .normal), (ieeeSu, .normal)], [.cmptun, .cmptunSu]),
      (0x16, 0x025, ieeeEqual, [(ieeeNone, .normal), (ieeeSu, .normal)], [.cmpteq, .cmpteqSu]),
      (0x16, 0x026, ieeeLess, [(ieeeNone, .normal), (ieeeSu, .normal)], [.cmptlt, .cmptltSu]),
      (0x16, 0x027, ieeeLessEq, [(ieeeNone, .normal), (ieeeSu, .normal)], [.cmptle, .cmptleSu])]
      : List (Nat × Nat × (IeeeCtx → Word → Word → FpResult) × List (TrapQual × RoundField) × List (Reg → Reg → Reg → Instr))),
    ∀ q ∈ List.zip p.2.2.2.2 p.2.2.2.1, ∀ fa fb fc s, FpCode (q.1 fa fb fc) p.1 (formCode q.2 p.2.1) ∧
      FpOutcome s q.2.1 fc (p.2.2.1 (ieeeCtx s q.2.1 q.2.2) (readFp s fa) (readFp s fb)) (exec (q.1 fa fb fc) s)) ∧
    ∀ p ∈ ([(0x14, 0x00B, ieeeSqrt .s, ieeeForms,
        [.sqrtsC, .sqrtsM, .sqrts, .sqrtsD, .sqrtsUc, .sqrtsUm, .sqrtsU, .sqrtsUd, .sqrtsSuc, .sqrtsSum, .sqrtsSu,
         .sqrtsSud, .sqrtsSuic, .sqrtsSuim, .sqrtsSui, .sqrtsSuid]),
      (0x14, 0x02B, ieeeSqrt .t, ieeeForms,
        [.sqrttC, .sqrttM, .sqrtt, .sqrttD, .sqrttUc, .sqrttUm, .sqrttU, .sqrttUd, .sqrttSuc, .sqrttSum, .sqrttSu,
         .sqrttSud, .sqrttSuic, .sqrttSuim, .sqrttSui, .sqrttSuid]),
      (0x16, 0x02C, ieeeToS, ieeeForms,
        [.cvttsC, .cvttsM, .cvtts, .cvttsD, .cvttsUc, .cvttsUm, .cvttsU, .cvttsUd, .cvttsSuc, .cvttsSum, .cvttsSu,
         .cvttsSud, .cvttsSuic, .cvttsSuim, .cvttsSui, .cvttsSuid]),
      (0x16, 0x02F, ieeeToInt, ieeeForms,
        [.cvttqC, .cvttqM, .cvttq, .cvttqD, .cvttqVc, .cvttqVm, .cvttqV, .cvttqVd, .cvttqSvc, .cvttqSvm, .cvttqSv,
         .cvttqSvd, .cvttqSvic, .cvttqSvim, .cvttqSvi, .cvttqSvid]),
      (0x16, 0x03C, ieeeOfInt .s, ieeeFromIntForms,
        [.cvtqsC, .cvtqsM, .cvtqs, .cvtqsD, .cvtqsSuic, .cvtqsSuim, .cvtqsSui, .cvtqsSuid]),
      (0x16, 0x03E, ieeeOfInt .t, ieeeFromIntForms,
        [.cvtqtC, .cvtqtM, .cvtqt, .cvtqtD, .cvtqtSuic, .cvtqtSuim, .cvtqtSui, .cvtqtSuid]),
      (0x16, 0x22C, ieeeToT, [(ieeeNone, .normal), (ieeeS, .normal)], [.cvtst, .cvtstS])]
      : List (Nat × Nat × (IeeeCtx → Word → FpResult) × List (TrapQual × RoundField) × List (Reg → Reg → Reg → Instr))),
    ∀ q ∈ List.zip p.2.2.2.2 p.2.2.2.1, ∀ fa fb fc s, FpCode (q.1 fa fb fc) p.1 (formCode q.2 p.2.1) ∧
      FpOutcome s q.2.1 fc (p.2.2.1 (ieeeCtx s q.2.1 q.2.2) (readFp s fb)) (exec (q.1 fa fb fc) s)

/-- Every form of every VAX operate: its code, FEN, F31, the result in Fc, and the ARITH trap -/
def Obligations.VaxFloatingOperates : Prop :=
  (∀ p ∈ ([(0x15, 0x000, vaxAdd .f, vaxForms,
        [.addfC, .addf, .addfUc, .addfU, .addfSc, .addfS, .addfSuc, .addfSu]),
      (0x15, 0x020, vaxAdd .g, vaxForms,
        [.addgC, .addg, .addgUc, .addgU, .addgSc, .addgS, .addgSuc, .addgSu]),
      (0x15, 0x001, vaxSub .f, vaxForms,
        [.subfC, .subf, .subfUc, .subfU, .subfSc, .subfS, .subfSuc, .subfSu]),
      (0x15, 0x021, vaxSub .g, vaxForms,
        [.subgC, .subg, .subgUc, .subgU, .subgSc, .subgS, .subgSuc, .subgSu]),
      (0x15, 0x002, vaxMul .f, vaxForms,
        [.mulfC, .mulf, .mulfUc, .mulfU, .mulfSc, .mulfS, .mulfSuc, .mulfSu]),
      (0x15, 0x022, vaxMul .g, vaxForms,
        [.mulgC, .mulg, .mulgUc, .mulgU, .mulgSc, .mulgS, .mulgSuc, .mulgSu]),
      (0x15, 0x003, vaxDiv .f, vaxForms,
        [.divfC, .divf, .divfUc, .divfU, .divfSc, .divfS, .divfSuc, .divfSu]),
      (0x15, 0x023, vaxDiv .g, vaxForms,
        [.divgC, .divg, .divgUc, .divgU, .divgSc, .divgS, .divgSuc, .divgSu]),
      (0x15, 0x025, fun _ => vaxEqual, [(vaxNone, .normal), (vaxS, .normal)], [.cmpgeq, .cmpgeqS]),
      (0x15, 0x026, fun _ => vaxLess, [(vaxNone, .normal), (vaxS, .normal)], [.cmpglt, .cmpgltS]),
      (0x15, 0x027, fun _ => vaxLessEq, [(vaxNone, .normal), (vaxS, .normal)], [.cmpgle, .cmpgleS])]
      : List (Nat × Nat × (Rounding → Word → Word → FpResult) × List (TrapQual × RoundField) × List (Reg → Reg → Reg → Instr))),
    ∀ q ∈ List.zip p.2.2.2.2 p.2.2.2.1, ∀ fa fb fc s, FpCode (q.1 fa fb fc) p.1 (formCode q.2 p.2.1) ∧
      FpOutcome s q.2.1 fc (p.2.2.1 (vaxRounding q.2.2) (readFp s fa) (readFp s fb)) (exec (q.1 fa fb fc) s)) ∧
    ∀ p ∈ ([(0x14, 0x00A, vaxSqrt .f, vaxForms,
        [.sqrtfC, .sqrtf, .sqrtfUc, .sqrtfU, .sqrtfSc, .sqrtfS, .sqrtfSuc, .sqrtfSu]),
      (0x14, 0x02A, vaxSqrt .g, vaxForms,
        [.sqrtgC, .sqrtg, .sqrtgUc, .sqrtgU, .sqrtgSc, .sqrtgS, .sqrtgSuc, .sqrtgSu]),
      (0x15, 0x01E, vaxConvert .d .g, vaxForms,
        [.cvtdgC, .cvtdg, .cvtdgUc, .cvtdgU, .cvtdgSc, .cvtdgS, .cvtdgSuc, .cvtdgSu]),
      (0x15, 0x02C, vaxConvert .g .f, vaxForms,
        [.cvtgfC, .cvtgf, .cvtgfUc, .cvtgfU, .cvtgfSc, .cvtgfS, .cvtgfSuc, .cvtgfSu]),
      (0x15, 0x02D, vaxConvert .g .d, vaxForms,
        [.cvtgdC, .cvtgd, .cvtgdUc, .cvtgdU, .cvtgdSc, .cvtgdS, .cvtgdSuc, .cvtgdSu]),
      (0x15, 0x02F, vaxToInt, vaxForms,
        [.cvtgqC, .cvtgq, .cvtgqVc, .cvtgqV, .cvtgqSc, .cvtgqS, .cvtgqSvc, .cvtgqSv]),
      (0x15, 0x03C, vaxOfInt .f, [(vaxNone, .chopped), (vaxNone, .normal)], [.cvtqfC, .cvtqf]),
      (0x15, 0x03E, vaxOfInt .g, [(vaxNone, .chopped), (vaxNone, .normal)], [.cvtqgC, .cvtqg])]
      : List (Nat × Nat × (Rounding → Word → FpResult) × List (TrapQual × RoundField) × List (Reg → Reg → Reg → Instr))),
    ∀ q ∈ List.zip p.2.2.2.2 p.2.2.2.1, ∀ fa fb fc s, FpCode (q.1 fa fb fc) p.1 (formCode q.2 p.2.1) ∧
      FpOutcome s q.2.1 fc (p.2.2.1 (vaxRounding q.2.2) (readFp s fb)) (exec (q.1 fa fb fc) s)

/-- CPYS, CPYSN, CPYSE, CVTLQ, ITOFx, FTOIx and FCMOVx move bits; CVTQL does and may trap on IOV -/
def Obligations.FloatingMoves : Prop :=
  (∀ fa fb fc s,
    (∀ p ∈ ([(.cpys fa fb fc, 0x17, 0x020, ((readFp s fa).extractLsb' 63 1 ++ (readFp s fb).extractLsb' 0 63 : Word)),
        (.cpysn fa fb fc, 0x17, 0x021, (~~~((readFp s fa).extractLsb' 63 1) ++ (readFp s fb).extractLsb' 0 63 : Word)),
        (.cpyse fa fb fc, 0x17, 0x022, ((readFp s fa).extractLsb' 52 12 ++ (readFp s fb).extractLsb' 0 52 : Word)),
        (.cvtlq fa fb fc, 0x17, 0x010, ((readFp s fb).extractLsb' 62 2 ++ (readFp s fb).extractLsb' 29 30 : BitVec 32).signExtend 64),
        (.itofs fa fb fc, 0x14, 0x004, imageS (readInt s fa)), (.itoff fa fb fc, 0x14, 0x014, imageF (readInt s fa)),
        (.itoft fa fb fc, 0x14, 0x024, readInt s fa)] : List (Instr × Nat × Nat × Word)),
      FpCode p.1 p.2.1 p.2.2.1 ∧ FpOutcome s vaxNone fc (plainResult p.2.2.2) (exec p.1 s)) ∧
    (∀ p ∈ ([(.cvtql fa fb fc, 0x030, vaxNone), (.cvtqlV fa fb fc, 0x130, vaxU), (.cvtqlSv fa fb fc, 0x530, vaxSu)]
        : List (Instr × Nat × TrapQual)),
      FpCode p.1 0x17 p.2.1 ∧
      FpOutcome s p.2.2 fc
        { value := some ((readFp s fb).extractLsb' 30 2 ++ 0#3 ++ (readFp s fb).extractLsb' 0 30 ++ 0#29)
          conds := { noConds with iov := decide (readFp s fb ≠ ((readFp s fb).setWidth 32).signExtend 64) } }
        (exec p.1 s)) ∧
    (∀ p ∈ ([(.ftoit fa fb fc, 0x070, readFp s fa),
        (.ftois fa fb fc, 0x078, ((readFp s fa).extractLsb' 62 2 ++ (readFp s fa).extractLsb' 29 30 : BitVec 32).signExtend 64)]
        : List (Instr × Nat × Word)),
      FpCode p.1 0x1C p.2.1 ∧ (fpEnabled s = true → Completes (exec p.1 s) (WroteInt s fc p.2.2)) ∧
      (fpEnabled s = false → Completes (exec p.1 s) fun t => Entered s .fen 0x200 (faultPc s) t ∧ t.excSum.reg = fc))) ∧
    ∀ p ∈ ([(.fcmoveq, 0x02A, fun _ z => z), (.fcmovne, 0x02B, fun _ z => !z), (.fcmovlt, 0x02C, fun n z => n && !z),
        (.fcmovge, 0x02D, fun n z => !n || z), (.fcmovle, 0x02E, fun n z => n || z), (.fcmovgt, 0x02F, fun n z => !n && !z)]
        : List ((Reg → Reg → Reg → Instr) × Nat × (Bool → Bool → Bool))),
    ∀ fa fb fc s, FpCode (p.1 fa fb fc) 0x17 p.2.1 ∧
      (fpEnabled s = true → Completes (exec (p.1 fa fb fc) s) fun t =>
        if p.2.2 ((readFp s fa).getLsbD 63) (decide ((readFp s fa).toNat % 2 ^ 63 = 0)) then WroteFp s fc (readFp s fb) t
        else OnlyPc s (s.pc + 4) t) ∧
      (fpEnabled s = false → Completes (exec (p.1 fa fb fc) s) fun t =>
        Entered s .fen 0x200 (faultPc s) t ∧ t.excSum.reg = fc)

/-- MT_FPCR writes FPCR[63:48] and outside PALmode traps; MF_FPCR reads the FPCR -/
def Obligations.FpcrAccess : Prop :=
  ∀ fa fb fc s, FpCode (.mtFpcr fa fb fc) 0x17 0x024 ∧ FpCode (.mfFpcr fa fb fc) 0x17 0x025 ∧
    (fpEnabled s = true →
      (∀ w : Word, w = (readFp s fa).extractLsb' 48 16 ++ 0#48 →
        (s.palMode = true → Completes (exec (.mtFpcr fa fb fc) s) (OnlyPc { s with fpcr := w } (s.pc + 4))) ∧
        (s.palMode = false → Completes (exec (.mtFpcr fa fb fc) s) fun t =>
          Entered { s with fpcr := w } .mtFpcr 0x700 (trapPc s) t ∧ t.excSum = s.excSum)) ∧
      Completes (exec (.mfFpcr fa fb fc) s) (WroteFp s fa s.fpcr)) ∧
    (fpEnabled s = false → ∀ i ∈ [Instr.mtFpcr fa fb fc, .mfFpcr fa fb fc], Completes (exec i s) fun t =>
      Entered s .fen 0x200 (faultPc s) t ∧ t.excSum.reg = fc)

/-- Which conditions are reported, which status bits PALcode should set, and when ARITH is taken -/
def Obligations.FloatingTrapRule : Prop :=
  ∀ (s : State) (q : TrapQual) (c : FpConds) (fc : Reg) (x : ExcSum) (d : Nat → Prop), x = fpTrapSum s q fc c →
    (∀ n, d n ↔ q.ieee = true ∧ q.s = true ∧ s.fpcr.getLsbD n = true) →
    (x.inv = true ↔ c.inv = true ∧ (c.invForced = true ∨ ¬d 49)) ∧ (x.dze = true ↔ c.dze = true ∧ ¬d 50) ∧
    (x.fov = true ↔ c.ovf = true ∧ ¬d 51) ∧ (x.unf = true ↔ c.unf = true ∧ q.u = true ∧ ¬(d 61 ∧ d 60)) ∧
    (x.ine = true ↔ c.ine = true ∧ q.i = true ∧ ¬d 62) ∧ (x.iov = true ↔ c.iov = true ∧ q.u = true) ∧
    (∀ p ∈ [(x.setInv, c.inv, 52), (x.setDze, c.dze, 53), (x.setOvf, c.ovf, 54), (x.setUnf, c.unf, 55), (x.setIne, c.ine, 56),
        (x.setIov, c.iov, 57)], p.1 = true ↔ p.2.1 = true ∧ s.fpcr.getLsbD p.2.2 = false) ∧
    x.int = false ∧ x.swc = q.s ∧ x.reg = fc ∧ x.pcOvfl = false ∧ x.badIva = false ∧
    (fpTraps s q c = true ↔ true ∈ [x.inv, x.dze, x.fov, x.unf, x.ine, x.iov, x.setInv, x.setDze, x.setOvf, x.setUnf, x.setIne,
      x.setIov])

/-- IEEE sums, products, quotients, roots and conversions of numbers are the exact results, rounded once -/
def Obligations.IeeeArithmeticIsCorrectlyRounded : Prop :=
  ∀ (m : FpFormat) (c : IeeeCtx) (a b : Word), (m = .s ∨ m = .t) → c.mode ≠ .nearestAway → ieeeClass a = .finite →
    ((m = .s → isSImage a = true) →
      (ieeeClass b = .finite → (m = .s → isSImage b = true) →
        ∀ p ∈ ([(ieeeAdd, (ieeeNumber a : ℝ) + ieeeNumber b), (ieeeSub, (ieeeNumber a : ℝ) - ieeeNumber b),
            (ieeeMul, (ieeeNumber a : ℝ) * ieeeNumber b), (ieeeDiv, (ieeeNumber a : ℝ) / ieeeNumber b)]
            : List ((FpFormat → IeeeCtx → Word → Word → FpResult) × ℝ)),
          (p.2 = 0 → p.1 m c a b = plainResult (signedZero (c.mode == .minus))) ∧
          (p.2 ≠ 0 → DeliversIeee m c.mode p.2 (p.1 m c a b))) ∧
      (a.getLsbD 63 = false → DeliversIeee m c.mode (Real.sqrt (ieeeNumber a)) (ieeeSqrt m c a))) ∧
    DeliversIeee .s c.mode (ieeeNumber a) (ieeeToS c a) ∧ (isSImage a = true → ieeeToT c a = plainResult a) ∧
    ieeeOfInt m c 0 = plainResult 0 ∧
    (b ≠ 0 → DeliversIeee m c.mode (b.toInt : ℝ) (ieeeOfInt m c b))

/-- VAX sums, products, quotients, roots and conversions are the exact results, rounded once -/
def Obligations.VaxArithmeticIsCorrectlyRounded : Prop :=
  ∀ (m : FpFormat) (r : Rounding) (a b : Word), (m = .f ∨ m = .g) → (r = .chopped ∨ r = .nearestAway) →
    (vaxClass .g a ≠ .bad → vaxClass .g b ≠ .bad →
      (∀ p ∈ ([(vaxAdd, (vaxNumber a : ℝ) + vaxNumber b), (vaxSub, (vaxNumber a : ℝ) - vaxNumber b),
            (vaxMul, (vaxNumber a : ℝ) * vaxNumber b)] : List ((FpFormat → Rounding → Word → Word → FpResult) × ℝ)),
          (p.2 = 0 → p.1 m r a b = plainResult 0) ∧ (p.2 ≠ 0 → DeliversVax m r p.2 (p.1 m r a b))) ∧
      (b = 0 → vaxDiv m r a b = { value := none, conds := { noConds with dze := true } }) ∧
      (b ≠ 0 → a = 0 → vaxDiv m r a b = plainResult 0) ∧
      (b ≠ 0 → a ≠ 0 → DeliversVax m r ((vaxNumber a : ℝ) / vaxNumber b) (vaxDiv m r a b))) ∧
    (vaxClass .g a ≠ .bad →
      (a = 0 → vaxSqrt m r a = plainResult 0 ∧ vaxConvert .g .f r a = plainResult 0 ∧ vaxConvert .g .d r a = plainResult 0) ∧
      (a ≠ 0 → a.getLsbD 63 = true → vaxSqrt m r a = { value := none, conds := { noConds with inv := true } }) ∧
      (a ≠ 0 → a.getLsbD 63 = false → DeliversVax m r (Real.sqrt (vaxNumber a)) (vaxSqrt m r a)) ∧
      (a ≠ 0 → DeliversVax .f r (vaxNumber a) (vaxConvert .g .f r a) ∧ DeliversVax .d r (vaxNumber a) (vaxConvert .g .d r a))) ∧
    (vaxClass .d a ≠ .bad → (a = 0 → vaxConvert .d .g r a = plainResult 0) ∧
      (a ≠ 0 → DeliversVax .g r (vaxNumberD a) (vaxConvert .d .g r a))) ∧
    (a = 0 → vaxOfInt m r a = plainResult 0) ∧ (a ≠ 0 → DeliversVax m r (a.toInt : ℝ) (vaxOfInt m r a)) ∧
    (vaxClass .g a = .bad ∨ vaxClass .g b = .bad → ∀ f ∈ [vaxAdd m r, vaxSub m r, vaxMul m r, vaxDiv m r],
      f a b = { value := none, conds := { noConds with inv := true } }) ∧
    (vaxClass .g a = .bad → ∀ f ∈ [vaxSqrt m r, vaxConvert .g .f r, vaxConvert .g .d r, vaxToInt r],
      f a = { value := none, conds := { noConds with inv := true } }) ∧
    (vaxClass .d a = .bad → vaxConvert .d .g r a = { value := none, conds := { noConds with inv := true } })

/-- The floating compares, CVTTQ and CVTGQ on numbers and infinities -/
def Obligations.FloatingComparesAndIntegerConversions : Prop :=
  (∀ (c : IeeeCtx) (a b : Word), isNaN a = false → isNaN b = false → isDenormal a = false → isDenormal b = false →
      ieeeUnordered c a b = plainResult 0 ∧
      ieeeEqual c a b = plainResult (if ieeeOrder a = ieeeOrder b then 0x4000000000000000 else 0) ∧
      ieeeLess c a b = plainResult (if ieeeOrder a < ieeeOrder b then 0x4000000000000000 else 0) ∧
      ieeeLessEq c a b = plainResult (if ieeeOrder a ≤ ieeeOrder b then 0x4000000000000000 else 0)) ∧
    (∀ a b : Word, vaxClass .g a ≠ .bad → vaxClass .g b ≠ .bad →
      vaxEqual a b = plainResult (if vaxNumber a = vaxNumber b then 0x4000000000000000 else 0) ∧
      vaxLess a b = plainResult (if vaxNumber a < vaxNumber b then 0x4000000000000000 else 0) ∧
      vaxLessEq a b = plainResult (if vaxNumber a ≤ vaxNumber b then 0x4000000000000000 else 0)) ∧
    (∀ (c : IeeeCtx) (a : Word),
      (ieeeClass a = .finite → ∃ i : ℤ, RoundsToInt c.mode (ieeeNumber a) i ∧
        ieeeToInt c a =
          { value := some (BitVec.ofInt 64 i)
            conds := { noConds with inv := decide (¬(-2 ^ 63 ≤ i ∧ i < 2 ^ 63)), iov := decide (¬(-2 ^ 63 ≤ i ∧ i < 2 ^ 63)),
                                    ine := decide (ieeeNumber a ≠ i) } }) ∧
      (ieeeClass a = .zero → ieeeToInt c a = plainResult 0) ∧
      (ieeeClass a = .inf ∨ isNaN a = true → ieeeToInt c a = { value := some 0, conds := { noConds with inv := true } })) ∧
    ∀ (r : Rounding) (a : Word), vaxClass .g a ≠ .bad → ∃ i : ℤ, RoundsToInt r (vaxNumber a) i ∧
      vaxToInt r a =
        { value := some (BitVec.ofInt 64 i), conds := { noConds with iov := decide (¬(-2 ^ 63 ≤ i ∧ i < 2 ^ 63)) } }

/-- IEEE results for denormals, NaNs, infinities and zeros -/
def Obligations.IeeeSpecialOperands : Prop :=
  ∀ (m : FpFormat) (c : IeeeCtx) (a b : Word), (m = .s ∨ m = .t) → (m = .s → isSImage a = true ∧ isSImage b = true) →
    ∀ x : Bool, x = ((a.getLsbD 63) ^^ (b.getLsbD 63)) →
    -- denormal operands (R608)
    (isDenormal a = true ∨ isDenormal b = true → c.dnz = false →
      ∀ f ∈ [ieeeAdd m, ieeeSub m, ieeeMul m, ieeeDiv m, ieeeUnordered, ieeeEqual, ieeeLess, ieeeLessEq],
        f c a b = { value := none, conds := { noConds with inv := true, invForced := true } }) ∧
    (isDenormal a = true → c.dnz = false → ∀ f ∈ [ieeeSqrt m, ieeeToS, ieeeToT, ieeeToInt],
      f c a = { value := none, conds := { noConds with inv := true, invForced := true } }) ∧
    (isDenormal a = true → c.dnz = true →
      (∀ f ∈ [ieeeAdd m, ieeeSub m, ieeeMul m, ieeeDiv m, ieeeUnordered, ieeeEqual, ieeeLess, ieeeLessEq],
        f c a b = f c (a &&& 0x8000000000000000) b ∧ f c b a = f c b (a &&& 0x8000000000000000)) ∧
      ∀ f ∈ [ieeeSqrt m, ieeeToS, ieeeToInt], f c a = f c (a &&& 0x8000000000000000)) ∧
    -- NaN operands (R607 (c), (d))
    (isDenormal a = false → isDenormal b = false → isNaN a = true ∨ isNaN b = true → ∀ v : Word,
      v = (if isNaN b = true then b else a) ||| 0x0008000000000000 →
      (∀ f ∈ [ieeeAdd m, ieeeSub m, ieeeMul m, ieeeDiv m],
        f c a b = { value := some v, conds := { noConds with inv := isSNaN a || isSNaN b } }) ∧
      ieeeUnordered c a b = { value := some 0x4000000000000000, conds := { noConds with inv := isSNaN a || isSNaN b } } ∧
      ieeeEqual c a b = { value := some 0, conds := { noConds with inv := isSNaN a || isSNaN b } } ∧
      ∀ f ∈ [ieeeLess, ieeeLessEq], f c a b = { value := some 0, conds := { noConds with inv := true } }) ∧
    (isNaN a = true → ∀ v : Word, v = a ||| 0x0008000000000000 →
      ieeeSqrt m c a = { value := some v, conds := { noConds with inv := isSNaN a } } ∧
      ieeeToS c a = { value := some (v.extractLsb' 29 35 ++ 0#29), conds := { noConds with inv := isSNaN a } } ∧
      (isSImage a = true → ieeeToT c a = { value := some v, conds := { noConds with inv := isSNaN a } })) ∧
    -- infinities and zeros
    (ieeeClass b = .inf ∨ ieeeClass b = .zero ∨ ieeeClass b = .finite →
      ieeeSub m c a b = ieeeAdd m c a (b ^^^ 0x8000000000000000) ∧
      (ieeeClass a = .inf →
        ieeeAdd m c a b = (if ieeeClass b = .inf ∧ x = true then invalid 0xFFF8000000000000 else plainResult a) ∧
        ieeeMul m c a b = (if ieeeClass b = .zero then invalid 0xFFF8000000000000 else plainResult (signedInf x)) ∧
        ieeeMul m c b a = ieeeMul m c a b ∧
        ieeeDiv m c a b = (if ieeeClass b = .inf then invalid 0xFFF8000000000000 else plainResult (signedInf x)) ∧
        (ieeeClass b ≠ .inf → ieeeAdd m c b a = plainResult a ∧ ieeeDiv m c b a = plainResult (signedZero x))) ∧
      (ieeeClass a = .zero → ieeeClass b ≠ .inf →
        ieeeAdd m c a b = plainResult (if ieeeClass b = .finite ∨ x = false then b else signedZero (c.mode == .minus)) ∧
        ieeeAdd m c b a = ieeeAdd m c a b ∧ ieeeMul m c a b = plainResult (signedZero x) ∧
        ieeeMul m c b a = plainResult (signedZero x) ∧
        ieeeDiv m c a b = (if ieeeClass b = .zero then invalid 0xFFF8000000000000 else plainResult (signedZero x)) ∧
        (ieeeClass b = .finite →
          ieeeDiv m c b a = { value := some (signedInf x), conds := { noConds with dze := true } }))) ∧
    (ieeeClass a = .zero → ∀ f ∈ [ieeeSqrt m, ieeeToS, ieeeToT], f c a = plainResult a) ∧
    (ieeeClass a = .inf → (∀ f ∈ [ieeeToS, ieeeToT], f c a = plainResult a) ∧
      (a.getLsbD 63 = false → ieeeSqrt m c a = plainResult a)) ∧
    (ieeeClass a = .inf ∨ ieeeClass a = .finite → a.getLsbD 63 = true → ieeeSqrt m c a = invalid 0xFFF8000000000000)

/-- The barriers, hints and evictions only advance; RPCC, RC and RS read CC and the interrupt flag; WH64 leaves its block open -/
def Obligations.MiscellaneousInstructions : Prop :=
  ∀ ra rb s,
    (∀ p ∈ ([(.trapb ra rb, 0x0000), (.excb ra rb, 0x0400), (.wmb ra rb, 0x4400), (.fetch ra rb, 0x8000),
        (.fetchM ra rb, 0xA000), (.ecb ra rb, 0xE800)] : List (Instr × Nat)),
      MiscCode p.1 p.2 ∧ Completes (exec p.1 s) (OnlyPc s (s.pc + 4))) ∧
    MiscCode (.mb ra rb) 0x4000 ∧ (s.ackHeld = false → Completes (exec (.mb ra rb) s) (OnlyPc s (s.pc + 4))) ∧
    (s.ackHeld = true → exec (.mb ra rb) s = .next { s with waiting := true }) ∧
    (MiscCode (.rpcc ra rb) 0xC000 ∧ Completes (exec (.rpcc ra rb) s) (WroteInt s ra s.cc)) ∧
    (MiscCode (.rc ra rb) 0xE000 ∧ Completes (exec (.rc ra rb) s)
      (WroteInt { s with intrFlag := false } ra (if s.intrFlag then 1 else 0))) ∧
    (MiscCode (.rs ra rb) 0xF000 ∧ Completes (exec (.rs ra rb) s)
      (WroteInt { s with intrFlag := true } ra (if s.intrFlag then 1 else 0))) ∧
    MiscCode (.wh64 ra rb) 0xF800 ∧
    ∀ r : DataRef, r = writeHintRef s (readInt s rb) →
      (∀ acv fr fw, translateData s r = .error .miss ∨ translateData s r = .error (.violation acv fr fw) →
        Completes (exec (.wh64 ra rb) s) (OnlyPc s (s.pc + 4))) ∧
      ∀ pa : PhysAddr, translateData s r = .ok pa →
        (inIoSpace pa = true ∨ absent s pa = true → Completes (exec (.wh64 ra rb) s) (OnlyPc s (s.pc + 4))) ∧
        (inIoSpace pa = false → absent s pa = false → s.writeMany.getLsbD 18 = false →
          Completes (exec (.wh64 ra rb) s) (OnlyPc { s with cached := dirtied s (pa.extractLsb' 6 38) } (s.pc + 4))) ∧
        (inIoSpace pa = false → absent s pa = false → s.mem.wf = true → Completes (exec (.wh64 ra rb) s) fun t =>
          OnlyPc { s with mem := t.mem, free := t.free, cached := dirtied s (pa.extractLsb' 6 38) } (s.pc + 4) t ∧
          ∀ a, a / 64 ≠ pa.toNat / 64 → t.mem.readByte a = s.mem.readByte a)

/-- CALL_PAL enters PALcode at the address of its function with the link in R23, or takes OPCDEC -/
def Obligations.CallPal : Prop :=
  ∀ (fn : BitVec 26) (s : State), Opcode (.callPal fn) 0 ∧
    ∀ (k : Nat), k = fn.toNat →
      ((k ≤ 0x3F ∧ currentMode s = 0) ∨ (0x80 ≤ k ∧ k ≤ 0xBF) →
        Completes (exec (.callPal fn) s) fun t =>
          t.pc = (s.palBase &&& 0x00000FFFFFFF8000) +
            BitVec.ofNat 64 (if k ≤ 0x3F then 0x2000 + 64 * k else 0x3000 + 64 * (k - 0x80)) ∧
          WroteInt { s with palMode := true } 23 (trapPc s) { t with pc := s.pc + 4 }) ∧
      (¬((k ≤ 0x3F ∧ currentMode s = 0) ∨ (0x80 ≤ k ∧ k ≤ 0xBF)) →
        Completes (exec (.callPal fn) s) (Entered s .opcdec 0x400 (faultPc s)))

/-- HW_RET goes to R[b], takes PALmode from its bit 0, and with STALL performs the requested Icache flushes -/
def Obligations.HwRet : Prop :=
  ∀ ra rb hint stall disp s, Opcode (.hwRet ra rb hint stall disp) 0x1E ∧
    (palLegal s = true → ra ≠ 31 → exec (.hwRet ra rb hint stall disp) s = .refused .hwRetRa) ∧
    (palLegal s = true → ra = 31 → ∀ u : State,
      u = { s with palMode := (readInt s rb).getLsbD 0, viaJump := true } →
      (stall = 0 → Completes (exec (.hwRet ra rb hint stall disp) s) (OnlyPc u (readInt s rb &&& ~~~3#64))) ∧
      (stall = 1 → Completes (exec (.hwRet ra rb hint stall disp) s)
        (OnlyPc { u with
          icache := if s.icFlush then [] else if s.icFlushAsm then s.icache.filter (fun b => b.asm) else s.icache
          icFlush := false
          icFlushAsm := false } (readInt s rb &&& ~~~3#64))))

/-- HW_MFPR reads every internal processor register, and changes nothing but Ra -/
def Obligations.HwMfpr : Prop :=
  ∀ ra rb scbd s, palLegal s = true →
    (∀ index, Opcode (.hwMfpr ra rb index scbd) 0x19 ∧
      Completes (exec (.hwMfpr ra rb index scbd) s) fun t => ∃ v, WroteInt { s with free := t.free } ra v t) ∧
    (∀ p ∈ ([(0xC0, s.cc), (0xC2, s.va), (0x05, s.pmpc), (0x06, s.excAddr), (0x08, s.ierCm), (0x09, s.ierCm), (0x0A, s.ierCm),
        (0x0B, s.ierCm), (0x0C, s.sirr), (0x0D, isum s), (0x10, s.palBase), (0x16, s.iStat), (0x27, s.mmStat), (0x2A, s.dcStat)]
        : List (BitVec 8 × Word)), Completes (exec (.hwMfpr ra rb p.1 scbd) s) (WroteInt s ra p.2)) ∧
    (∀ index, 0x40 ≤ index.toNat → index.toNat ≤ 0x7F → Completes (exec (.hwMfpr ra rb index scbd) s) (WroteInt s ra s.pctx)) ∧
    (Completes (exec (.hwMfpr ra rb 0x0F scbd) s) fun t => ∃ v, WroteInt s ra v t ∧ excSumOf v = s.excSum ∧
      v.extractLsb' 48 16 = (if s.excSum.setIov then 0xFFFF else 0) ∧ v.extractLsb' 14 27 = 0) ∧
    (within iCtlMask s.iCtl = true → Completes (exec (.hwMfpr ra rb 0x11 scbd) s) fun t => ∃ v, WroteInt s ra v t ∧
      v &&& iCtlMask = s.iCtl ∧ v.extractLsb' 48 16 = (if s.iCtl.getLsbD 47 then 0xFFFF else 0) ∧
      v.extractLsb' 24 6 = Config.chipId ∧ v.getLsbD 23 = s.bistFail ∧ v.getLsbD 14 = s.slRcv) ∧
    (Completes (exec (.hwMfpr ra rb 0x14 scbd) s) fun t => ∃ v, WroteInt { s with free := t.free } ra v t ∧
      (pctr0Enabled s = true → v.extractLsb' 28 20 = s.pctr.pctr0) ∧
      (v.extractLsb' 28 20 - s.pctr.pctr0).toNat ≤ 4 ∧
      v.extractLsb' 48 16 = (if v.getLsbD 47 then 0xFFFF else 0) ∧
      (pctr1Enabled s = true → s.pctr.sl0 = true ∨ s.pctr.sl1 ≠ 1 → v.extractLsb' 6 20 = s.pctr.pctr1) ∧
      v.getLsbD 27 = s.pctr.pmStalled ∧ v.getLsbD 26 = s.pctr.pmKilledBm ∧ v.getLsbD 5 = false ∧ v.getLsbD 4 = s.pctr.sl0 ∧
      v.extractLsb' 2 2 = s.pctr.sl1 ∧ v.getLsbD 1 = s.pctr.val ∧ v.getLsbD 0 = s.pctr.tak) ∧
    (Completes (exec (.hwMfpr ra rb 0x2B scbd) s) fun t => ∃ v, WroteInt { s with free := t.free } ra v t ∧
      v.extractLsb' 0 6 = s.cData) ∧
    ∀ p ∈ ([(0xC3, s.vaCtl.getLsbD 1, s.vaCtl.getLsbD 2, s.vaCtl, s.va),
        (0x07, s.iCtl.getLsbD 15, s.iCtl.getLsbD 16, (s.iCtl.setWidth 48).signExtend 64, s.excAddr)]
        : List (BitVec 8 × Bool × Bool × Word × Word)),
      (p.2.1 = false → p.2.2.1 = false → Completes (exec (.hwMfpr ra rb p.1 scbd) s) (WroteInt s ra
        (p.2.2.2.1.extractLsb' 33 31 ++ p.2.2.2.2.extractLsb' 13 30 ++ 0#3))) ∧
      (p.2.1 = true → p.2.2.1 = false → Completes (exec (.hwMfpr ra rb p.1 scbd) s) (WroteInt s ra
        (p.2.2.2.1.extractLsb' 43 21 ++ (p.2.2.2.2.extractLsb' 47 1).signExtend 5 ++ p.2.2.2.2.extractLsb' 13 35 ++ 0#3))) ∧
      (within iCtlMask s.iCtl = true → p.2.1 = false → p.2.2.1 = true →
        Completes (exec (.hwMfpr ra rb p.1 scbd) s) (WroteInt s ra
          (p.2.2.2.1.extractLsb' 30 34 ++ 0#8 ++ p.2.2.2.2.extractLsb' 13 19 ++ 0#3)))

/-- HW_MTPR writes the implemented bits of every register outside the TBs, and nothing else -/
def Obligations.HwMtprRegisters : Prop :=
  ∀ ra rb scbd s v, v = readInt s rb → palLegal s = true → ∀ stops : State → Prop,
    (∀ t, stops t ↔ pctr0Enabled s = true ∧ pctr0Enabled t = false ∧ 2 ^ 20 - 16 < s.pctr.pctr0.toNat ∨
      pctr1Enabled s = true ∧ pctr1Enabled t = false ∧ 2 ^ 20 - 4 < s.pctr.pctr1.toNat) →
    (∀ p ∈ ([(0xC0, { s with cc := v.extractLsb' 32 32 ++ s.cc.extractLsb' 0 32 }),
        (0xC1, { s with cc := s.cc.extractLsb' 32 32 ++ v.extractLsb' 4 28 ++ 0#4, ccEna := v.getLsbD 32 }),
        (0xC4, { s with vaCtl := v.extractLsb' 30 34 ++ 0#27 ++ v.extractLsb' 0 3 }),
        (0x08, s),
        (0x0C, { s with sirr := 0#35 ++ v.extractLsb' 14 15 ++ 0#14 }),
        (0x0E, { s with slReq := s.slReq && !v.getLsbD 32, crReq := s.crReq && !v.getLsbD 31, pc1Req := s.pc1Req && !v.getLsbD 30,
                        pc0Req := s.pc0Req && !v.getLsbD 29, mchkDReq := s.mchkDReq && !v.getLsbD 28,
                        fbtp := s.fbtp || v.getLsbD 26 }),
        (0x10, { s with palBase := 0#20 ++ v.extractLsb' 15 29 ++ 0#15 }),
        (0x12, { s with icFlushAsm := true }), (0x13, { s with icFlush := true }),
        (0x16, { s with iStat := s.iStat &&& ~~~(v &&& 0x20000000) }),
        (0x17, { s with sleepArmed := true, asleep := s.sleepArmed || s.asleep }),
        (0x26, { s with dtbAltMode := v.extractLsb' 0 2 }),
        (0x28, { s with mCtl := 0#58 ++ v.extractLsb' 1 5 ++ 0#1 }),
        (0x2A, { s with dcStat := s.dcStat &&& ~~~(v &&& 0x1F) }),
        (0x2B, { s with writeMany := s.writeMany.extractLsb' 0 30 ++ v.extractLsb' 0 6 })] : List (BitVec 8 × State)),
      Completes (exec (.hwMtpr ra rb p.1 scbd) s) (OnlyPc p.2 (s.pc + 4))) ∧
    (∀ i1 i0 : Bool, Completes (exec (.hwMtpr ra rb (0b000010#6 ++ BitVec.ofBool i1 ++ BitVec.ofBool i0) scbd) s) fun t =>
      OnlyPc { s with ierCm := t.ierCm } (s.pc + 4) t ∧ ∀ n, n < 64 → t.ierCm.getLsbD n =
        if (i1 && decide (13 ≤ n ∧ n ≤ 38)) || (i0 && decide (n = 3 ∨ n = 4)) then v.getLsbD n else s.ierCm.getLsbD n) ∧
    (∀ (index : BitVec 8) (w : Word), index.extractLsb' 6 2 = 1#2 → (∀ n, n < 64 → w.getLsbD n =
        if (index.getLsbD 0 && decide (39 ≤ n ∧ n ≤ 46)) || (index.getLsbD 1 && decide (5 ≤ n ∧ n ≤ 8))
          || (index.getLsbD 2 && decide (9 ≤ n ∧ n ≤ 12)) || (index.getLsbD 3 && decide (n = 1)) || (index.getLsbD 4 && decide (n = 2))
        then v.getLsbD n else s.pctx.getLsbD n) →
      (¬stops { s with pctx := w } → Completes (exec (.hwMtpr ra rb index scbd) s) (OnlyPc { s with pctx := w } (s.pc + 4))) ∧
      (stops { s with pctx := w } → exec (.hwMtpr ra rb index scbd) s = .fault .counterNearOverflow)) ∧
    (v.extractLsb' 1 2 ≠ 0#2 → ∀ t : State,
      t = { s with iCtl := 0#16 ++ v.extractLsb' 30 18 ++ 0#7 ++ v.extractLsb' 15 8 ++ 0#1 ++ v.extractLsb' 0 14 } →
      (¬stops t → Completes (exec (.hwMtpr ra rb 0x11 scbd) s) (OnlyPc t (s.pc + 4))) ∧
      (stops t → exec (.hwMtpr ra rb 0x11 scbd) s = .fault .counterNearOverflow)) ∧
    (v.extractLsb' 1 2 = 0#2 → exec (.hwMtpr ra rb 0x11 scbd) s = .fault .noCacheSetEnabled) ∧
    (v.getLsbD 2 = false → v.extractLsb' 0 2 ≠ 0#2 → Completes (exec (.hwMtpr ra rb 0x29 scbd) s)
      (OnlyPc { s with dcCtl := 0#56 ++ v.extractLsb' 4 4 ++ 0#2 ++ v.extractLsb' 0 2 } (s.pc + 4))) ∧
    (v.getLsbD 2 = true → exec (.hwMtpr ra rb 0x29 scbd) s = .fault .forceHit) ∧
    (v.getLsbD 2 = false → v.extractLsb' 0 2 = 0#2 → exec (.hwMtpr ra rb 0x29 scbd) s = .fault .noCacheSetEnabled) ∧
    (∃ c : BitVec 20, (v.getLsbD 4 = false → c = v.extractLsb' 28 20) ∧ (c - v.extractLsb' 28 20).toNat ≤ 4 ∧
      ∀ leaves : Prop, (leaves ↔ pctr0Enabled s = false ∧ 2 ^ 20 - 16 < c.toNat ∨
        pctr1Enabled s = false ∧ 2 ^ 20 - 4 < (v.extractLsb' 6 20).toNat) →
      (leaves → exec (.hwMtpr ra rb 0x14 scbd) s = .fault .counterNearOverflow) ∧
      (¬leaves → Completes (exec (.hwMtpr ra rb 0x14 scbd) s) fun t =>
        OnlyPc { s with
          pctr := { s.pctr with pctr0 := c, pctr1 := v.extractLsb' 6 20, sl0 := v.getLsbD 4, sl1 := v.extractLsb' 2 2 }
          pc0Req := s.pc0Req || decide (2 ^ 20 - 16 < s.pctr.pctr0.toNat)
          pc1Req := s.pc1Req || decide (2 ^ 20 - 4 < s.pctr.pctr1.toNat)
          pmStopped := false
          free := t.free } (s.pc + 4) t)) ∧
    (Completes (exec (.hwMtpr ra rb 0x15 scbd) s) fun t =>
      OnlyPc { s with intRegs := t.intRegs, shadow := t.shadow, fpRegs := t.fpRegs, free := t.free } (s.pc + 4) t) ∧
    (Completes (exec (.hwMtpr ra rb 0x2C scbd) s)
      (OnlyPc { s with cData := s.errorReg.extractLsb' 60 6, errorReg := s.errorReg <<< 6 } (s.pc + 4))) ∧
    ∀ index : BitVec 8, index.extractLsb' 6 2 ≠ 1#2 →
      index ∉ [0xC0, 0xC1, 0xC4, 0x00, 0x01, 0x02, 0x03, 0x04, 0x08, 0x09, 0x0A, 0x0B, 0x0C, 0x0E, 0x10, 0x11, 0x12, 0x13, 0x14,
        0x15, 0x16, 0x17, 0x20, 0xA0, 0x21, 0xA1, 0x26, 0xA2, 0xA3, 0x24, 0xA4, 0x25, 0xA5, 0x28, 0x29, 0x2A, 0x2B, 0x2C] →
      Completes (exec (.hwMtpr ra rb index scbd) s) (OnlyPc s (s.pc + 4))

/-- HW_MTPR fills and invalidates the ITB and the DTB entry by entry -/
def Obligations.HwMtprTranslationBuffers : Prop :=
  ∀ ra rb scbd s v, v = readInt s rb → palLegal s = true →
    (∀ p ∈ ([(0x20, { s with dtbTag0 := v.extractLsb' 13 35 }), (0xA0, { s with dtbTag1 := v.extractLsb' 13 35 }),
        (0x25, { s with dtbAsn0 := v.extractLsb' 56 8 }),
        (0xA5, { s with dtbAsn1 := v.extractLsb' 56 8 })] : List (BitVec 8 × State)),
      Completes (exec (.hwMtpr ra rb p.1 scbd) s) (OnlyPc p.2 (s.pc + 4))) ∧
    ((s.ackHeld && s.iCtl.getLsbD 22) = false → Completes (exec (.hwMtpr ra rb 0x21 scbd) s)
      (OnlyPc { s with dtbPte0 := v } (s.pc + 4))) ∧
    ((s.ackHeld && s.iCtl.getLsbD 22) = true → exec (.hwMtpr ra rb 0x21 scbd) s = .next { s with waiting := true } ∧
      (s.palMode = true → exec (.hwMtpr ra rb 0x01 scbd) s = .next { s with waiting := true })) ∧
    (s.palMode = false → ∀ index ∈ ([0x00, 0x01, 0x02, 0x03, 0x04] : List (BitVec 8)),
      exec (.hwMtpr ra rb index scbd) s = .fault .itbWriteInNativeMode) ∧
    (s.palMode = true →
      Completes (exec (.hwMtpr ra rb 0x00 scbd) s) (OnlyPc { s with itbTag := v.extractLsb' 13 35 } (s.pc + 4)) ∧
      ((s.ackHeld && s.iCtl.getLsbD 22) = false → Completes (exec (.hwMtpr ra rb 0x01 scbd) s) (OnlyPc
        { s with
          itbPte := v
          itb := s.itb.set s.itbPtr.toNat
            { valid := true, tag := s.itbTag, asn := s.pctx.extractLsb' 39 8, asm := v.getLsbD 4, gh := v.extractLsb' 5 2,
              pfn := v.extractLsb' 13 31, re := v.extractLsb' 8 4 }
          itbPtr := s.itbPtr + 1 } (s.pc + 4))) ∧
      ∀ p ∈ ([(0x02, fun e => e.asm = true, s.itbPtr, s.itbInit), (0x03, fun _ => False, 0, true),
          (0x04, fun e => ¬EntryMatches e (s.pctx.extractLsb' 39 8) v, s.itbPtr, s.itbInit)]
          : List (BitVec 8 × (TbEntry → Prop) × BitVec 7 × Bool)),
        Completes (exec (.hwMtpr ra rb p.1 scbd) s) fun t =>
          OnlyPc { s with itb := t.itb, itbPtr := p.2.2.1, itbInit := p.2.2.2 } (s.pc + 4) t ∧ t.itb.length = s.itb.length ∧
          ∀ (n : Nat) (e : TbEntry), s.itb[n]? = some e →
            (p.2.1 e → t.itb[n]? = some e) ∧ (¬p.2.1 e → t.itb[n]? = some { e with valid := false })) ∧
    (∀ p ∈ ([(0xA2, fun e => e.asm = true, fun e => e.asm = true, s.dtbPtr), (0xA3, fun _ => False, fun _ => False, 0),
        (0x24, fun e => ¬EntryMatches e s.dtbAsn0 v, fun _ => True, s.dtbPtr),
        (0xA4, fun _ => True, fun e => ¬EntryMatches e s.dtbAsn1 v, s.dtbPtr)]
        : List (BitVec 8 × (TbEntry → Prop) × (TbEntry → Prop) × BitVec 7)),
      Completes (exec (.hwMtpr ra rb p.1 scbd) s) fun t =>
        OnlyPc { s with dtb0 := t.dtb0, dtb1 := t.dtb1, dtbPtr := p.2.2.2 } (s.pc + 4) t ∧
        t.dtb0.length = s.dtb0.length ∧ t.dtb1.length = s.dtb1.length ∧
        (∀ (n : Nat) (e : DtbEntry), s.dtb0[n]? = some e →
          (p.2.1 e.toTbEntry → t.dtb0[n]? = some e) ∧ (¬p.2.1 e.toTbEntry → t.dtb0[n]? = some { e with valid := false })) ∧
        ∀ (n : Nat) (e : DtbEntry), s.dtb1[n]? = some e →
          (p.2.2.1 e.toTbEntry → t.dtb1[n]? = some e) ∧ (¬p.2.2.1 e.toTbEntry → t.dtb1[n]? = some { e with valid := false })) ∧
    ∀ held0 held1 : Prop,
      (held0 ↔ ∃ e ∈ s.dtb0, EntryMatches e.toTbEntry s.dtbAsn0 (s.dtbTag0.setWidth 64 <<< 13)) →
      (held1 ↔ ∃ e ∈ s.dtb1, EntryMatches e.toTbEntry s.dtbAsn1 (s.dtbTag1.setWidth 64 <<< 13)) →
      ∀ new : BitVec 35 → Word → BitVec 8 → DtbEntry,
      (∀ tag pte asn, new tag pte asn =
        { valid := true, tag := tag, asn := asn, asm := pte.getLsbD 4, gh := pte.extractLsb' 5 2, pfn := pte.extractLsb' 32 31,
          re := pte.extractLsb' 8 4, we := pte.extractLsb' 12 4, fOnRead := pte.getLsbD 1, fOnWrite := pte.getLsbD 2 }) →
      Completes (exec (.hwMtpr ra rb 0xA1 scbd) s) fun t =>
        OnlyPc { s with dtbPte1 := v, dtb0 := t.dtb0, dtb1 := t.dtb1, dtbPtr := t.dtbPtr } (s.pc + 4) t ∧
        (held0 → t.dtb0 = s.dtb0) ∧
        (¬held0 → t.dtb0 = s.dtb0.set s.dtbPtr.toNat (new s.dtbTag0 s.dtbPte0 s.dtbAsn0)) ∧
        (held1 → t.dtb1 = s.dtb1) ∧ (¬held1 → t.dtb1 = s.dtb1.set s.dtbPtr.toNat (new s.dtbTag1 v s.dtbAsn1)) ∧
        (held0 ∧ held1 → t.dtbPtr = s.dtbPtr) ∧ (¬(held0 ∧ held1) → t.dtbPtr = s.dtbPtr + 1)

/-- HW_LD and HW_ST by type: physical, locked, virtual, write-checked, alternate mode, virtual PTE fetch -/
def Obligations.HwLoadAndStore : Prop :=
  ∀ (ra rb : Reg) (len : BitVec 1) (disp : BitVec 12) (s : State) (ea : Word) (n : Nat) (low : PhysAddr → PhysAddr),
    palLegal s = true → ea = readInt s rb + disp.signExtend 64 → n = (if len = 1 then 8 else 4) →
    (∀ pa, low pa = if len = 1 then pa &&& ~~~7#44 else pa &&& ~~~3#44) →
    Opcode (.hwLd ra rb 0 len disp) 0x1B ∧ Opcode (.hwSt ra rb 0 len disp) 0x1F ∧
    exec (.hwLd ra rb 3 len disp) s = .refused (.unusedAccessType 3) ∧
    (∀ ty ∈ ([3, 4, 5, 7] : List (BitVec 3)), exec (.hwSt ra rb ty len disp) s = .refused (.unusedAccessType ty)) ∧
    -- loads
    (∀ p ∈ ([(0, false), (1, true)] : List (BitVec 3 × Bool)), (s.tagErr && s.dcCtl.getLsbD 6) = false →
      ∀ near : Bool, near = (s.prefetches.any fun q => q.block == ea.extractLsb' 6 38 && decide (q.age ≤ 80)) →
      (ra ≠ 31 → Completes (exec (.hwLd ra rb p.1 len disp) s) fun t =>
        ∃ v u, Gets s (endianAddr s (low (ea.setWidth 44)) n) n v u ∧
          WroteInt { u with
            lockFlag := p.2 || s.lockFlag
            lockBlock := if p.2 then ea.extractLsb' 6 38 else s.lockBlock
            lockWatch := if p.2 then { LockWatch.idle with prefetched := near } else s.lockWatch } ra
            ((v.setWidth (8 * n)).signExtend 64) t) ∧
      (ra = 31 → Completes (exec (.hwLd ra rb p.1 len disp) s) (OnlyPc
        (if p.2 then { s with
          lockFlag := true
          lockBlock := ea.extractLsb' 6 38
          lockWatch := { LockWatch.idle with prefetched := near } }
         else notePrefetch s (ea.setWidth 44)) (s.pc + 4)))) ∧
    (∀ p ∈ ([(2, 0, false, true), (4, currentMode s, false, false), (5, currentMode s, true, false),
        (6, s.dtbAltMode, false, false), (7, s.dtbAltMode, true, false)] : List (BitVec 3 × BitVec 2 × Bool × Bool)),
      ∀ r : DataRef, r = { ea := ea, opcode := 0x1B, reg := ra, write := false, checkRead := true, checkWrite := p.2.2.1,
                           mode := p.2.1, vpte := p.2.2.2 } →
      (∀ pa, Reaches s r pa →
        (ra ≠ 31 → Completes (exec (.hwLd ra rb p.1 len disp) s) fun t => ∃ v u,
          Gets s (endianAddr s (low pa) n) n v u ∧ WroteInt u ra ((v.setWidth (8 * n)).signExtend 64) t) ∧
        (ra = 31 → Completes (exec (.hwLd ra rb p.1 len disp) s) (OnlyPc (notePrefetch s pa) (s.pc + 4)))) ∧
      (translateData s r = .error .miss →
        (p.2.2.2 = false → Completes (exec (.hwLd ra rb p.1 len disp) s)
          (Faulted s r .dtbmSingle 0x300 (mmWord 3 false false false false))) ∧
        (p.2.2.2 = true → Completes (exec (.hwLd ra rb p.1 len disp) s) fun t => t.excSum.reg = ra ∧
          if s.iCtl.getLsbD 15 then Entered s .dtbmDouble4 0x180 (faultPc s) t
          else Entered s .dtbmDouble3 0x100 (faultPc s) t)) ∧
      ∀ acv fr fw, translateData s r = .error (.violation acv fr fw) →
        (p.2.2.2 = false → Completes (exec (.hwLd ra rb p.1 len disp) s)
          (Faulted s r .dfault 0x380 (mmWord 3 fw fr acv false))) ∧
        (p.2.2.2 = true → Completes (exec (.hwLd ra rb p.1 len disp) s) fun t => t.excSum.reg = ra ∧
          Entered s .dfault 0x380 (faultPc s) t)) ∧
    -- stores
    (s.mem.wf = true → (s.tagErr && s.dcCtl.getLsbD 6) = false →
      (Completes (exec (.hwSt ra rb 0 len disp) s) fun t =>
        ∃ u, Puts s (endianAddr s (low (ea.setWidth 44)) n) n (readInt s ra) u ∧ t = { u with pc := s.pc + 4 }) ∧
      ∀ pa : PhysAddr, pa = low (ea.setWidth 44) → ∀ waits erratum wins : Prop,
        (waits ↔ s.ackHeld = true ∧ inIoSpace pa = false ∧ absent s pa = false ∧ dirtyAckInternal s (pa.extractLsb' 6 38) = false ∧
          pa.extractLsb' 6 38 = s.lockBlock ∧ (s.lockFlag = true ∨ s.lockWatch.stolen = true ∧ s.lockWatch.prefetched = true)) →
        (erratum ↔ inIoSpace pa = false ∧ absent s pa = false ∧ pa.extractLsb' 6 38 = s.lockBlock ∧
          s.lockWatch.stolen = true ∧ s.lockWatch.prefetched = true) →
        (wins ↔ inIoSpace pa = true ∨
          s.lockFlag = true ∧ pa.extractLsb' 6 38 = s.lockBlock ∧ platformGrants s (pa.extractLsb' 6 38) = true ∧ absent s pa = false) →
        (waits → exec (.hwSt ra rb 1 len disp) s = .next { s with waiting := true }) ∧
        (¬waits → ¬erratum → wins → Completes (exec (.hwSt ra rb 1 len disp) s) fun t =>
          ∃ u, Puts s (endianAddr s pa n) n (readInt s ra) u ∧ WroteInt u ra 1 t) ∧
        (¬waits → ¬erratum → ¬wins → Completes (exec (.hwSt ra rb 1 len disp) s) (WroteInt s ra 0)) ∧
        (¬waits → erratum → ∀ d : State, d = { s with free := s.free + 1 } → Completes (exec (.hwSt ra rb 1 len disp) s) fun t =>
          (∃ u, Puts d (endianAddr s pa n) n (readInt s ra) u ∧ WroteInt u ra 1 t) ∨ WroteInt d ra 0 t)) ∧
    ∀ p ∈ ([(2, currentMode s), (6, s.dtbAltMode)] : List (BitVec 3 × BitVec 2)),
      ∀ r : DataRef, r = { ea := ea, opcode := 0x1F, reg := ra, write := true, checkRead := false, checkWrite := true,
                           mode := p.2, vpte := false } →
      (∀ pa, s.mem.wf = true → Reaches s r pa → Completes (exec (.hwSt ra rb p.1 len disp) s) fun t =>
        ∃ u, Puts s (endianAddr s (low pa) n) n (readInt s ra) u ∧ t = { u with pc := s.pc + 4 }) ∧
      (translateData s r = .error .miss → Completes (exec (.hwSt ra rb p.1 len disp) s)
        (Faulted s r .dtbmSingle 0x300 (mmWord 7 false false false true))) ∧
      ∀ acv fr fw, translateData s r = .error (.violation acv fr fw) →
        Completes (exec (.hwSt ra rb p.1 len disp) s) (Faulted s r .dfault 0x380 (mmWord 7 fw fr acv true))

/-- An error event writes the status, the requests and ERROR_REG of its row; an armed tag error gives DFAULT -/
def Obligations.ErrorEventsAndTagParity : Prop :=
  (∀ (s : State) (rest : List EnvEvent) (e : ErrorEvent) (on : Bool), s.env = .error e :: rest →
      (on = if e.kind ∈ [.icacheParity, .dupTagPerr, .bcTagPerr] then true
        else if e.kind ∈ [.dcTagPerrIssue, .dcTagPerrRetry] then s.dcCtl.getLsbD 6
        else s.dcCtl.getLsbD 7 && (e.kind != .probeBcErr || s.writeOnce.enableProbeCheck)) →
      (on = false → step s = .next { s with env := rest }) ∧
      (on = true → Completes (step s) fun t =>
        { t with dcStat := s.dcStat, iStat := s.iStat, crReq := s.crReq, mchkDReq := s.mchkDReq, mchkIReq := s.mchkIReq,
                 icache := s.icache, tagErr := s.tagErr, errorReg := s.errorReg, free := s.free, env := s.env } = s ∧
        t.env = rest ∧
        t.iStat = (if e.kind = .icacheParity then s.iStat ||| 0x20000000 else s.iStat) ∧
        t.dcStat = (if e.kind ∈ [.dcEccLoad, .dcEccSpecLoad, .bcEccDfill, .memEccDfill, .bcVictimOnMiss] then s.dcStat ||| 0x8
          else if e.kind = .dcEccStore then s.dcStat ||| 0x4 else if e.kind = .dcStoreSecond then s.dcStat ||| 0x14
          else if e.kind = .dcTagPerrRetry then s.dcStat ||| (if e.pipe1 then 0x2 else 0x1) else s.dcStat) ∧
        t.crReq = (s.crReq || decide (e.kind ∈ [.icacheParity, .dcEccLoad, .dcEccSpecLoad, .dcEccStore, .bcEccIfill, .bcEccDfill,
          .bcEccSpecDfill, .bcVictim, .bcVictimOnMiss, .memEccIfill, .memEccDfill, .memEccSpecDfill, .probeBcErr])) ∧
        t.mchkDReq = (s.mchkDReq || (decide (e.kind ∈ [.dcTagPerrRetry, .dcStoreSecond, .dupTagPerr, .bcTagPerr, .bcDblDfill,
          .memDblDfill]) && s.iCtl.getLsbD 21)) ∧
        t.mchkIReq = (s.mchkIReq || (decide (e.kind ∈ [.bcEccIfill, .memEccIfill, .bcDblIfill, .memDblIfill]) && s.iCtl.getLsbD 21)) ∧
        t.icache = (if e.kind ∈ [.icacheParity, .bcEccIfill, .memEccIfill] then [] else s.icache) ∧
        t.tagErr = (s.tagErr || decide (e.kind = .dcTagPerrIssue)) ∧
        (e.kind ∈ [.icacheParity, .dcTagPerrIssue, .dcTagPerrRetry, .dcEccStore, .dcEccVictim, .dcStoreSecond, .bcVictim,
          .bcVictimOnMiss, .bcVictimOnEcb] → t.errorReg = s.errorReg) ∧
        (∀ p ∈ ([(.dcEccLoad, 0b00101), (.dupTagPerr, 0b00010), (.bcTagPerr, 0b00001), (.bcEccIfill, 0b01100), (.bcEccDfill, 0b00100),
            (.memEccIfill, 0b01011), (.memEccDfill, 0b00011), (.dcEccSpecLoad, 0), (.bcEccSpecDfill, 0), (.memEccSpecDfill, 0),
            (.probeBcErr, if e.codeBit then 0b00111 else 0b00110)] : List (ErrorCase × BitVec 5)),
          e.kind = p.1 → t.errorReg.extractLsb' 16 5 = p.2) ∧
        (∀ p ∈ ([(.bcDblIfill, 0b11100), (.bcDblDfill, 0b10100), (.memDblIfill, 0b11011), (.memDblDfill, 0b10011)]
            : List (ErrorCase × BitVec 5)), e.kind = p.1 →
          if s.writeOnce.skewedFillMode then t.errorReg.getLsbD 20 = true
          else t.errorReg.extractLsb' 16 5 = p.2 ∧ t.errorReg.extractLsb' 25 37 = e.addr) ∧
        (e.kind = .dcEccLoad → t.errorReg.extractLsb' 25 14 = e.addr.extractLsb' 0 14 ∧
          t.errorReg.extractLsb' 39 23 = s.errorReg.extractLsb' 39 23) ∧
        (e.kind ∈ [.dupTagPerr, .bcTagPerr, .bcEccIfill, .bcEccDfill, .memEccIfill, .memEccDfill, .probeBcErr] →
          t.errorReg.extractLsb' 25 37 = e.addr) ∧
        (e.kind ∈ [.bcEccIfill, .bcEccDfill, .memEccIfill, .memEccDfill, .probeBcErr] →
          t.errorReg.extractLsb' 21 4 = e.sts ∧ t.errorReg.extractLsb' 8 8 = e.syn0 ∧ t.errorReg.extractLsb' 0 8 = e.syn1))) ∧
    ∀ (s : State) (parity : Word → Nat → Bool → Reg → State → Prop), s.tagErr = true → s.dcCtl.getLsbD 6 = true →
      (∀ ea op wr reg t, parity ea op wr reg t ↔ t.excSum.reg = reg ∧
        Entered { s with tagErr := false, va := ea, mmStat := 0x400 ||| mmWord op false false false wr } .dfault 0x380 (faultPc s) t) →
      (∀ p ∈ ([(.ldbu, 0x0A, 1, false), (.ldwu, 0x0C, 2, false), (.ldl, 0x28, 4, false), (.ldq, 0x29, 8, false),
        (.ldlL, 0x2A, 4, false), (.ldqL, 0x2B, 8, false), (.stqU, 0x0F, 1, true), (.stb, 0x0E, 1, true),
        (.stw, 0x0D, 2, true), (.stl, 0x2C, 4, true), (.stq, 0x2D, 8, true), (.stlC, 0x2E, 4, true),
        (.stqC, 0x2F, 8, true)]
          : List ((Reg → Reg → BitVec 16 → Instr) × BitVec 6 × Nat × Bool)), ∀ ra rb disp r pa,
        r = (if p.2.2.2 then storeRef else loadRef) s p.2.1 ra (effAddr s rb disp) → r.ea.toNat % p.2.2.1 = 0 → translateData s r = .ok pa →
        Completes (exec (p.1 ra rb disp) s) (parity r.ea p.2.1.toNat p.2.2.2 ra)) ∧
      (∀ ra rb disp r pa, ra ≠ 31 → r = loadRef s 0x0B ra (effAddr s rb disp) → translateData s r = .ok pa →
        Completes (exec (.ldqU ra rb disp) s) (parity r.ea 0x0B false ra)) ∧
      (∀ p ∈ ([(.ldf, 0x20, 4, false), (.ldg, 0x21, 8, false), (.lds, 0x22, 4, false), (.ldt, 0x23, 8, false),
        (.stf, 0x24, 4, true), (.stg, 0x25, 8, true), (.sts, 0x26, 4, true), (.stt, 0x27, 8, true)]
          : List ((Reg → Reg → BitVec 16 → Instr) × BitVec 6 × Nat × Bool)), ∀ fa rb disp r pa,
        r = (if p.2.2.2 then storeRef else loadRef) s p.2.1 fa (effAddr s rb disp) → (fpEnabled s = true ∨ fa = 31 ∧ p.2.2.2 = false) →
        r.ea.toNat % p.2.2.1 = 0 → translateData s r = .ok pa →
        Completes (exec (p.1 fa rb disp) s) (parity r.ea p.2.1.toNat p.2.2.2 fa)) ∧
      ∀ (ra rb : Reg) (len : BitVec 1) (disp : BitVec 12) (ea : Word), palLegal s = true → ea = readInt s rb + disp.signExtend 64 →
        (∀ ty ∈ ([0, 1] : List (BitVec 3)), Completes (exec (.hwLd ra rb ty len disp) s) (parity ea 3 false ra) ∧
          Completes (exec (.hwSt ra rb ty len disp) s) (parity ea 7 true ra)) ∧
        (∀ p ∈ ([(4, currentMode s, false), (5, currentMode s, true), (6, s.dtbAltMode, false), (7, s.dtbAltMode, true)]
            : List (BitVec 3 × BitVec 2 × Bool)), ∀ r pa,
          r = { ea := ea, opcode := 0x1B, reg := ra, write := false, checkRead := true, checkWrite := p.2.2, mode := p.2.1, vpte := false } →
          translateData s r = .ok pa → Completes (exec (.hwLd ra rb p.1 len disp) s) (parity ea 3 false ra)) ∧
        (∀ p ∈ ([(2, currentMode s), (6, s.dtbAltMode)] : List (BitVec 3 × BitVec 2)), ∀ r pa,
          r = { ea := ea, opcode := 0x1F, reg := ra, write := true, checkRead := false, checkWrite := true, mode := p.2, vpte := false } →
          translateData s r = .ok pa → Completes (exec (.hwSt ra rb p.1 len disp) s) (parity ea 7 true ra)) ∧
        ∀ r pa,
          r = { ea := ea, opcode := 0x1B, reg := ra, write := false, checkRead := true, checkWrite := false, mode := 0, vpte := true } →
          translateData s r = .ok pa → Completes (exec (.hwLd ra rb 2 len disp) s) fun t => t.excSum.reg = ra ∧
            Entered { s with tagErr := false } .dfault 0x380 (faultPc s) t

/-- What the two counters add, when they wrap and request their interrupts, and what ProfileMe records -/
def Obligations.PerformanceCounters : Prop :=
  ∀ (pre s t : State) (w : Option (BitVec 32)), t = account pre w s →
    (pctr0Enabled s = true ↔ s.iCtl.getLsbD 18 = true ∧ (s.iCtl.getLsbD 0 = true ∨ s.pctx.getLsbD 1 = true)) ∧
    (pctr1Enabled s = true ↔ s.iCtl.getLsbD 19 = true ∧ (s.iCtl.getLsbD 0 = true ∨ s.pctx.getLsbD 1 = true)) ∧
    (retires w s = true ↔ ∃ x, w = some x ∧ isSquashed x = false ∧ isPctrWrite x = false ∧
      (s.trap = none ∧ s.waiting = false ∨ s.trap = some .arith ∨ s.trap = some .mtFpcr)) ∧
    -- aggregate mode
    (pre.pctr.sl0 = false → s.pctr.sl0 = false → ∀ n0 n1 : Nat,
      n0 = (if pctr0Enabled s = false then 0 else if s.pctr.sl1.getLsbD 0 then cyclesNow s else if retires w s then 1 else 0) →
      n1 = (if pctr1Enabled s = true ∧ s.pctr.sl1 = 0 then cyclesNow s else 0) →
      t.pctr.pctr0.toNat = (s.pctr.pctr0.toNat + n0) % 2 ^ 20 ∧ t.pctr.pctr1.toNat = (s.pctr.pctr1.toNat + n1) % 2 ^ 20 ∧
      t.pc0Req = (s.pc0Req || decide (2 ^ 20 ≤ s.pctr.pctr0.toNat + n0)) ∧
      t.pc1Req = (s.pc1Req || decide (2 ^ 20 ≤ s.pctr.pctr1.toNat + n1)) ∧
      t.pctr = { s.pctr with pctr0 := t.pctr.pctr0, pctr1 := t.pctr.pctr1 } ∧
      t.pmpc = s.pmpc ∧ t.iStat = s.iStat ∧ t.pmStopped = s.pmStopped) ∧
    -- ProfileMe mode
    (pre.pctr.sl0 = true → s.pctr.sl0 = true → ∀ n : Nat, n = (if w.any isCondMove then 2 else 1) →
      (pctr0Enabled pre = false ∨ pctr0Enabled s = false ∨ pre.pmStopped = true → t.pctr = s.pctr ∧ t.pmpc = s.pmpc ∧ t.iStat = s.iStat ∧
        t.pc0Req = s.pc0Req ∧ t.pc1Req = s.pc1Req ∧ t.pmStopped = s.pmStopped) ∧
      (pctr0Enabled pre = true → pctr0Enabled s = true → pre.pmStopped = false → s.waiting = false → w.any isPctrWrite = false →
        (pre.pctr.pctr0.toNat + n < 2 ^ 20 → t.pctr = { s.pctr with pctr0 := s.pctr.pctr0 + BitVec.ofNat 20 n } ∧
          t.pmpc = s.pmpc ∧ t.iStat = s.iStat ∧ t.pc0Req = s.pc0Req ∧ t.pc1Req = s.pc1Req ∧ t.pmStopped = s.pmStopped) ∧
        (2 ^ 20 ≤ pre.pctr.pctr0.toNat + n →
          t.pc0Req = true ∧ t.pmStopped = true ∧ t.pctr.val = completed s ∧ t.pctr.sl0 = true ∧ t.pctr.sl1 = s.pctr.sl1 ∧
          (∀ d, w.bind (branchDirection pre) = some d → t.pctr.tak = d) ∧
          (pctr1Enabled s = false ∨ s.pctr.sl1 ≠ 0 → t.pctr.pctr1 = s.pctr.pctr1 ∧ t.pc1Req = s.pc1Req) ∧
          (s.trap = none → t.pmpc = faultPc pre) ∧
          (∀ p ∈ ([(.itbMiss, 0x581), (.iacv, 0x481), (.interrupt, 0x681)] : List (Entry × Word)),
            s.trap = some p.1 → t.pmpc = (s.palBase &&& 0x00000FFFFFFF8000) + p.2) ∧
          ∀ p ∈ ([(.dtbmDouble3, 2), (.dtbmDouble4, 3), (.fen, 4), (.unalign, 5), (.dtbmSingle, 6), (.dfault, 7), (.opcdec, 8),
              (.mchk, 10), (.arith, 12), (.mtFpcr, 14), (.reset, 15)] : List (Entry × BitVec 4)),
            s.trap = some p.1 → t.pmpc = faultPc pre ∧ t.iStat.getLsbD 39 = true ∧ t.iStat.extractLsb' 34 4 = p.2)))

/-- Fault reset, warm reset, sleep and the wake-up -/
def Obligations.ResetsAndWakeUp : Prop :=
  (∀ (s : State) (rest : List EnvEvent), s.env = .faultReset :: rest →
      (s.sleepArmed = true → step s = .next { s with env := rest }) ∧
      (s.sleepArmed = false → Completes (step s) fun t => t = { s with
        pc := (s.palBase &&& 0x00000FFFFFFF8000) + 0x780, palMode := true, iCtl := s.iCtl ||| 6, pctx := s.pctx ||| 4, writeMany := 0,
        lockFlag := false, lockWatch := LockWatch.idle, excAddr := t.excAddr, viaJump := false, trap := some .reset,
        tagErr := false, waiting := false, prefetches := [], blocks := [], env := rest, free := t.free })) ∧
    (∀ (s : State) (rest : List EnvEvent), s.env = .warmReset :: rest → Completes (step s) fun t =>
      t.pc = 0x780 ∧ t.palMode = true ∧ t.palBase = 0 ∧ t.iCtl = 6 ∧ t.pctx = 4 ∧ t.writeMany = 0 ∧ t.lockFlag = false ∧
      t.vaCtl.extractLsb' 0 3 = 0#3 ∧ t.mCtl = 0 ∧ t.cached = [] ∧ t.dcCtl = 3 ∧ t.dtbTag0 = 0 ∧ t.dtbTag1 = 0 ∧ t.dtbPte0 = 0 ∧ t.dtbPte1 = 0 ∧
      t.dtbAsn0 = 0 ∧ t.dtbAsn1 = 0 ∧ t.itbPtr = 0 ∧ t.dtbPtr = 0 ∧ t.asleep = false ∧ t.mem = mainMemory s ∧ t.sleepArmed = false ∧
      t.irqPins = s.irqPins ∧ t.memMap = s.memMap ∧ t.srom = s.srom ∧ t.env = rest ∧
      t.pmpc.getLsbD 1 = false ∧ t.excAddr.getLsbD 1 = false ∧ t.errorReg.extractLsb' 62 4 = 0#4 ∧
      (s.srom = none → t.icache = [] ∧ t.writeOnce = s.writeOnce) ∧
      ∀ img, s.srom = some img → t.writeOnce = img.writeOnce ∧ ∀ b ∈ t.icache, b.pal = true ∧
        ∃ l0 l1 l2 l3, l0 ∈ img.lines ∧ l1 ∈ img.lines ∧ l2 ∈ img.lines ∧ l3 ∈ img.lines ∧
          l0.addr = b.tag.extractLsb' 0 38 ++ 0#6 ∧ l1.addr = l0.addr + 16 ∧ l2.addr = l0.addr + 32 ∧ l3.addr = l0.addr + 48 ∧
          b.words = l0.words ++ l1.words ++ l2.words ++ l3.words) ∧
    (∀ (s : State) (a : Nat), s.mem.wf = true → (s.cached.Pairwise fun b c => b.block ≠ c.block) →
      (∀ c ∈ s.cached, ∀ l, c.below = some l → l.length = 8) →
      (∀ c ∈ s.cached, ∀ l, c.below = some l → a / 64 = c.block.toNat →
        (mainMemory s).readByte a = byteOf (l.getD (a % 64 / 8) 0) (a % 8)) ∧
      ((∀ c ∈ s.cached, c.below = none ∨ c.block.toNat ≠ a / 64) → (mainMemory s).readByte a = s.mem.readByte a)) ∧
    ∀ s : State, s.env = [] → s.asleep = true →
      (isum s = 0 → step s = .next s) ∧
      (isum s ≠ 0 → Completes (step s) fun t =>
        t.pc = (s.palBase &&& 0x00000FFFFFFF8000) + 0x780 ∧ t.palMode = true ∧ t.palBase = s.palBase ∧ t.ierCm = s.ierCm ∧
        t.sirr = s.sirr ∧ t.slReq = s.slReq ∧ t.crReq = s.crReq ∧ t.pc0Req = s.pc0Req ∧ t.pc1Req = s.pc1Req ∧
        t.irqPins = s.irqPins ∧ isum t = isum s ∧ t.iCtl.extractLsb' 1 2 = 3#2 ∧ t.pctx.getLsbD 2 = true ∧ t.writeMany = 0 ∧
        t.lockFlag = false ∧ t.asleep = false ∧ t.sleepArmed = false ∧ t.icache = [] ∧ t.cached = [] ∧ t.mem = mainMemory s ∧ t.errorReg.extractLsb' 62 4 = 0#4 ∧
        t.writeOnce = s.writeOnce ∧ t.bistFail = s.bistFail)
end

