-- ==== Sys2Proof/Laws/Memory.lean ====
section
/-! SUPPORT. The memory laws: a write is read back, other bytes stay, and every memory operation keeps the canonical form. -/

namespace Sys2Proof.Machine

/-! ### One byte -/

theorem cellsAbove_cons (a : Nat) (c : Host.Cell) (l : List Host.Cell) :
    cellsAbove a (c :: l) = (decide (a < c.1) && cellsAbove a l) := rfl

theorem cellsAbove_mono {a b : Nat} {l : List Host.Cell} (h : a ≤ b) (hl : cellsAbove b l = true) : cellsAbove a l = true := by
  unfold cellsAbove at *
  rw [List.all_eq_true] at *
  intro c hc
  have := hl c hc
  simp only [decide_eq_true_eq] at *
  omega

theorem readCells_below {a : Nat} {l : List Host.Cell} (h : cellsAbove a l = true) : readCells l a = unlistedByte := by
  induction l with
  | nil => rfl
  | cons c rest ih =>
    obtain ⟨b, v⟩ := c
    simp only [cellsAbove_cons, Bool.and_eq_true, decide_eq_true_eq] at h
    have hne : b ≠ a := by omega
    simp only [readCells, if_neg hne]
    exact ih h.2

theorem cellsAbove_writeCells {b a : Nat} {v : Byte} {l : List Host.Cell} (hb : b < a) (hl : cellsAbove b l = true) :
    cellsAbove b (writeCells l a v) = true := by
  induction l with
  | nil => unfold writeCells; split <;> simp [cellsAbove, hb]
  | cons c rest ih =>
    obtain ⟨x, w⟩ := c
    simp only [cellsAbove_cons, Bool.and_eq_true, decide_eq_true_eq] at hl
    unfold writeCells
    split <;> (try split) <;> (try split) <;> simp_all [cellsAbove_cons]

theorem cellsWf_writeCells {a : Nat} {v : Byte} {l : List Host.Cell} (h : cellsWf l = true) :
    cellsWf (writeCells l a v) = true := by
  induction l with
  | nil => unfold writeCells; split <;> simp_all [cellsWf, cellsAbove]
  | cons c rest ih =>
    obtain ⟨x, w⟩ := c
    simp only [cellsWf, Bool.and_eq_true, bne_iff_ne, ne_eq] at h
    unfold writeCells
    split
    · rename_i hlt
      split
      · simp [cellsWf, h]
      · rename_i hv
        simp [cellsWf, h, hv, cellsAbove_cons, hlt, cellsAbove_mono (Nat.le_of_lt hlt) h.1.2]
    · split
      · rename_i hlt heq
        subst heq
        split
        · exact h.2
        · rename_i hv
          simp [cellsWf, h, hv]
      · rename_i hlt hne
        have hxa : x < a := by omega
        simp [cellsWf, h.1.1, cellsAbove_writeCells hxa h.1.2, ih h.2]

theorem readCells_writeCells {a : Nat} {v : Byte} {l : List Host.Cell} (h : cellsWf l = true) (b : Nat) :
    readCells (writeCells l a v) b = if b = a then v else readCells l b := by
  induction l with
  | nil =>
    unfold writeCells
    split
    · rename_i hv; subst hv; simp [readCells]
    · by_cases hb : a = b <;> simp [readCells, hb, eq_comm]
  | cons c rest ih =>
    obtain ⟨x, w⟩ := c
    simp only [cellsWf, Bool.and_eq_true, bne_iff_ne, ne_eq] at h
    unfold writeCells
    split
    · rename_i hlt
      have hab : cellsAbove a ((x, w) :: rest) = true := by
        simp [cellsAbove_cons, hlt, cellsAbove_mono (Nat.le_of_lt hlt) h.1.2]
      split
      · rename_i hv
        by_cases hb : b = a
        · subst hb; subst hv; simp [readCells_below hab]
        · simp [hb]
      · by_cases hb : b = a
        · subst hb; simp [readCells]
        · have : ¬ a = b := fun e => hb e.symm
          simp [readCells, hb, this]
    · split
      · rename_i hlt heq
        subst heq
        split
        · rename_i hv
          by_cases hb : b = a
          · subst hb; subst hv; simp [readCells_below h.1.2]
          · have : ¬ a = b := fun e => hb e.symm
            simp [readCells, hb, this]
        · by_cases hb : b = a
          · subst hb; simp [readCells]
          · have : ¬ a = b := fun e => hb e.symm
            simp [readCells, hb, this]
      · rename_i hlt hne
        by_cases hxb : x = b
        · subst hxb
          have : ¬ x = a := fun e => hne e.symm
          simp [readCells, this]
        · simp [readCells, hxb, ih h.2]

/-- A byte write keeps the canonical form. -/
theorem Memory.wf_writeByte {m : Memory} (h : m.wf = true) (a : Nat) (v : Byte) : (m.writeByte a v).wf = true :=
  cellsWf_writeCells h

/-- Reading after a byte write. -/
theorem Memory.readByte_writeByte {m : Memory} (h : m.wf = true) (a b : Nat) (v : Byte) :
    (m.writeByte a v).readByte b = if b = a then v else m.readByte b :=
  readCells_writeCells h b

/-! ### Several bytes -/

theorem getElem_onesLow (n i : Nat) (h : i < 64) : (onesLow n)[i] = decide (i < n) := by
  rw [BitVec.getElem_eq_testBit_toNat, onesLow, BitVec.toNat_ofNat, Nat.testBit_mod_two_pow, Nat.testBit_two_pow_sub_one]
  simp [h]

/-- A write keeps the canonical form. -/
theorem Memory.wf_write {m : Memory} (h : m.wf = true) (a n : Nat) (v : Word) : (m.write a n v).wf = true := by
  induction n generalizing m a v with
  | zero => exact h
  | succ n ih => exact ih (Memory.wf_writeByte h a _) _ _

/-- The bytes of memory after a write: byte `i` of the datum at `a + i`, every other byte as before. -/
theorem Memory.readByte_write {m : Memory} (h : m.wf = true) (a n : Nat) (v : Word) (b : Nat) :
    (m.write a n v).readByte b =
      if a ≤ b ∧ b < a + n then (v >>> (8 * (b - a))).setWidth 8 else m.readByte b := by
  induction n generalizing m a v with
  | zero => simp only [Memory.write]; split <;> [omega; rfl]
  | succ n ih =>
    simp only [Memory.write]
    rw [ih (Memory.wf_writeByte h a _), Memory.readByte_writeByte h]
    by_cases hb : b = a
    · subst hb
      have h1 : ¬ (b + 1 ≤ b ∧ b < b + 1 + n) := by omega
      have h2 : b ≤ b ∧ b < b + (n + 1) := by omega
      rw [if_neg h1, if_pos h2]
      simp
    · by_cases hr : a + 1 ≤ b ∧ b < a + 1 + n
      · have h2 : a ≤ b ∧ b < a + (n + 1) := by omega
        rw [if_pos hr, if_pos h2, ← BitVec.shiftRight_add]
        congr 2
        omega
      · have h2 : ¬ (a ≤ b ∧ b < a + (n + 1)) := by omega
        rw [if_neg hr, if_neg h2, if_neg hb]

/-- A byte outside the bytes written reads as before. -/
theorem Memory.readByte_write_other {m : Memory} (h : m.wf = true) {a n b : Nat} (v : Word) (hb : b < a ∨ a + n ≤ b) :
    (m.write a n v).readByte b = m.readByte b := by
  rw [Memory.readByte_write h, if_neg (by omega)]

/-- Memory operations agree on memories that agree byte by byte. -/
theorem Memory.read_congr {m m' : Memory} (h : ∀ a, m.readByte a = m'.readByte a) (a n : Nat) : m.read a n = m'.read a n := by
  induction n generalizing a with
  | zero => rfl
  | succ n ih => simp only [Memory.read, ih, h]

/-- What is read is what was written. -/
theorem Memory.read_write {m : Memory} (h : m.wf = true) (a n : Nat) (v : Word) :
    (m.write a n v).read a n = v &&& onesLow (8 * n) := by
  have key : ∀ k, k ≤ n → ∀ b, b = a + (n - k) →
      (m.write a n v).read b k = (v >>> (8 * (n - k))) &&& onesLow (8 * k) := by
    intro k
    induction k with
    | zero => intro _ b _; simp [Memory.read, onesLow]
    | succ k ih =>
      intro hk b hb
      simp only [Memory.read]
      rw [ih (by omega) (b + 1) (by omega), Memory.readByte_write h, if_pos (by omega)]
      have e1 : b - a = n - (k + 1) := by omega
      have e2 : n - k = (n - (k + 1)) + 1 := by omega
      rw [e1, e2]
      generalize n - (k + 1) = j
      ext i hi
      simp only [getElem_onesLow, BitVec.getElem_or, BitVec.getElem_shiftLeft, BitVec.getElem_and, BitVec.getElem_ushiftRight,
        BitVec.getElem_setWidth, BitVec.getLsbD_setWidth, BitVec.getLsbD_ushiftRight]
      by_cases h8 : i < 8
      · have : i < 8 * (k + 1) := by omega
        simp [h8, this]
      · have e3 : 8 * (j + 1) + (i - 8) = 8 * j + i := by omega
        by_cases h9 : i < 8 * (k + 1)
        · have : i - 8 < 8 * k := by omega
          simp [h8, h9, this, e3]
        · have : ¬ i - 8 < 8 * k := by omega
          simp [h8, h9, this]
  have := key n (Nat.le_refl n) a (by omega)
  simpa using this

theorem Memory.length_readQuads (m : Memory) (a n : Nat) : (m.readQuads a n).length = n := by
  induction n generalizing a with
  | zero => rfl
  | succ n ih => simp [Memory.readQuads, ih]

/-- A write of quadwords keeps the canonical form. -/
theorem Memory.wf_writeQuads {m : Memory} (h : m.wf = true) (a : Nat) (l : List Word) : (m.writeQuads a l).wf = true := by
  induction l generalizing m a with
  | nil => exact h
  | cons v l ih => exact ih (Memory.wf_write h a 8 v) _

/-- The bytes of memory after a write of quadwords. -/
theorem Memory.readByte_writeQuads {m : Memory} (h : m.wf = true) (a : Nat) (l : List Word) (b : Nat) :
    (m.writeQuads a l).readByte b =
      if a ≤ b ∧ b < a + 8 * l.length then (l.getD ((b - a) / 8) 0 >>> (8 * ((b - a) % 8))).setWidth 8 else m.readByte b := by
  induction l generalizing m a with
  | nil => simp only [Memory.writeQuads, List.length_nil]; rw [if_neg (by omega)]
  | cons v l ih =>
    simp only [Memory.writeQuads, List.length_cons]
    rw [ih (Memory.wf_write h a 8 v), Memory.readByte_write h]
    by_cases h1 : a + 8 ≤ b ∧ b < a + 8 + 8 * l.length
    · have e1 : (b - a) / 8 = (b - (a + 8)) / 8 + 1 := by omega
      have e2 : (b - a) % 8 = (b - (a + 8)) % 8 := by omega
      rw [if_pos h1, if_pos (by omega), e1, e2, List.getD_cons_succ]
    · rw [if_neg h1]
      by_cases h2 : a ≤ b ∧ b < a + 8
      · have e1 : (b - a) / 8 = 0 := by omega
        have e2 : (b - a) % 8 = b - a := by omega
        rw [if_pos h2, if_pos (by omega), e1, e2, List.getD_cons_zero]
      · rw [if_neg h2, if_neg (by omega)]

/-! ### The operations over physical memory -/

/-- A physical write keeps the canonical form. -/
theorem physWrite_wf {s : State} (h : s.mem.wf = true) (pa : PhysAddr) (n : Nat) (v : Word) :
    (physWrite s pa n v).mem.wf = true := by
  unfold physWrite
  split <;> [exact h; (split <;> [exact h; (split <;> exact Memory.wf_write h _ _ _)])]

/-- A physical read does not write memory. -/
theorem physRead_mem (s : State) (pa : PhysAddr) (n : Nat) : (physRead s pa n).2.mem = s.mem := by
  unfold physRead
  split <;> (split <;> rfl)

end Sys2Proof.Machine
end

