-- ==== Sys2Proof/Laws/Caches.lean ====
section
/-! SUPPORT. The states of the blocks in the data caches: each update leaves one state to a block, and what main memory holds. -/

namespace Sys2Proof.Machine

/-! ### The state of one block -/

/-- The other blocks keep their records. -/
theorem find_otherBlocks {s : State} {b c : BitVec 38} (h : c ≠ b) :
    (otherBlocks s b).find? (fun r => r.block == c) = cachedBlock s c := by
  unfold otherBlocks cachedBlock
  rw [List.find?_filter]
  congr 1
  funext r
  by_cases e : r.block = c <;> simp [e, h]

/-- A block that a store has touched is Dirty, over what main memory held (outside initialisation mode, R953). -/
theorem cachedBlock_dirtied {s t : State} {b : BitVec 38} (h : initMode s = false) (ht : t.cached = dirtied s b) :
    cachedBlock t b = some { block := b, shared := false, below := some (memoryBelow s b) } := by
  simp [cachedBlock, ht, dirtied, h]

/-- So a store-conditional to it asks the system nothing (R252). -/
theorem dirtyAckInternal_dirtied {s t : State} {b : BitVec 38} (h : initMode s = false) (ht : t.cached = dirtied s b) :
    dirtyAckInternal t b = true := by
  simp [dirtyAckInternal, writtenOver, isShared, cachedBlock_dirtied h ht]

/-! ### One state for each block -/

theorem otherBlocks_distinct {s : State} (h : s.cached.Pairwise fun b c => b.block ≠ c.block) (b : BitVec 38) :
    (otherBlocks s b).Pairwise fun b c => b.block ≠ c.block := h.filter _

/-- A record put before those of the other blocks. -/
theorem cons_otherBlocks_distinct {s : State} (h : s.cached.Pairwise fun b c => b.block ≠ c.block) (c : CachedBlock) :
    (c :: otherBlocks s c.block).Pairwise fun b c => b.block ≠ c.block :=
  List.pairwise_cons.mpr ⟨fun _ hd e => bne_iff_ne.mp (List.mem_filter.mp hd).2 e.symm, otherBlocks_distinct h _⟩

theorem dirtied_distinct {s : State} (h : s.cached.Pairwise fun b c => b.block ≠ c.block) (b : BitVec 38) :
    (dirtied s b).Pairwise fun b c => b.block ≠ c.block := by
  unfold dirtied; split <;> [exact otherBlocks_distinct h b; exact cons_otherBlocks_distinct h ⟨b, false, _⟩]

/-- Below a written block main memory holds eight quadwords. -/
theorem length_memoryBelow {s : State} (h : ∀ c ∈ s.cached, ∀ l, c.below = some l → l.length = 8) (b : BitVec 38) :
    (memoryBelow s b).length = 8 := by
  unfold memoryBelow writtenOver cachedBlock
  cases hf : s.cached.find? (fun c => c.block == b) with
  | none => exact Memory.length_readQuads _ _ _
  | some c =>
    cases hb : c.below with
    | none => simpa [hb] using Memory.length_readQuads _ _ _
    | some l => simpa [hb] using h c (List.mem_of_find?_eq_some hf) l hb

theorem dirtied_below {s : State} (h : ∀ c ∈ s.cached, ∀ l, c.below = some l → l.length = 8) (b : BitVec 38) :
    ∀ c ∈ dirtied s b, ∀ l, c.below = some l → l.length = 8 := by
  have ho : ∀ c ∈ otherBlocks s b, ∀ l, c.below = some l → l.length = 8 := fun c hc => h c (List.mem_filter.mp hc).1
  unfold dirtied
  split
  · exact ho
  · intro c hc
    rcases List.mem_cons.mp hc with rfl | hc
    · rintro l ⟨⟩; exact length_memoryBelow h b
    · exact ho c hc

/-! ### Evictions -/

/-- An eviction changes the records and memory only. -/
theorem evictBlock_frame (s : State) (b : BitVec 38) :
    evictBlock s b = { s with cached := otherBlocks s b, mem := (evictBlock s b).mem } := rfl

/-- Outside initialisation mode memory reads as before. -/
theorem evictBlock_mem {s : State} (h : initMode s = false) (b : BitVec 38) : (evictBlock s b).mem = s.mem := by simp [evictBlock, h]

theorem evictBlock_wf {s : State} (h : s.mem.wf = true) (b : BitVec 38) : (evictBlock s b).mem.wf = true := by
  unfold evictBlock; dsimp only; split <;> [exact Memory.wf_writeQuads h _ _; exact h]

/-- Making room evicts one of the victims, or there is none. -/
theorem makeRoom_cases (s : State) :
    (victims s = [] ∧ makeRoom s = s) ∨ ∃ d ∈ victims s, ∃ n, makeRoom s = evictBlock { s with free := n } d.block := by
  unfold makeRoom
  split
  · rename_i h; exact .inl ⟨h, rfl⟩
  · rename_i v h; exact .inr ⟨v, by simp [h], s.free, rfl⟩
  · rename_i v more _ h
    refine .inr ⟨_, ?_, _, rfl⟩
    rw [h, List.getD_eq_getElem _ _ (by simpa using Nat.mod_lt _ (Nat.succ_pos _))]
    exact List.getElem_mem _

/-- It changes the records, memory and the counter of free values only. -/
theorem makeRoom_frame (s : State) :
    makeRoom s = { s with cached := (makeRoom s).cached, mem := (makeRoom s).mem, free := (makeRoom s).free } := by
  rcases makeRoom_cases s with ⟨-, e⟩ | ⟨d, -, n, e⟩
  · rw [e]
  · rw [e]; rfl

/-- The records that are left were there before. -/
theorem makeRoom_sublist (s : State) : (makeRoom s).cached.Sublist s.cached := by
  rcases makeRoom_cases s with ⟨-, e⟩ | ⟨d, -, n, e⟩ <;> rw [e]
  exact List.filter_sublist

theorem makeRoom_wf {s : State} (h : s.mem.wf = true) : (makeRoom s).mem.wf = true := by
  rcases makeRoom_cases s with ⟨-, e⟩ | ⟨d, -, n, e⟩ <;> rw [e] <;> [exact h; exact evictBlock_wf (s := { s with free := n }) h _]

/-- A victim is one of the older records; it competes with the newest, it is not locked, and there are too many of its kind. -/
theorem mem_victims {s : State} {d : CachedBlock} (h : d ∈ victims s) :
    ∃ c rest, s.cached = c :: rest ∧ d ∈ rest ∧ compete s c.block d.block = true ∧ isLocked s d.block = false ∧
      roomFor s ≤ (rest.filter fun d => compete s c.block d.block).length := by
  unfold victims at h
  split at h
  · cases h
  · rename_i c rest e
    split at h
    · cases h
    · rename_i n
      obtain ⟨hd, hc⟩ := List.mem_filter.mp h
      simp only [Bool.and_eq_true, Bool.not_eq_true'] at hc
      exact ⟨c, rest, e, hd, hc.1, hc.2, Nat.le_of_not_lt n⟩

/-! ### Main memory -/

/-- Writing back, one record after the other. -/
def writeBelow (m : Memory) (c : CachedBlock) : Memory :=
  match c.below with
  | some l => m.writeQuads (64 * c.block.toNat) l
  | none => m

theorem mainMemory_eq (s : State) : mainMemory s = s.cached.foldl writeBelow s.mem := rfl

theorem wf_writeBelow {m : Memory} (h : m.wf = true) (c : CachedBlock) : (writeBelow m c).wf = true := by
  unfold writeBelow; split <;> [exact Memory.wf_writeQuads h _ _; exact h]

theorem wf_foldl_writeBelow (l : List CachedBlock) {m : Memory} (h : m.wf = true) : (l.foldl writeBelow m).wf = true := by
  induction l generalizing m with
  | nil => exact h
  | cons c l ih => exact ih (wf_writeBelow h c)

/-- Main memory is in canonical form. -/
theorem mainMemory_wf {s : State} (h : s.mem.wf = true) : (mainMemory s).wf = true := wf_foldl_writeBelow _ h

theorem readByte_writeBelow_other {m : Memory} (h : m.wf = true) {c : CachedBlock} (hl : ∀ l, c.below = some l → l.length = 8) {a : Nat}
    (ha : c.below = none ∨ c.block.toNat ≠ a / 64) : (writeBelow m c).readByte a = m.readByte a := by
  unfold writeBelow
  cases hb : c.below with
  | none => rfl
  | some l =>
    have := hl l hb
    rw [hb] at ha
    have ha := ha.resolve_left (by simp)
    simp only
    rw [Memory.readByte_writeQuads h, if_neg (by omega)]

theorem readByte_foldl_other (l : List CachedBlock) {m : Memory} (h : m.wf = true) (hl : ∀ c ∈ l, ∀ q, c.below = some q → q.length = 8)
    {a : Nat} (ha : ∀ c ∈ l, c.below = none ∨ c.block.toNat ≠ a / 64) : (l.foldl writeBelow m).readByte a = m.readByte a := by
  induction l generalizing m with
  | nil => rfl
  | cons c l ih =>
    rw [List.foldl_cons, ih (wf_writeBelow h c) (fun d hd => hl d (List.mem_cons_of_mem _ hd)) (fun d hd => ha d (List.mem_cons_of_mem _ hd)),
      readByte_writeBelow_other h (hl c (List.mem_cons_self ..)) (ha c (List.mem_cons_self ..))]

/-- A byte of no written block is in main memory as it reads. -/
theorem mainMemory_other {s : State} (h : s.mem.wf = true) (hl : ∀ c ∈ s.cached, ∀ q, c.below = some q → q.length = 8) {a : Nat}
    (ha : ∀ c ∈ s.cached, c.below = none ∨ c.block.toNat ≠ a / 64) : (mainMemory s).readByte a = s.mem.readByte a :=
  readByte_foldl_other _ h hl ha

/-- A byte of a written block is in main memory as it was before. -/
theorem mainMemory_written {s : State} (h : s.mem.wf = true) (hd : s.cached.Pairwise fun b c => b.block ≠ c.block)
    (hl : ∀ c ∈ s.cached, ∀ q, c.below = some q → q.length = 8) {c : CachedBlock} (hc : c ∈ s.cached) {q : List Word}
    (hq : c.below = some q) {a : Nat} (ha : a / 64 = c.block.toNat) :
    (mainMemory s).readByte a = (q.getD (a % 64 / 8) 0 >>> (8 * (a % 8))).setWidth 8 := by
  rw [mainMemory_eq]
  obtain ⟨l, r, e⟩ := List.append_of_mem hc
  rw [e] at hd hl ⊢
  have hr := (List.pairwise_cons.mp (List.pairwise_append.mp hd).2.1).1
  rw [List.foldl_append, List.foldl_cons]
  have w := wf_foldl_writeBelow l h
  rw [readByte_foldl_other r (wf_writeBelow w c) (fun d hd => hl d (by simp [hd]))
    (fun d hd' => .inr fun hx => hr d hd' (BitVec.eq_of_toNat_eq (by omega)))]
  have := hl c (by simp) q hq
  simp only [writeBelow, hq]
  rw [Memory.readByte_writeQuads w, if_pos (by omega)]
  have e1 : (a - 64 * c.block.toNat) / 8 = a % 64 / 8 := by omega
  have e2 : (a - 64 * c.block.toNat) % 8 = a % 8 := by omega
  rw [e1, e2]

/-! ### Prefetches with modify intent -/

/-- A prefetch with modify intent is a prefetch, and it may make its block Dirty and draw a free value. -/
theorem prefetchModify_cases (s : State) (pa : PhysAddr) :
    ∃ n, prefetchModify s pa = { notePrefetch s pa with free := n } ∨
      absentBlock s (prefetchBlock pa) = false ∧
        prefetchModify s pa = { notePrefetch s pa with cached := dirtied s (prefetchBlock pa), free := n } := by
  unfold prefetchModify
  simp only
  split
  · exact ⟨_, .inl rfl⟩
  · rename_i h
    have h := eq_false_of_ne_true h
    split
    · exact ⟨_, .inr ⟨h, rfl⟩⟩
    · exact ⟨_, .inl rfl⟩
    · split <;> [exact ⟨_, .inr ⟨h, rfl⟩⟩; exact ⟨_, .inl rfl⟩]

/-- In conservative mode, or where the memory is absent, it is a normal prefetch. -/
theorem prefetchModify_normal {s : State} {pa : PhysAddr} (h : absentBlock s (prefetchBlock pa) = true ∨ s.mCtl.extractLsb' 4 2 = 1#2) :
    prefetchModify s pa = notePrefetch s pa := by
  unfold prefetchModify
  simp only
  split
  · rfl
  · rename_i ha; rw [h.resolve_left ha]; rfl

/-- With speculation allowed it makes its block Dirty. -/
theorem prefetchModify_dirty {s : State} {pa : PhysAddr} (ha : absentBlock s (prefetchBlock pa) = false)
    (h : s.mCtl.extractLsb' 4 2 = 0#2) :
    prefetchModify s pa = { notePrefetch s pa with cached := dirtied s (prefetchBlock pa) } := by
  unfold prefetchModify
  simp only [ha, Bool.false_eq_true, if_false, h]
  rfl

/-! ### Probes -/

/-- A probe changes no memory and no register: only the records and the lock. -/
theorem probeBlock_frame (s : State) (b : BitVec 38) (next : ProbeNext) :
    probeBlock s b next =
      { s with
        cached := (probeBlock s b next).cached, lockFlag := (probeBlock s b next).lockFlag,
        lockWatch := (probeBlock s b next).lockWatch } := by
  cases next <;> simp only [probeBlock, loseBlock]
  · split <;> [(split <;> rfl); rfl]
  · split <;> rfl

end Sys2Proof.Machine
end

