-- ==== Sys2Proof/Laws/Decode.lean ====
section
/-! SUPPORT. The fields of a packed word, and what the decoder makes of a packed word of each format. Cite these instead of
unfolding the packers. -/

namespace Sys2Proof

/-! ### Fields of packed words -/

@[simp] theorem opcodeOf_packOpr (op : BitVec 6) (f : BitVec 7) (ra : Reg) (rb : Operand) (rc : Reg) :
    opcodeOf (packOpr op f ra rb rc) = op := by
  cases rb <;> (simp only [opcodeOf, packOpr]; ext i hi; simp [BitVec.getElem_extractLsb']; grind)

@[simp] theorem oprFunction_packOpr (op : BitVec 6) (f : BitVec 7) (ra : Reg) (rb : Operand) (rc : Reg) :
    oprFunction (packOpr op f ra rb rc) = f := by
  cases rb <;> (simp only [oprFunction, packOpr]; ext i hi; simp [BitVec.getElem_extractLsb']; grind)

@[simp] theorem fieldA_packOpr (op : BitVec 6) (f : BitVec 7) (ra : Reg) (rb : Operand) (rc : Reg) :
    fieldA (packOpr op f ra rb rc) = ra := by
  cases rb <;> (simp only [fieldA, packOpr]; ext i hi; simp [BitVec.getElem_extractLsb']; grind)

@[simp] theorem fieldC_packOpr (op : BitVec 6) (f : BitVec 7) (ra : Reg) (rb : Operand) (rc : Reg) :
    fieldC (packOpr op f ra rb rc) = rc := by
  cases rb <;> (simp only [fieldC, packOpr]; ext i hi; simp [BitVec.getElem_extractLsb']; grind)

@[simp] theorem fieldOperand_packOpr (op : BitVec 6) (f : BitVec 7) (ra : Reg) (rb : Operand) (rc : Reg) :
    fieldOperand (packOpr op f ra rb rc) = rb := by
  cases rb with
  | reg r =>
    have h0 : (packOpr op f ra (.reg r) rc).extractLsb' 12 1 = 0#1 := by
      simp only [packOpr]; ext i hi; simp [BitVec.getElem_extractLsb']; grind
    have hb : fieldB (packOpr op f ra (.reg r) rc) = r := by
      simp only [fieldB, packOpr]; ext i hi; simp [BitVec.getElem_extractLsb']; grind
    simp [fieldOperand, h0, hb]
  | lit v =>
    have h0 : (packOpr op f ra (.lit v) rc).extractLsb' 12 1 = 1#1 := by
      simp only [packOpr]; ext i hi; simp [BitVec.getElem_extractLsb']; grind
    have hb : (packOpr op f ra (.lit v) rc).extractLsb' 13 8 = v := by
      simp only [packOpr]; ext i hi; simp [BitVec.getElem_extractLsb']; grind
    simp [fieldOperand, h0, hb]

@[simp] theorem opcodeOf_packFp (op : BitVec 6) (f : BitVec 11) (a b c : Reg) : opcodeOf (packFp op f a b c) = op := by
  simp only [opcodeOf, packFp]; ext i hi; simp [BitVec.getElem_extractLsb']; grind

@[simp] theorem fpFunction_packFp (op : BitVec 6) (f : BitVec 11) (a b c : Reg) : fpFunction (packFp op f a b c) = f := by
  simp only [fpFunction, packFp]; ext i hi; simp [BitVec.getElem_extractLsb']; grind

@[simp] theorem fieldA_packFp (op : BitVec 6) (f : BitVec 11) (a b c : Reg) : fieldA (packFp op f a b c) = a := by
  simp only [fieldA, packFp]; ext i hi; simp [BitVec.getElem_extractLsb']; grind

@[simp] theorem fieldB_packFp (op : BitVec 6) (f : BitVec 11) (a b c : Reg) : fieldB (packFp op f a b c) = b := by
  simp only [fieldB, packFp]; ext i hi; simp [BitVec.getElem_extractLsb']; grind

@[simp] theorem fieldC_packFp (op : BitVec 6) (f : BitVec 11) (a b c : Reg) : fieldC (packFp op f a b c) = c := by
  simp only [fieldC, packFp]; ext i hi; simp [BitVec.getElem_extractLsb']; grind

@[simp] theorem oprFunction_packFp (op : BitVec 6) (f : BitVec 11) (a b c : Reg) :
    oprFunction (packFp op f a b c) = f.extractLsb' 0 7 := by
  simp only [oprFunction, packFp]; ext i hi; simp [BitVec.getElem_extractLsb']; grind

@[simp] theorem opcodeOf_packMem (op : BitVec 6) (ra rb : Reg) (d : BitVec 16) : opcodeOf (packMem op ra rb d) = op := by
  simp only [opcodeOf, packMem]; ext i hi; simp [BitVec.getElem_extractLsb']; grind

@[simp] theorem fieldA_packMem (op : BitVec 6) (ra rb : Reg) (d : BitVec 16) : fieldA (packMem op ra rb d) = ra := by
  simp only [fieldA, packMem]; ext i hi; simp [BitVec.getElem_extractLsb']; grind

@[simp] theorem fieldB_packMem (op : BitVec 6) (ra rb : Reg) (d : BitVec 16) : fieldB (packMem op ra rb d) = rb := by
  simp only [fieldB, packMem]; ext i hi; simp [BitVec.getElem_extractLsb']; grind

@[simp] theorem disp_packMem (op : BitVec 6) (ra rb : Reg) (d : BitVec 16) : (packMem op ra rb d).extractLsb' 0 16 = d := by
  simp only [packMem]; ext i hi; simp [BitVec.getElem_extractLsb']; grind

@[simp] theorem opcodeOf_packBra (op : BitVec 6) (ra : Reg) (d : BitVec 21) : opcodeOf (packBra op ra d) = op := by
  simp only [opcodeOf, packBra]; ext i hi; simp [BitVec.getElem_extractLsb']; grind

@[simp] theorem fieldA_packBra (op : BitVec 6) (ra : Reg) (d : BitVec 21) : fieldA (packBra op ra d) = ra := by
  simp only [fieldA, packBra]; ext i hi; simp [BitVec.getElem_extractLsb']; grind

@[simp] theorem disp_packBra (op : BitVec 6) (ra : Reg) (d : BitVec 21) : (packBra op ra d).extractLsb' 0 21 = d := by
  simp only [packBra]; ext i hi; simp [BitVec.getElem_extractLsb']; grind

@[simp] theorem opcodeOf_packRest (op : BitVec 6) (r : BitVec 26) : opcodeOf (packRest op r) = op := by
  simp only [opcodeOf, packRest]; ext i hi; simp [BitVec.getElem_extractLsb']; grind

@[simp] theorem rest_packRest (op : BitVec 6) (r : BitVec 26) : (packRest op r).extractLsb' 0 26 = r := by
  simp only [packRest]; ext i hi; simp [BitVec.getElem_extractLsb']; grind

/-! ### Decoding a packed word -/

theorem decodeOpr_packOpr {t : OprTable} {f : BitVec 7} {k : Reg → Operand → Reg → Instr} (h : t.lookup f = some k)
    (miss : Reject) (op : BitVec 6) (ra : Reg) (rb : Operand) (rc : Reg) :
    decodeOpr t miss (packOpr op f ra rb rc) = .ok (k ra rb rc) := by
  simp [decodeOpr, h]

theorem decodeFp_packFp {t : FpTable} {f : BitVec 11} {k : Reg → Reg → Reg → Instr} (h : t.lookup f = some k)
    (miss : Reject) (op : BitVec 6) (a b c : Reg) : decodeFp t miss (packFp op f a b c) = .ok (k a b c) := by
  simp [decodeFp, h]

theorem decode_inta {f : BitVec 7} {k : Reg → Operand → Reg → Instr} (h : intaTable.lookup f = some k) (ra : Reg)
    (rb : Operand) (rc : Reg) : decode (packOpr 0x10 f ra rb rc) = .ok (k ra rb rc) := by
  simp [decode, decodeOpr_packOpr h]

theorem decode_intl {f : BitVec 7} {k : Reg → Operand → Reg → Instr} (h : intlTable.lookup f = some k) (ra : Reg)
    (rb : Operand) (rc : Reg) : decode (packOpr 0x11 f ra rb rc) = .ok (k ra rb rc) := by
  simp [decode, decodeOpr_packOpr h]

theorem decode_ints {f : BitVec 7} {k : Reg → Operand → Reg → Instr} (h : intsTable.lookup f = some k) (ra : Reg)
    (rb : Operand) (rc : Reg) : decode (packOpr 0x12 f ra rb rc) = .ok (k ra rb rc) := by
  simp [decode, decodeOpr_packOpr h]

theorem decode_intm {f : BitVec 7} {k : Reg → Operand → Reg → Instr} (h : intmTable.lookup f = some k) (ra : Reg)
    (rb : Operand) (rc : Reg) : decode (packOpr 0x13 f ra rb rc) = .ok (k ra rb rc) := by
  simp [decode, decodeOpr_packOpr h]

theorem decode_fpti {f : BitVec 7} {k : Reg → Operand → Reg → Instr} (h : fptiTable.lookup f = some k)
    (hf : ¬(f = 0x70 ∨ f = 0x78)) (ra : Reg) (rb : Operand) (rc : Reg) :
    decode (packOpr 0x1C f ra rb rc) = .ok (k ra rb rc) := by
  have hd : decodeFpti (packOpr 0x1C f ra rb rc) = .ok (k ra rb rc) := by
    simp only [decodeFpti, oprFunction_packOpr, if_neg hf, decodeOpr_packOpr h]
  simp only [decode, opcodeOf_packOpr]
  exact hd

theorem decode_ftoi {f : BitVec 11} {k : Reg → Reg → Reg → Instr} (h : ftoiTable.lookup f = some k)
    (hf : f.extractLsb' 0 7 = 0x70#7 ∨ f.extractLsb' 0 7 = 0x78#7) (a b c : Reg) :
    decode (packFp 0x1C f a b c) = .ok (k a b c) := by
  simp [decode, decodeFpti, decodeFp_packFp h, hf]

theorem decode_itfp {f : BitVec 11} {k : Reg → Reg → Reg → Instr} (h : itfpTable.lookup f = some k) (a b c : Reg) :
    decode (packFp 0x14 f a b c) = .ok (k a b c) := by
  simp [decode, decodeFp_packFp h]

theorem decode_fltv {f : BitVec 11} {k : Reg → Reg → Reg → Instr} (h : fltvTable.lookup f = some k) (a b c : Reg) :
    decode (packFp 0x15 f a b c) = .ok (k a b c) := by
  simp [decode, decodeFp_packFp h]

theorem decode_flti {f : BitVec 11} {k : Reg → Reg → Reg → Instr} (h : fltiTable.lookup f = some k) (a b c : Reg) :
    decode (packFp 0x16 f a b c) = .ok (k a b c) := by
  simp [decode, decodeFlti, decodeFp_packFp h]

theorem decode_fltl {f : BitVec 11} {k : Reg → Reg → Reg → Instr} (h : fltlTable.lookup f = some k) (a b c : Reg) :
    decode (packFp 0x17 f a b c) = .ok (k a b c) := by
  simp [decode, decodeFp_packFp h]

theorem decode_misc {d : BitVec 16} {k : Reg → Reg → Instr} (h : miscTable.lookup d = some k) (a b : Reg) :
    decode (packMem 0x18 a b d) = .ok (k a b) := by
  simp [decode, decodeMisc, h]

theorem decodeMem_packMem (k : Reg → Reg → BitVec 16 → Instr) (op : BitVec 6) (ra rb : Reg) (d : BitVec 16) :
    decodeMem k (packMem op ra rb d) = .ok (k ra rb d) := by
  simp [decodeMem]

theorem decodeBra_packBra (k : Reg → BitVec 21 → Instr) (op : BitVec 6) (ra : Reg) (d : BitVec 21) :
    decodeBra k (packBra op ra d) = .ok (k ra d) := by
  simp [decodeBra]

theorem decodeRest_packRest (k : BitVec 26 → Instr) (op : BitVec 6) (r : BitVec 26) :
    decodeRest k (packRest op r) = .ok (k r) := by
  simp [decodeRest]

@[simp] theorem opcodeOf_packJump (h : BitVec 2) (ra rb : Reg) (d : BitVec 14) : opcodeOf (packJump h ra rb d) = 0x1A#6 := by
  simp only [opcodeOf, packJump]; ext i hi; simp [BitVec.getElem_extractLsb']; grind

@[simp] theorem code_packJump (h : BitVec 2) (ra rb : Reg) (d : BitVec 14) : (packJump h ra rb d).extractLsb' 14 2 = h := by
  simp only [packJump]; ext i hi; simp [BitVec.getElem_extractLsb']; grind

@[simp] theorem fieldA_packJump (h : BitVec 2) (ra rb : Reg) (d : BitVec 14) : fieldA (packJump h ra rb d) = ra := by
  simp only [fieldA, packJump]; ext i hi; simp [BitVec.getElem_extractLsb']; grind

@[simp] theorem fieldB_packJump (h : BitVec 2) (ra rb : Reg) (d : BitVec 14) : fieldB (packJump h ra rb d) = rb := by
  simp only [fieldB, packJump]; ext i hi; simp [BitVec.getElem_extractLsb']; grind

@[simp] theorem hint_packJump (h : BitVec 2) (ra rb : Reg) (d : BitVec 14) : (packJump h ra rb d).extractLsb' 0 14 = d := by
  simp only [packJump]; ext i hi; simp [BitVec.getElem_extractLsb']; grind

/-- A packed jump decodes by its code in bits [15:14]. -/
theorem decode_packJump (h : BitVec 2) (ra rb : Reg) (d : BitVec 14) :
    decode (packJump h ra rb d) =
      match h.toNat with
      | 0 => .ok (.jmp ra rb d)
      | 1 => .ok (.jsr ra rb d)
      | 2 => .ok (.ret ra rb d)
      | _ => .ok (.jsrCoroutine ra rb d) := by
  have hd : decode (packJump h ra rb d) = decodeJump (packJump h ra rb d) := by simp only [decode, opcodeOf_packJump]; rfl
  rw [hd]
  simp only [decodeJump, code_packJump, fieldA_packJump, fieldB_packJump, hint_packJump] <;> rfl

@[simp] theorem opcodeOf_packHwMem (op : BitVec 6) (ra rb : Reg) (ty : BitVec 3) (l : BitVec 1) (d : BitVec 12) : opcodeOf (packHwMem op ra rb ty l d) = op := by
  simp only [opcodeOf, packHwMem]; ext i hi; simp [BitVec.getElem_extractLsb']; grind

@[simp] theorem fieldA_packHwMem (op : BitVec 6) (ra rb : Reg) (ty : BitVec 3) (l : BitVec 1) (d : BitVec 12) : fieldA (packHwMem op ra rb ty l d) = ra := by
  simp only [fieldA, packHwMem]; ext i hi; simp [BitVec.getElem_extractLsb']; grind

@[simp] theorem fieldB_packHwMem (op : BitVec 6) (ra rb : Reg) (ty : BitVec 3) (l : BitVec 1) (d : BitVec 12) : fieldB (packHwMem op ra rb ty l d) = rb := by
  simp only [fieldB, packHwMem]; ext i hi; simp [BitVec.getElem_extractLsb']; grind

@[simp] theorem type_packHwMem (op : BitVec 6) (ra rb : Reg) (ty : BitVec 3) (l : BitVec 1) (d : BitVec 12) : (packHwMem op ra rb ty l d).extractLsb' 13 3 = ty := by
  simp only [packHwMem]; ext i hi; simp [BitVec.getElem_extractLsb']; grind

@[simp] theorem len_packHwMem (op : BitVec 6) (ra rb : Reg) (ty : BitVec 3) (l : BitVec 1) (d : BitVec 12) : (packHwMem op ra rb ty l d).extractLsb' 12 1 = l := by
  simp only [packHwMem]; ext i hi; simp [BitVec.getElem_extractLsb']; grind

@[simp] theorem disp_packHwMem (op : BitVec 6) (ra rb : Reg) (ty : BitVec 3) (l : BitVec 1) (d : BitVec 12) : (packHwMem op ra rb ty l d).extractLsb' 0 12 = d := by
  simp only [packHwMem]; ext i hi; simp [BitVec.getElem_extractLsb']; grind

theorem decodeHwMem_packHwMem (k : Reg → Reg → BitVec 3 → BitVec 1 → BitVec 12 → Instr) (op : BitVec 6) (ra rb : Reg)
    (ty : BitVec 3) (l : BitVec 1) (d : BitVec 12) : decodeHwMem k (packHwMem op ra rb ty l d) = .ok (k ra rb ty l d) := by
  simp only [decodeHwMem, fieldA_packHwMem, fieldB_packHwMem, type_packHwMem, len_packHwMem, disp_packHwMem]

@[simp] theorem opcodeOf_packHwIpr (op : BitVec 6) (ra rb : Reg) (x m : BitVec 8) : opcodeOf (packHwIpr op ra rb x m) = op := by
  simp only [opcodeOf, packHwIpr]; ext i hi; simp [BitVec.getElem_extractLsb']; grind

@[simp] theorem fieldA_packHwIpr (op : BitVec 6) (ra rb : Reg) (x m : BitVec 8) : fieldA (packHwIpr op ra rb x m) = ra := by
  simp only [fieldA, packHwIpr]; ext i hi; simp [BitVec.getElem_extractLsb']; grind

@[simp] theorem fieldB_packHwIpr (op : BitVec 6) (ra rb : Reg) (x m : BitVec 8) : fieldB (packHwIpr op ra rb x m) = rb := by
  simp only [fieldB, packHwIpr]; ext i hi; simp [BitVec.getElem_extractLsb']; grind

@[simp] theorem index_packHwIpr (op : BitVec 6) (ra rb : Reg) (x m : BitVec 8) : (packHwIpr op ra rb x m).extractLsb' 8 8 = x := by
  simp only [packHwIpr]; ext i hi; simp [BitVec.getElem_extractLsb']; grind

@[simp] theorem scbd_packHwIpr (op : BitVec 6) (ra rb : Reg) (x m : BitVec 8) : (packHwIpr op ra rb x m).extractLsb' 0 8 = m := by
  simp only [packHwIpr]; ext i hi; simp [BitVec.getElem_extractLsb']; grind

theorem decodeHwIpr_packHwIpr (k : Reg → Reg → BitVec 8 → BitVec 8 → Instr) (op : BitVec 6) (ra rb : Reg) (x m : BitVec 8) :
    decodeHwIpr k (packHwIpr op ra rb x m) = .ok (k ra rb x m) := by
  simp only [decodeHwIpr, fieldA_packHwIpr, fieldB_packHwIpr, index_packHwIpr, scbd_packHwIpr]

@[simp] theorem opcodeOf_packHwRet (ra rb : Reg) (h : BitVec 2) (st : BitVec 1) (d : BitVec 13) : opcodeOf (packHwRet ra rb h st d) = 0x1E#6 := by
  simp only [opcodeOf, packHwRet]; ext i hi; simp [BitVec.getElem_extractLsb']; grind

@[simp] theorem fieldA_packHwRet (ra rb : Reg) (h : BitVec 2) (st : BitVec 1) (d : BitVec 13) : fieldA (packHwRet ra rb h st d) = ra := by
  simp only [fieldA, packHwRet]; ext i hi; simp [BitVec.getElem_extractLsb']; grind

@[simp] theorem fieldB_packHwRet (ra rb : Reg) (h : BitVec 2) (st : BitVec 1) (d : BitVec 13) : fieldB (packHwRet ra rb h st d) = rb := by
  simp only [fieldB, packHwRet]; ext i hi; simp [BitVec.getElem_extractLsb']; grind

@[simp] theorem hint_packHwRet (ra rb : Reg) (h : BitVec 2) (st : BitVec 1) (d : BitVec 13) : (packHwRet ra rb h st d).extractLsb' 14 2 = h := by
  simp only [packHwRet]; ext i hi; simp [BitVec.getElem_extractLsb']; grind

@[simp] theorem stall_packHwRet (ra rb : Reg) (h : BitVec 2) (st : BitVec 1) (d : BitVec 13) : (packHwRet ra rb h st d).extractLsb' 13 1 = st := by
  simp only [packHwRet]; ext i hi; simp [BitVec.getElem_extractLsb']; grind

@[simp] theorem disp_packHwRet (ra rb : Reg) (h : BitVec 2) (st : BitVec 1) (d : BitVec 13) : (packHwRet ra rb h st d).extractLsb' 0 13 = d := by
  simp only [packHwRet]; ext i hi; simp [BitVec.getElem_extractLsb']; grind

theorem decodeHwRet_packHwRet (ra rb : Reg) (h : BitVec 2) (st : BitVec 1) (d : BitVec 13) :
    decodeHwRet (packHwRet ra rb h st d) = .ok (.hwRet ra rb h st d) := by
  simp only [decodeHwRet, fieldA_packHwRet, fieldB_packHwRet, hint_packHwRet, stall_packHwRet, disp_packHwRet]

end Sys2Proof
end

