-- ==== Sys2Proof/Laws/Codes.lean ====
section
/-! SUPPORT. The codes of an instruction, read off the word that the encoder packs: each lemma's hypothesis on `encode i` is `rfl` for a
constructor. -/

namespace Sys2Proof.Machine

theorem oprCode_pack {i : Instr} {op f : Nat} {ra : Reg} {rb : Operand} {rc : Reg}
    (h : encode i = packOpr (BitVec.ofNat 6 op) (BitVec.ofNat 7 f) ra rb rc) (ho : op < 2 ^ 6) (hf : f < 2 ^ 7) : OprCode i op f := by
  have h1 : (packOpr (BitVec.ofNat 6 op) (BitVec.ofNat 7 f) ra rb rc).extractLsb' 26 6 = _ := opcodeOf_packOpr _ _ _ _ _
  have h2 : (packOpr (BitVec.ofNat 6 op) (BitVec.ofNat 7 f) ra rb rc).extractLsb' 5 7 = _ := oprFunction_packOpr _ _ _ _ _
  rw [OprCode, h, h1, h2, BitVec.toNat_ofNat, BitVec.toNat_ofNat, Nat.mod_eq_of_lt ho, Nat.mod_eq_of_lt hf]
  exact ⟨rfl, rfl⟩

theorem fpCode_pack {i : Instr} {op f : Nat} {a b c : Reg} (h : encode i = packFp (BitVec.ofNat 6 op) (BitVec.ofNat 11 f) a b c)
    (ho : op < 2 ^ 6) (hf : f < 2 ^ 11) : FpCode i op f := by
  have h1 : (packFp (BitVec.ofNat 6 op) (BitVec.ofNat 11 f) a b c).extractLsb' 26 6 = _ := opcodeOf_packFp _ _ _ _ _
  have h2 : (packFp (BitVec.ofNat 6 op) (BitVec.ofNat 11 f) a b c).extractLsb' 5 11 = _ := fpFunction_packFp _ _ _ _ _
  rw [FpCode, h, h1, h2, BitVec.toNat_ofNat, BitVec.toNat_ofNat, Nat.mod_eq_of_lt ho, Nat.mod_eq_of_lt hf]
  exact ⟨rfl, rfl⟩

theorem opcode_of_word {i : Instr} {op : Nat} {w : BitVec 32} (h : encode i = w) (e : w.extractLsb' 26 6 = BitVec.ofNat 6 op)
    (ho : op < 2 ^ 6) : Opcode i op := by
  rw [Opcode, h, e, BitVec.toNat_ofNat, Nat.mod_eq_of_lt ho]

theorem opcode_packMem {i : Instr} {op : Nat} {ra rb : Reg} {d : BitVec 16} (h : encode i = packMem (BitVec.ofNat 6 op) ra rb d)
    (ho : op < 2 ^ 6) : Opcode i op := opcode_of_word h (opcodeOf_packMem _ _ _ _) ho

theorem opcode_packBra {i : Instr} {op : Nat} {ra : Reg} {d : BitVec 21} (h : encode i = packBra (BitVec.ofNat 6 op) ra d)
    (ho : op < 2 ^ 6) : Opcode i op := opcode_of_word h (opcodeOf_packBra _ _ _) ho

theorem opcode_packRest {i : Instr} {op : Nat} {r : BitVec 26} (h : encode i = packRest (BitVec.ofNat 6 op) r) (ho : op < 2 ^ 6) :
    Opcode i op := opcode_of_word h (opcodeOf_packRest _ _) ho

theorem opcode_packHwMem {i : Instr} {op : Nat} {ra rb : Reg} {ty : BitVec 3} {len : BitVec 1} {d : BitVec 12}
    (h : encode i = packHwMem (BitVec.ofNat 6 op) ra rb ty len d) (ho : op < 2 ^ 6) : Opcode i op :=
  opcode_of_word h (by simp only [packHwMem]; ext i hi; simp [BitVec.getElem_extractLsb']; grind) ho

theorem opcode_packHwIpr {i : Instr} {op : Nat} {ra rb : Reg} {x m : BitVec 8}
    (h : encode i = packHwIpr (BitVec.ofNat 6 op) ra rb x m) (ho : op < 2 ^ 6) : Opcode i op :=
  opcode_of_word h (by simp only [packHwIpr]; ext i hi; simp [BitVec.getElem_extractLsb']; grind) ho

theorem opcode_packHwRet {i : Instr} {ra rb : Reg} {h : BitVec 2} {st : BitVec 1} {d : BitVec 13}
    (e : encode i = packHwRet ra rb h st d) : Opcode i 0x1E :=
  opcode_of_word e (by simp only [packHwRet]; ext i hi; simp [BitVec.getElem_extractLsb']; grind) (by norm_num)

theorem jumpCode_pack {i : Instr} {h : BitVec 2} {ra rb : Reg} {d : BitVec 14} (e : encode i = packJump h ra rb d) :
    Opcode i 0x1A ∧ ((encode i).extractLsb' 14 2).toNat = h.toNat := by
  have h2 : (packJump h ra rb d).extractLsb' 14 2 = h := by
    simp only [packJump]; ext i hi; simp [BitVec.getElem_extractLsb']; grind
  exact ⟨opcode_of_word e (by simp only [packJump]; ext i hi; simp [BitVec.getElem_extractLsb']; grind) (by norm_num), by rw [e, h2]⟩

theorem miscCode_pack {i : Instr} {ra rb : Reg} {d : Nat} (h : encode i = packMem 0x18 ra rb (BitVec.ofNat 16 d))
    (hd : d < 2 ^ 16) : MiscCode i d := by
  have h1 : (packMem 0x18 ra rb (BitVec.ofNat 16 d)).extractLsb' 26 6 = _ := opcodeOf_packMem _ _ _ _
  rw [MiscCode, h, h1, disp_packMem, BitVec.toNat_ofNat, Nat.mod_eq_of_lt hd]
  exact ⟨rfl, rfl⟩

end Sys2Proof.Machine
end

