-- ==== Sys2Proof/Laws/Fetch.lean ====
section
/-! SUPPORT. What a fill of the two-way Icache, the SROM load, the record of fetch blocks, the ageing of prefetches, the TB-fill
barrier and the test of the PALcode restrictions can do, each said once. -/

namespace Sys2Proof.Machine

/-! ### Blocks apart -/

/-- A block put beside those that do not stand in its place. -/
theorem pairwise_filter_apart {l : List IcacheBlock} (h : l.Pairwise fun b c => samePlace b c = false) (b : IcacheBlock) :
    (b :: l.filter fun d => !samePlace b d).Pairwise fun b c => samePlace b c = false := by
  rw [List.pairwise_cons]
  exact ⟨fun c hc => by simpa using (List.mem_filter.mp hc).2, h.filter _⟩

/-- A fill changes the Icache and the counter of free values. -/
theorem installBlock_frame (s : State) (b : IcacheBlock) :
    installBlock s b = { s with icache := (installBlock s b).icache, free := s.free + 1 } := rfl

/-- A fill leaves no two blocks in one place. -/
theorem installBlock_apart {s : State} (h : s.icache.Pairwise fun b c => samePlace b c = false) (b : IcacheBlock) :
    (installBlock s b).icache.Pairwise fun b c => samePlace b c = false :=
  pairwise_filter_apart h _

/-- A block is filled into an enabled set, where one is enabled. -/
theorem wayEnabled_fillWay {s : State} (h : wayEnabled s false = true ∨ wayEnabled s true = true) (b : IcacheBlock) (pick : Bool) :
    wayEnabled s (fillWay s b pick) = true := by
  cases h0 : wayEnabled s false <;> cases h1 : wayEnabled s true <;> simp_all [fillWay]
  cases (!placeEmpty s b false && (placeEmpty s b true || pick)) <;> assumption

/-! ### The SROM load -/

theorem placeSrom_apart {l : List IcacheBlock} (h : l.Pairwise fun b c => samePlace b c = false) (b : IcacheBlock) :
    (placeSrom l b).Pairwise fun b c => samePlace b c = false := by
  simp only [placeSrom]
  split
  · rename_i room
    exact List.pairwise_cons.mpr ⟨fun c hc => by simpa using List.all_eq_true.mp room c hc, h⟩
  · split
    · rename_i room
      exact List.pairwise_cons.mpr ⟨fun c hc => by simpa using List.all_eq_true.mp room c hc, h⟩
    · exact h

theorem foldl_placeSrom_apart (bs : List IcacheBlock) {l : List IcacheBlock} (h : l.Pairwise fun b c => samePlace b c = false) :
    (bs.foldl placeSrom l).Pairwise fun b c => samePlace b c = false := by
  induction bs generalizing l with
  | nil => exact h
  | cons b bs ih => exact ih (placeSrom_apart h b)

/-- The SROM load leaves no two blocks in one place, and changes nothing but the Icache and WRITE_ONCE. -/
theorem loadSrom_apart (s : State) : (loadSrom s).icache.Pairwise fun b c => samePlace b c = false := by
  unfold loadSrom
  cases s.srom with
  | none => exact List.Pairwise.nil
  | some img => exact foldl_placeSrom_apart _ List.Pairwise.nil

theorem loadSrom_frame (s : State) :
    loadSrom s = { s with icache := (loadSrom s).icache, writeOnce := (loadSrom s).writeOnce } := by
  unfold loadSrom; cases s.srom <;> rfl

/-! ### The record of fetch blocks -/

/-- The record holds the present block and at most one before it. -/
theorem enterBlock_length (b : FetchBlock) {l : List FetchBlock} (h : l.length ≤ 2) : (enterBlock b l).length ≤ 2 := by
  unfold enterBlock
  split
  · simp
  · split
    · simp
    · split
      · simp
      · simp

/-- The present block stands first. -/
theorem enterBlock_head (b : FetchBlock) (l : List FetchBlock) : (enterBlock b l).head? = some b := by
  unfold enterBlock
  split
  · rfl
  · split
    · rfl
    · split <;> rfl

/-! ### What passes to the next instruction -/

/-- The prefetches that the next instruction sees: each one instruction older, those of more than 80 instructions dropped. -/
theorem mem_agePrefetches {s : State} (h : s.waiting = false) (q : Prefetch) :
    q ∈ agePrefetches s ↔ ∃ o ∈ s.prefetches, q.block = o.block ∧ q.age = o.age + 1 ∧ q.age ≤ 80 := by
  simp only [agePrefetches, h, Bool.false_eq_true, if_false, List.mem_filter, List.mem_map, decide_eq_true_eq]
  constructor
  · rintro ⟨⟨o, ho, rfl⟩, hq⟩
    exact ⟨o, ho, rfl, rfl, hq⟩
  · rintro ⟨o, ho, hb, ha, hq⟩
    exact ⟨⟨o, ho, by cases q; cases hb; cases ha; rfl⟩, hq⟩

/-- An instruction that waited is run again: the prefetches are as they were. -/
theorem agePrefetches_waiting {s : State} (h : s.waiting = true) : agePrefetches s = s.prefetches := by
  simp [agePrefetches, h]

/-- The TB-fill barrier holds nothing up while the platform acknowledges, or with I_CTL[TB_MB_EN] clear (R245). -/
theorem barrierHeld_free {s : State} (h : (s.ackHeld && s.iCtl.getLsbD 22) = false) (index : BitVec 8) :
    barrierHeld s index = false := by
  rw [barrierHeld, h, Bool.false_and]

/-- The writes that it holds up. -/
theorem barrierHeld_iff (s : State) (index : BitVec 8) :
    barrierHeld s index = true ↔
      s.ackHeld = true ∧ s.iCtl.getLsbD 22 = true ∧ (index = 0x21#8 ∨ index = 0x01#8 ∧ s.palMode = true) := by
  simp [barrierHeld, and_assoc]

/-- Every word but ECB leaves the caches to its meaning. -/
theorem evictAfter_other {w : BitVec 32} (h : isEcb w = false) (t : State) (o : Out) : evictAfter w t o = o := by simp [evictAfter, h]

/-- Where a next state follows, it is the one that the instruction left, or that one with a block evicted. -/
theorem evictAfter_next {w : BitVec 32} {t : State} {o : Out} {v : State} (h : evictAfter w t o = .next v) :
    ∃ u, o = .next u ∧ (v = u ∨ ∃ b, v = evictBlock u b) := by
  unfold evictAfter at h
  split at h
  · split at h
    · cases o with
      | next u =>
        refine ⟨u, rfl, ?_⟩
        simp only [settle, Host.Outcome.next.injEq] at h
        subst h
        unfold evictAt
        split <;> [exact .inl rfl; exact .inr ⟨_, rfl⟩]
      | fault => cases h
      | refused => cases h
    · cases h
    · exact ⟨v, h, .inl rfl⟩
  · exact ⟨v, h, .inl rfl⟩

/-! ### The restrictions -/

/-- The rejected words are those that the decoder calls OPCDEC, in every state. -/
theorem isRejected_iff (s : State) (w : BitVec 32) : isRejected s w = true ↔ decode w = .error .opcdec := by
  unfold isRejected execWord
  cases decode w with
  | ok i => simp [execDecoded]
  | error e => cases e <;> simp [execDecoded]

/-- No instruction is refused for a restriction where the PAL-reserved opcodes are not legal. -/
theorem restriction_user {s : State} (h : palLegal s = false) (w : BitVec 32) : restriction s w = none := by
  simp [restriction, h]

/-- A restriction stops a HW_LD, a HW_MTPR or a floating instruction, and no other word. -/
theorem restriction_some {s : State} {w : BitVec 32} {r : Refusal} (h : restriction s w = some r) :
    (r = .lockedLoadFourth ∧ opcodeOf w = 0x1B) ∨ (r = .mixedFetchBlock ∧ (isHwMtpr w = true ∨ isFpRestricted w = true)) ∨
      (r = .trappableWithMtpr ∧ isHwMtpr w = true) := by
  unfold restriction at h
  split at h
  · cases h
  · split at h
    · rename_i c
      simp only [Bool.and_eq_true, beq_iff_eq] at c
      exact .inl ⟨by cases h; rfl, c.1.1⟩
    · split at h
      · rename_i c
        simp only [Bool.or_eq_true, Bool.and_eq_true] at c
        exact .inr (.inl ⟨by cases h; rfl, c.imp (·.1) (·.1)⟩)
      · split at h
        · rename_i c
          simp only [Bool.and_eq_true] at c
          exact .inr (.inr ⟨by cases h; rfl, c.1⟩)
        · cases h

/-- Where no restriction stops it, a decoded word is executed and time passes. -/
theorem runWord_ok {pre t : State} {w : BitVec 32} {o : Out} (h : execWord w t = .ok o) (hr : restriction t w = none) :
    runWord pre w t = settle (fun u => account pre (some w) (makeRoom u)) (evictAfter w t o) := by
  simp [runWord, h, hr]

end Sys2Proof.Machine
end

