-- ==== Sys2Proof/Laws/State.lean ====
section
/-! SUPPORT. The fields of the state after each named update: one lemma for each field and each update, so that no later proof
unfolds a record update. -/

namespace Sys2Proof.Machine

/-! ### What the register writes and the exception entry can change -/

/-- A write of an integer register changes the integer registers and the PALshadow registers only. -/
theorem writeInt_eq (s : State) (r : Reg) (v : Word) :
    writeInt s r v = { s with intRegs := (writeInt s r v).intRegs, shadow := (writeInt s r v).shadow } := by
  unfold writeInt; split <;> [rfl; (split <;> rfl)]

/-- A write of a floating register changes the floating registers only. -/
theorem writeFp_eq (s : State) (r : Reg) (v : Word) : writeFp s r v = { s with fpRegs := (writeFp s r v).fpRegs } := by
  unfold writeFp; split <;> rfl

/-! ### advance -/

@[simp] theorem advance_intRegs (s : State) : (advance s).intRegs = s.intRegs := rfl
@[simp] theorem advance_shadow (s : State) : (advance s).shadow = s.shadow := rfl
@[simp] theorem advance_fpRegs (s : State) : (advance s).fpRegs = s.fpRegs := rfl
@[simp] theorem advance_pc (s : State) : (advance s).pc = s.pc + 4 := rfl
@[simp] theorem advance_palMode (s : State) : (advance s).palMode = s.palMode := rfl
@[simp] theorem advance_fpcr (s : State) : (advance s).fpcr = s.fpcr := rfl
@[simp] theorem advance_lockFlag (s : State) : (advance s).lockFlag = s.lockFlag := rfl
@[simp] theorem advance_lockBlock (s : State) : (advance s).lockBlock = s.lockBlock := rfl
@[simp] theorem advance_intrFlag (s : State) : (advance s).intrFlag = s.intrFlag := rfl
@[simp] theorem advance_mem (s : State) : (advance s).mem = s.mem := rfl
@[simp] theorem advance_cc (s : State) : (advance s).cc = s.cc := rfl
@[simp] theorem advance_ccEna (s : State) : (advance s).ccEna = s.ccEna := rfl
@[simp] theorem advance_va (s : State) : (advance s).va = s.va := rfl
@[simp] theorem advance_vaCtl (s : State) : (advance s).vaCtl = s.vaCtl := rfl
@[simp] theorem advance_itbTag (s : State) : (advance s).itbTag = s.itbTag := rfl
@[simp] theorem advance_itbPte (s : State) : (advance s).itbPte = s.itbPte := rfl
@[simp] theorem advance_itb (s : State) : (advance s).itb = s.itb := rfl
@[simp] theorem advance_itbPtr (s : State) : (advance s).itbPtr = s.itbPtr := rfl
@[simp] theorem advance_itbInit (s : State) : (advance s).itbInit = s.itbInit := rfl
@[simp] theorem advance_pmpc (s : State) : (advance s).pmpc = s.pmpc := rfl
@[simp] theorem advance_excAddr (s : State) : (advance s).excAddr = s.excAddr := rfl
@[simp] theorem advance_excSum (s : State) : (advance s).excSum = s.excSum := rfl
@[simp] theorem advance_ierCm (s : State) : (advance s).ierCm = s.ierCm := rfl
@[simp] theorem advance_sirr (s : State) : (advance s).sirr = s.sirr := rfl
@[simp] theorem advance_slReq (s : State) : (advance s).slReq = s.slReq := rfl
@[simp] theorem advance_crReq (s : State) : (advance s).crReq = s.crReq := rfl
@[simp] theorem advance_pc0Req (s : State) : (advance s).pc0Req = s.pc0Req := rfl
@[simp] theorem advance_pc1Req (s : State) : (advance s).pc1Req = s.pc1Req := rfl
@[simp] theorem advance_mchkDReq (s : State) : (advance s).mchkDReq = s.mchkDReq := rfl
@[simp] theorem advance_mchkIReq (s : State) : (advance s).mchkIReq = s.mchkIReq := rfl
@[simp] theorem advance_fbtp (s : State) : (advance s).fbtp = s.fbtp := rfl
@[simp] theorem advance_palBase (s : State) : (advance s).palBase = s.palBase := rfl
@[simp] theorem advance_iCtl (s : State) : (advance s).iCtl = s.iCtl := rfl
@[simp] theorem advance_bistFail (s : State) : (advance s).bistFail = s.bistFail := rfl
@[simp] theorem advance_iStat (s : State) : (advance s).iStat = s.iStat := rfl
@[simp] theorem advance_icFlush (s : State) : (advance s).icFlush = s.icFlush := rfl
@[simp] theorem advance_icFlushAsm (s : State) : (advance s).icFlushAsm = s.icFlushAsm := rfl
@[simp] theorem advance_sleepArmed (s : State) : (advance s).sleepArmed = s.sleepArmed := rfl
@[simp] theorem advance_asleep (s : State) : (advance s).asleep = s.asleep := rfl
@[simp] theorem advance_pctx (s : State) : (advance s).pctx = s.pctx := rfl
@[simp] theorem advance_pctr (s : State) : (advance s).pctr = s.pctr := rfl
@[simp] theorem advance_pmStopped (s : State) : (advance s).pmStopped = s.pmStopped := rfl
@[simp] theorem advance_dtbTag0 (s : State) : (advance s).dtbTag0 = s.dtbTag0 := rfl
@[simp] theorem advance_dtbTag1 (s : State) : (advance s).dtbTag1 = s.dtbTag1 := rfl
@[simp] theorem advance_dtbPte0 (s : State) : (advance s).dtbPte0 = s.dtbPte0 := rfl
@[simp] theorem advance_dtbPte1 (s : State) : (advance s).dtbPte1 = s.dtbPte1 := rfl
@[simp] theorem advance_dtb0 (s : State) : (advance s).dtb0 = s.dtb0 := rfl
@[simp] theorem advance_dtb1 (s : State) : (advance s).dtb1 = s.dtb1 := rfl
@[simp] theorem advance_dtbPtr (s : State) : (advance s).dtbPtr = s.dtbPtr := rfl
@[simp] theorem advance_dtbAltMode (s : State) : (advance s).dtbAltMode = s.dtbAltMode := rfl
@[simp] theorem advance_dtbAsn0 (s : State) : (advance s).dtbAsn0 = s.dtbAsn0 := rfl
@[simp] theorem advance_dtbAsn1 (s : State) : (advance s).dtbAsn1 = s.dtbAsn1 := rfl
@[simp] theorem advance_mmStat (s : State) : (advance s).mmStat = s.mmStat := rfl
@[simp] theorem advance_mCtl (s : State) : (advance s).mCtl = s.mCtl := rfl
@[simp] theorem advance_dcCtl (s : State) : (advance s).dcCtl = s.dcCtl := rfl
@[simp] theorem advance_dcStat (s : State) : (advance s).dcStat = s.dcStat := rfl
@[simp] theorem advance_cData (s : State) : (advance s).cData = s.cData := rfl
@[simp] theorem advance_writeMany (s : State) : (advance s).writeMany = s.writeMany := rfl
@[simp] theorem advance_writeOnce (s : State) : (advance s).writeOnce = s.writeOnce := rfl
@[simp] theorem advance_errorReg (s : State) : (advance s).errorReg = s.errorReg := rfl
@[simp] theorem advance_icache (s : State) : (advance s).icache = s.icache := rfl
@[simp] theorem advance_cached (s : State) : (advance s).cached = s.cached := rfl
@[simp] theorem advance_irqPins (s : State) : (advance s).irqPins = s.irqPins := rfl
@[simp] theorem advance_slRcv (s : State) : (advance s).slRcv = s.slRcv := rfl
@[simp] theorem advance_stcGrant (s : State) : (advance s).stcGrant = s.stcGrant := rfl
@[simp] theorem advance_ackHeld (s : State) : (advance s).ackHeld = s.ackHeld := rfl
@[simp] theorem advance_memMap (s : State) : (advance s).memMap = s.memMap := rfl
@[simp] theorem advance_srom (s : State) : (advance s).srom = s.srom := rfl
@[simp] theorem advance_free (s : State) : (advance s).free = s.free := rfl
@[simp] theorem advance_env (s : State) : (advance s).env = s.env := rfl
@[simp] theorem advance_ioTrace (s : State) : (advance s).ioTrace = s.ioTrace := rfl
@[simp] theorem advance_viaJump (s : State) : (advance s).viaJump = s.viaJump := rfl
@[simp] theorem advance_trap (s : State) : (advance s).trap = s.trap := rfl
@[simp] theorem advance_tagErr (s : State) : (advance s).tagErr = s.tagErr := rfl
@[simp] theorem advance_waiting (s : State) : (advance s).waiting = s.waiting := rfl
@[simp] theorem advance_lockWatch (s : State) : (advance s).lockWatch = s.lockWatch := rfl
@[simp] theorem advance_prefetches (s : State) : (advance s).prefetches = s.prefetches := rfl
@[simp] theorem advance_blocks (s : State) : (advance s).blocks = s.blocks := rfl

/-! ### clearLock -/

@[simp] theorem clearLock_intRegs (s : State) : (clearLock s).intRegs = s.intRegs := rfl
@[simp] theorem clearLock_shadow (s : State) : (clearLock s).shadow = s.shadow := rfl
@[simp] theorem clearLock_fpRegs (s : State) : (clearLock s).fpRegs = s.fpRegs := rfl
@[simp] theorem clearLock_pc (s : State) : (clearLock s).pc = s.pc := rfl
@[simp] theorem clearLock_palMode (s : State) : (clearLock s).palMode = s.palMode := rfl
@[simp] theorem clearLock_fpcr (s : State) : (clearLock s).fpcr = s.fpcr := rfl
@[simp] theorem clearLock_lockFlag (s : State) : (clearLock s).lockFlag = false := rfl
@[simp] theorem clearLock_lockBlock (s : State) : (clearLock s).lockBlock = s.lockBlock := rfl
@[simp] theorem clearLock_intrFlag (s : State) : (clearLock s).intrFlag = s.intrFlag := rfl
@[simp] theorem clearLock_mem (s : State) : (clearLock s).mem = s.mem := rfl
@[simp] theorem clearLock_cc (s : State) : (clearLock s).cc = s.cc := rfl
@[simp] theorem clearLock_ccEna (s : State) : (clearLock s).ccEna = s.ccEna := rfl
@[simp] theorem clearLock_va (s : State) : (clearLock s).va = s.va := rfl
@[simp] theorem clearLock_vaCtl (s : State) : (clearLock s).vaCtl = s.vaCtl := rfl
@[simp] theorem clearLock_itbTag (s : State) : (clearLock s).itbTag = s.itbTag := rfl
@[simp] theorem clearLock_itbPte (s : State) : (clearLock s).itbPte = s.itbPte := rfl
@[simp] theorem clearLock_itb (s : State) : (clearLock s).itb = s.itb := rfl
@[simp] theorem clearLock_itbPtr (s : State) : (clearLock s).itbPtr = s.itbPtr := rfl
@[simp] theorem clearLock_itbInit (s : State) : (clearLock s).itbInit = s.itbInit := rfl
@[simp] theorem clearLock_pmpc (s : State) : (clearLock s).pmpc = s.pmpc := rfl
@[simp] theorem clearLock_excAddr (s : State) : (clearLock s).excAddr = s.excAddr := rfl
@[simp] theorem clearLock_excSum (s : State) : (clearLock s).excSum = s.excSum := rfl
@[simp] theorem clearLock_ierCm (s : State) : (clearLock s).ierCm = s.ierCm := rfl
@[simp] theorem clearLock_sirr (s : State) : (clearLock s).sirr = s.sirr := rfl
@[simp] theorem clearLock_slReq (s : State) : (clearLock s).slReq = s.slReq := rfl
@[simp] theorem clearLock_crReq (s : State) : (clearLock s).crReq = s.crReq := rfl
@[simp] theorem clearLock_pc0Req (s : State) : (clearLock s).pc0Req = s.pc0Req := rfl
@[simp] theorem clearLock_pc1Req (s : State) : (clearLock s).pc1Req = s.pc1Req := rfl
@[simp] theorem clearLock_mchkDReq (s : State) : (clearLock s).mchkDReq = s.mchkDReq := rfl
@[simp] theorem clearLock_mchkIReq (s : State) : (clearLock s).mchkIReq = s.mchkIReq := rfl
@[simp] theorem clearLock_fbtp (s : State) : (clearLock s).fbtp = s.fbtp := rfl
@[simp] theorem clearLock_palBase (s : State) : (clearLock s).palBase = s.palBase := rfl
@[simp] theorem clearLock_iCtl (s : State) : (clearLock s).iCtl = s.iCtl := rfl
@[simp] theorem clearLock_bistFail (s : State) : (clearLock s).bistFail = s.bistFail := rfl
@[simp] theorem clearLock_iStat (s : State) : (clearLock s).iStat = s.iStat := rfl
@[simp] theorem clearLock_icFlush (s : State) : (clearLock s).icFlush = s.icFlush := rfl
@[simp] theorem clearLock_icFlushAsm (s : State) : (clearLock s).icFlushAsm = s.icFlushAsm := rfl
@[simp] theorem clearLock_sleepArmed (s : State) : (clearLock s).sleepArmed = s.sleepArmed := rfl
@[simp] theorem clearLock_asleep (s : State) : (clearLock s).asleep = s.asleep := rfl
@[simp] theorem clearLock_pctx (s : State) : (clearLock s).pctx = s.pctx := rfl
@[simp] theorem clearLock_pctr (s : State) : (clearLock s).pctr = s.pctr := rfl
@[simp] theorem clearLock_pmStopped (s : State) : (clearLock s).pmStopped = s.pmStopped := rfl
@[simp] theorem clearLock_dtbTag0 (s : State) : (clearLock s).dtbTag0 = s.dtbTag0 := rfl
@[simp] theorem clearLock_dtbTag1 (s : State) : (clearLock s).dtbTag1 = s.dtbTag1 := rfl
@[simp] theorem clearLock_dtbPte0 (s : State) : (clearLock s).dtbPte0 = s.dtbPte0 := rfl
@[simp] theorem clearLock_dtbPte1 (s : State) : (clearLock s).dtbPte1 = s.dtbPte1 := rfl
@[simp] theorem clearLock_dtb0 (s : State) : (clearLock s).dtb0 = s.dtb0 := rfl
@[simp] theorem clearLock_dtb1 (s : State) : (clearLock s).dtb1 = s.dtb1 := rfl
@[simp] theorem clearLock_dtbPtr (s : State) : (clearLock s).dtbPtr = s.dtbPtr := rfl
@[simp] theorem clearLock_dtbAltMode (s : State) : (clearLock s).dtbAltMode = s.dtbAltMode := rfl
@[simp] theorem clearLock_dtbAsn0 (s : State) : (clearLock s).dtbAsn0 = s.dtbAsn0 := rfl
@[simp] theorem clearLock_dtbAsn1 (s : State) : (clearLock s).dtbAsn1 = s.dtbAsn1 := rfl
@[simp] theorem clearLock_mmStat (s : State) : (clearLock s).mmStat = s.mmStat := rfl
@[simp] theorem clearLock_mCtl (s : State) : (clearLock s).mCtl = s.mCtl := rfl
@[simp] theorem clearLock_dcCtl (s : State) : (clearLock s).dcCtl = s.dcCtl := rfl
@[simp] theorem clearLock_dcStat (s : State) : (clearLock s).dcStat = s.dcStat := rfl
@[simp] theorem clearLock_cData (s : State) : (clearLock s).cData = s.cData := rfl
@[simp] theorem clearLock_writeMany (s : State) : (clearLock s).writeMany = s.writeMany := rfl
@[simp] theorem clearLock_writeOnce (s : State) : (clearLock s).writeOnce = s.writeOnce := rfl
@[simp] theorem clearLock_errorReg (s : State) : (clearLock s).errorReg = s.errorReg := rfl
@[simp] theorem clearLock_icache (s : State) : (clearLock s).icache = s.icache := rfl
@[simp] theorem clearLock_cached (s : State) : (clearLock s).cached = s.cached := rfl
@[simp] theorem clearLock_irqPins (s : State) : (clearLock s).irqPins = s.irqPins := rfl
@[simp] theorem clearLock_slRcv (s : State) : (clearLock s).slRcv = s.slRcv := rfl
@[simp] theorem clearLock_stcGrant (s : State) : (clearLock s).stcGrant = s.stcGrant := rfl
@[simp] theorem clearLock_ackHeld (s : State) : (clearLock s).ackHeld = s.ackHeld := rfl
@[simp] theorem clearLock_memMap (s : State) : (clearLock s).memMap = s.memMap := rfl
@[simp] theorem clearLock_srom (s : State) : (clearLock s).srom = s.srom := rfl
@[simp] theorem clearLock_free (s : State) : (clearLock s).free = s.free := rfl
@[simp] theorem clearLock_env (s : State) : (clearLock s).env = s.env := rfl
@[simp] theorem clearLock_ioTrace (s : State) : (clearLock s).ioTrace = s.ioTrace := rfl
@[simp] theorem clearLock_viaJump (s : State) : (clearLock s).viaJump = s.viaJump := rfl
@[simp] theorem clearLock_trap (s : State) : (clearLock s).trap = s.trap := rfl
@[simp] theorem clearLock_tagErr (s : State) : (clearLock s).tagErr = s.tagErr := rfl
@[simp] theorem clearLock_waiting (s : State) : (clearLock s).waiting = s.waiting := rfl
@[simp] theorem clearLock_lockWatch (s : State) : (clearLock s).lockWatch = LockWatch.idle := rfl
@[simp] theorem clearLock_prefetches (s : State) : (clearLock s).prefetches = s.prefetches := rfl
@[simp] theorem clearLock_blocks (s : State) : (clearLock s).blocks = s.blocks := rfl

/-! ### setLock -/

@[simp] theorem setLock_intRegs (s : State) (pa : PhysAddr) : (setLock s pa).intRegs = s.intRegs := rfl
@[simp] theorem setLock_shadow (s : State) (pa : PhysAddr) : (setLock s pa).shadow = s.shadow := rfl
@[simp] theorem setLock_fpRegs (s : State) (pa : PhysAddr) : (setLock s pa).fpRegs = s.fpRegs := rfl
@[simp] theorem setLock_pc (s : State) (pa : PhysAddr) : (setLock s pa).pc = s.pc := rfl
@[simp] theorem setLock_palMode (s : State) (pa : PhysAddr) : (setLock s pa).palMode = s.palMode := rfl
@[simp] theorem setLock_fpcr (s : State) (pa : PhysAddr) : (setLock s pa).fpcr = s.fpcr := rfl
@[simp] theorem setLock_lockFlag (s : State) (pa : PhysAddr) : (setLock s pa).lockFlag = true := rfl
@[simp] theorem setLock_lockBlock (s : State) (pa : PhysAddr) : (setLock s pa).lockBlock = blockOf pa := rfl
@[simp] theorem setLock_intrFlag (s : State) (pa : PhysAddr) : (setLock s pa).intrFlag = s.intrFlag := rfl
@[simp] theorem setLock_mem (s : State) (pa : PhysAddr) : (setLock s pa).mem = s.mem := rfl
@[simp] theorem setLock_cc (s : State) (pa : PhysAddr) : (setLock s pa).cc = s.cc := rfl
@[simp] theorem setLock_ccEna (s : State) (pa : PhysAddr) : (setLock s pa).ccEna = s.ccEna := rfl
@[simp] theorem setLock_va (s : State) (pa : PhysAddr) : (setLock s pa).va = s.va := rfl
@[simp] theorem setLock_vaCtl (s : State) (pa : PhysAddr) : (setLock s pa).vaCtl = s.vaCtl := rfl
@[simp] theorem setLock_itbTag (s : State) (pa : PhysAddr) : (setLock s pa).itbTag = s.itbTag := rfl
@[simp] theorem setLock_itbPte (s : State) (pa : PhysAddr) : (setLock s pa).itbPte = s.itbPte := rfl
@[simp] theorem setLock_itb (s : State) (pa : PhysAddr) : (setLock s pa).itb = s.itb := rfl
@[simp] theorem setLock_itbPtr (s : State) (pa : PhysAddr) : (setLock s pa).itbPtr = s.itbPtr := rfl
@[simp] theorem setLock_itbInit (s : State) (pa : PhysAddr) : (setLock s pa).itbInit = s.itbInit := rfl
@[simp] theorem setLock_pmpc (s : State) (pa : PhysAddr) : (setLock s pa).pmpc = s.pmpc := rfl
@[simp] theorem setLock_excAddr (s : State) (pa : PhysAddr) : (setLock s pa).excAddr = s.excAddr := rfl
@[simp] theorem setLock_excSum (s : State) (pa : PhysAddr) : (setLock s pa).excSum = s.excSum := rfl
@[simp] theorem setLock_ierCm (s : State) (pa : PhysAddr) : (setLock s pa).ierCm = s.ierCm := rfl
@[simp] theorem setLock_sirr (s : State) (pa : PhysAddr) : (setLock s pa).sirr = s.sirr := rfl
@[simp] theorem setLock_slReq (s : State) (pa : PhysAddr) : (setLock s pa).slReq = s.slReq := rfl
@[simp] theorem setLock_crReq (s : State) (pa : PhysAddr) : (setLock s pa).crReq = s.crReq := rfl
@[simp] theorem setLock_pc0Req (s : State) (pa : PhysAddr) : (setLock s pa).pc0Req = s.pc0Req := rfl
@[simp] theorem setLock_pc1Req (s : State) (pa : PhysAddr) : (setLock s pa).pc1Req = s.pc1Req := rfl
@[simp] theorem setLock_mchkDReq (s : State) (pa : PhysAddr) : (setLock s pa).mchkDReq = s.mchkDReq := rfl
@[simp] theorem setLock_mchkIReq (s : State) (pa : PhysAddr) : (setLock s pa).mchkIReq = s.mchkIReq := rfl
@[simp] theorem setLock_fbtp (s : State) (pa : PhysAddr) : (setLock s pa).fbtp = s.fbtp := rfl
@[simp] theorem setLock_palBase (s : State) (pa : PhysAddr) : (setLock s pa).palBase = s.palBase := rfl
@[simp] theorem setLock_iCtl (s : State) (pa : PhysAddr) : (setLock s pa).iCtl = s.iCtl := rfl
@[simp] theorem setLock_bistFail (s : State) (pa : PhysAddr) : (setLock s pa).bistFail = s.bistFail := rfl
@[simp] theorem setLock_iStat (s : State) (pa : PhysAddr) : (setLock s pa).iStat = s.iStat := rfl
@[simp] theorem setLock_icFlush (s : State) (pa : PhysAddr) : (setLock s pa).icFlush = s.icFlush := rfl
@[simp] theorem setLock_icFlushAsm (s : State) (pa : PhysAddr) : (setLock s pa).icFlushAsm = s.icFlushAsm := rfl
@[simp] theorem setLock_sleepArmed (s : State) (pa : PhysAddr) : (setLock s pa).sleepArmed = s.sleepArmed := rfl
@[simp] theorem setLock_asleep (s : State) (pa : PhysAddr) : (setLock s pa).asleep = s.asleep := rfl
@[simp] theorem setLock_pctx (s : State) (pa : PhysAddr) : (setLock s pa).pctx = s.pctx := rfl
@[simp] theorem setLock_pctr (s : State) (pa : PhysAddr) : (setLock s pa).pctr = s.pctr := rfl
@[simp] theorem setLock_pmStopped (s : State) (pa : PhysAddr) : (setLock s pa).pmStopped = s.pmStopped := rfl
@[simp] theorem setLock_dtbTag0 (s : State) (pa : PhysAddr) : (setLock s pa).dtbTag0 = s.dtbTag0 := rfl
@[simp] theorem setLock_dtbTag1 (s : State) (pa : PhysAddr) : (setLock s pa).dtbTag1 = s.dtbTag1 := rfl
@[simp] theorem setLock_dtbPte0 (s : State) (pa : PhysAddr) : (setLock s pa).dtbPte0 = s.dtbPte0 := rfl
@[simp] theorem setLock_dtbPte1 (s : State) (pa : PhysAddr) : (setLock s pa).dtbPte1 = s.dtbPte1 := rfl
@[simp] theorem setLock_dtb0 (s : State) (pa : PhysAddr) : (setLock s pa).dtb0 = s.dtb0 := rfl
@[simp] theorem setLock_dtb1 (s : State) (pa : PhysAddr) : (setLock s pa).dtb1 = s.dtb1 := rfl
@[simp] theorem setLock_dtbPtr (s : State) (pa : PhysAddr) : (setLock s pa).dtbPtr = s.dtbPtr := rfl
@[simp] theorem setLock_dtbAltMode (s : State) (pa : PhysAddr) : (setLock s pa).dtbAltMode = s.dtbAltMode := rfl
@[simp] theorem setLock_dtbAsn0 (s : State) (pa : PhysAddr) : (setLock s pa).dtbAsn0 = s.dtbAsn0 := rfl
@[simp] theorem setLock_dtbAsn1 (s : State) (pa : PhysAddr) : (setLock s pa).dtbAsn1 = s.dtbAsn1 := rfl
@[simp] theorem setLock_mmStat (s : State) (pa : PhysAddr) : (setLock s pa).mmStat = s.mmStat := rfl
@[simp] theorem setLock_mCtl (s : State) (pa : PhysAddr) : (setLock s pa).mCtl = s.mCtl := rfl
@[simp] theorem setLock_dcCtl (s : State) (pa : PhysAddr) : (setLock s pa).dcCtl = s.dcCtl := rfl
@[simp] theorem setLock_dcStat (s : State) (pa : PhysAddr) : (setLock s pa).dcStat = s.dcStat := rfl
@[simp] theorem setLock_cData (s : State) (pa : PhysAddr) : (setLock s pa).cData = s.cData := rfl
@[simp] theorem setLock_writeMany (s : State) (pa : PhysAddr) : (setLock s pa).writeMany = s.writeMany := rfl
@[simp] theorem setLock_writeOnce (s : State) (pa : PhysAddr) : (setLock s pa).writeOnce = s.writeOnce := rfl
@[simp] theorem setLock_errorReg (s : State) (pa : PhysAddr) : (setLock s pa).errorReg = s.errorReg := rfl
@[simp] theorem setLock_icache (s : State) (pa : PhysAddr) : (setLock s pa).icache = s.icache := rfl
@[simp] theorem setLock_cached (s : State) (pa : PhysAddr) : (setLock s pa).cached = s.cached := rfl
@[simp] theorem setLock_irqPins (s : State) (pa : PhysAddr) : (setLock s pa).irqPins = s.irqPins := rfl
@[simp] theorem setLock_slRcv (s : State) (pa : PhysAddr) : (setLock s pa).slRcv = s.slRcv := rfl
@[simp] theorem setLock_stcGrant (s : State) (pa : PhysAddr) : (setLock s pa).stcGrant = s.stcGrant := rfl
@[simp] theorem setLock_ackHeld (s : State) (pa : PhysAddr) : (setLock s pa).ackHeld = s.ackHeld := rfl
@[simp] theorem setLock_memMap (s : State) (pa : PhysAddr) : (setLock s pa).memMap = s.memMap := rfl
@[simp] theorem setLock_srom (s : State) (pa : PhysAddr) : (setLock s pa).srom = s.srom := rfl
@[simp] theorem setLock_free (s : State) (pa : PhysAddr) : (setLock s pa).free = s.free := rfl
@[simp] theorem setLock_env (s : State) (pa : PhysAddr) : (setLock s pa).env = s.env := rfl
@[simp] theorem setLock_ioTrace (s : State) (pa : PhysAddr) : (setLock s pa).ioTrace = s.ioTrace := rfl
@[simp] theorem setLock_viaJump (s : State) (pa : PhysAddr) : (setLock s pa).viaJump = s.viaJump := rfl
@[simp] theorem setLock_trap (s : State) (pa : PhysAddr) : (setLock s pa).trap = s.trap := rfl
@[simp] theorem setLock_tagErr (s : State) (pa : PhysAddr) : (setLock s pa).tagErr = s.tagErr := rfl
@[simp] theorem setLock_waiting (s : State) (pa : PhysAddr) : (setLock s pa).waiting = s.waiting := rfl
@[simp] theorem setLock_lockWatch (s : State) (pa : PhysAddr) : (setLock s pa).lockWatch = { LockWatch.idle with prefetched := recentPrefetch s (blockOf pa) } := rfl
@[simp] theorem setLock_prefetches (s : State) (pa : PhysAddr) : (setLock s pa).prefetches = s.prefetches := rfl
@[simp] theorem setLock_blocks (s : State) (pa : PhysAddr) : (setLock s pa).blocks = s.blocks := rfl

/-! ### notePrefetch -/

@[simp] theorem notePrefetch_intRegs (s : State) (pa : PhysAddr) : (notePrefetch s pa).intRegs = s.intRegs := rfl
@[simp] theorem notePrefetch_shadow (s : State) (pa : PhysAddr) : (notePrefetch s pa).shadow = s.shadow := rfl
@[simp] theorem notePrefetch_fpRegs (s : State) (pa : PhysAddr) : (notePrefetch s pa).fpRegs = s.fpRegs := rfl
@[simp] theorem notePrefetch_pc (s : State) (pa : PhysAddr) : (notePrefetch s pa).pc = s.pc := rfl
@[simp] theorem notePrefetch_palMode (s : State) (pa : PhysAddr) : (notePrefetch s pa).palMode = s.palMode := rfl
@[simp] theorem notePrefetch_fpcr (s : State) (pa : PhysAddr) : (notePrefetch s pa).fpcr = s.fpcr := rfl
@[simp] theorem notePrefetch_lockFlag (s : State) (pa : PhysAddr) : (notePrefetch s pa).lockFlag = s.lockFlag := rfl
@[simp] theorem notePrefetch_lockBlock (s : State) (pa : PhysAddr) : (notePrefetch s pa).lockBlock = s.lockBlock := rfl
@[simp] theorem notePrefetch_intrFlag (s : State) (pa : PhysAddr) : (notePrefetch s pa).intrFlag = s.intrFlag := rfl
@[simp] theorem notePrefetch_mem (s : State) (pa : PhysAddr) : (notePrefetch s pa).mem = s.mem := rfl
@[simp] theorem notePrefetch_cc (s : State) (pa : PhysAddr) : (notePrefetch s pa).cc = s.cc := rfl
@[simp] theorem notePrefetch_ccEna (s : State) (pa : PhysAddr) : (notePrefetch s pa).ccEna = s.ccEna := rfl
@[simp] theorem notePrefetch_va (s : State) (pa : PhysAddr) : (notePrefetch s pa).va = s.va := rfl
@[simp] theorem notePrefetch_vaCtl (s : State) (pa : PhysAddr) : (notePrefetch s pa).vaCtl = s.vaCtl := rfl
@[simp] theorem notePrefetch_itbTag (s : State) (pa : PhysAddr) : (notePrefetch s pa).itbTag = s.itbTag := rfl
@[simp] theorem notePrefetch_itbPte (s : State) (pa : PhysAddr) : (notePrefetch s pa).itbPte = s.itbPte := rfl
@[simp] theorem notePrefetch_itb (s : State) (pa : PhysAddr) : (notePrefetch s pa).itb = s.itb := rfl
@[simp] theorem notePrefetch_itbPtr (s : State) (pa : PhysAddr) : (notePrefetch s pa).itbPtr = s.itbPtr := rfl
@[simp] theorem notePrefetch_itbInit (s : State) (pa : PhysAddr) : (notePrefetch s pa).itbInit = s.itbInit := rfl
@[simp] theorem notePrefetch_pmpc (s : State) (pa : PhysAddr) : (notePrefetch s pa).pmpc = s.pmpc := rfl
@[simp] theorem notePrefetch_excAddr (s : State) (pa : PhysAddr) : (notePrefetch s pa).excAddr = s.excAddr := rfl
@[simp] theorem notePrefetch_excSum (s : State) (pa : PhysAddr) : (notePrefetch s pa).excSum = s.excSum := rfl
@[simp] theorem notePrefetch_ierCm (s : State) (pa : PhysAddr) : (notePrefetch s pa).ierCm = s.ierCm := rfl
@[simp] theorem notePrefetch_sirr (s : State) (pa : PhysAddr) : (notePrefetch s pa).sirr = s.sirr := rfl
@[simp] theorem notePrefetch_slReq (s : State) (pa : PhysAddr) : (notePrefetch s pa).slReq = s.slReq := rfl
@[simp] theorem notePrefetch_crReq (s : State) (pa : PhysAddr) : (notePrefetch s pa).crReq = s.crReq := rfl
@[simp] theorem notePrefetch_pc0Req (s : State) (pa : PhysAddr) : (notePrefetch s pa).pc0Req = s.pc0Req := rfl
@[simp] theorem notePrefetch_pc1Req (s : State) (pa : PhysAddr) : (notePrefetch s pa).pc1Req = s.pc1Req := rfl
@[simp] theorem notePrefetch_mchkDReq (s : State) (pa : PhysAddr) : (notePrefetch s pa).mchkDReq = s.mchkDReq := rfl
@[simp] theorem notePrefetch_mchkIReq (s : State) (pa : PhysAddr) : (notePrefetch s pa).mchkIReq = s.mchkIReq := rfl
@[simp] theorem notePrefetch_fbtp (s : State) (pa : PhysAddr) : (notePrefetch s pa).fbtp = s.fbtp := rfl
@[simp] theorem notePrefetch_palBase (s : State) (pa : PhysAddr) : (notePrefetch s pa).palBase = s.palBase := rfl
@[simp] theorem notePrefetch_iCtl (s : State) (pa : PhysAddr) : (notePrefetch s pa).iCtl = s.iCtl := rfl
@[simp] theorem notePrefetch_bistFail (s : State) (pa : PhysAddr) : (notePrefetch s pa).bistFail = s.bistFail := rfl
@[simp] theorem notePrefetch_iStat (s : State) (pa : PhysAddr) : (notePrefetch s pa).iStat = s.iStat := rfl
@[simp] theorem notePrefetch_icFlush (s : State) (pa : PhysAddr) : (notePrefetch s pa).icFlush = s.icFlush := rfl
@[simp] theorem notePrefetch_icFlushAsm (s : State) (pa : PhysAddr) : (notePrefetch s pa).icFlushAsm = s.icFlushAsm := rfl
@[simp] theorem notePrefetch_sleepArmed (s : State) (pa : PhysAddr) : (notePrefetch s pa).sleepArmed = s.sleepArmed := rfl
@[simp] theorem notePrefetch_asleep (s : State) (pa : PhysAddr) : (notePrefetch s pa).asleep = s.asleep := rfl
@[simp] theorem notePrefetch_pctx (s : State) (pa : PhysAddr) : (notePrefetch s pa).pctx = s.pctx := rfl
@[simp] theorem notePrefetch_pctr (s : State) (pa : PhysAddr) : (notePrefetch s pa).pctr = s.pctr := rfl
@[simp] theorem notePrefetch_pmStopped (s : State) (pa : PhysAddr) : (notePrefetch s pa).pmStopped = s.pmStopped := rfl
@[simp] theorem notePrefetch_dtbTag0 (s : State) (pa : PhysAddr) : (notePrefetch s pa).dtbTag0 = s.dtbTag0 := rfl
@[simp] theorem notePrefetch_dtbTag1 (s : State) (pa : PhysAddr) : (notePrefetch s pa).dtbTag1 = s.dtbTag1 := rfl
@[simp] theorem notePrefetch_dtbPte0 (s : State) (pa : PhysAddr) : (notePrefetch s pa).dtbPte0 = s.dtbPte0 := rfl
@[simp] theorem notePrefetch_dtbPte1 (s : State) (pa : PhysAddr) : (notePrefetch s pa).dtbPte1 = s.dtbPte1 := rfl
@[simp] theorem notePrefetch_dtb0 (s : State) (pa : PhysAddr) : (notePrefetch s pa).dtb0 = s.dtb0 := rfl
@[simp] theorem notePrefetch_dtb1 (s : State) (pa : PhysAddr) : (notePrefetch s pa).dtb1 = s.dtb1 := rfl
@[simp] theorem notePrefetch_dtbPtr (s : State) (pa : PhysAddr) : (notePrefetch s pa).dtbPtr = s.dtbPtr := rfl
@[simp] theorem notePrefetch_dtbAltMode (s : State) (pa : PhysAddr) : (notePrefetch s pa).dtbAltMode = s.dtbAltMode := rfl
@[simp] theorem notePrefetch_dtbAsn0 (s : State) (pa : PhysAddr) : (notePrefetch s pa).dtbAsn0 = s.dtbAsn0 := rfl
@[simp] theorem notePrefetch_dtbAsn1 (s : State) (pa : PhysAddr) : (notePrefetch s pa).dtbAsn1 = s.dtbAsn1 := rfl
@[simp] theorem notePrefetch_mmStat (s : State) (pa : PhysAddr) : (notePrefetch s pa).mmStat = s.mmStat := rfl
@[simp] theorem notePrefetch_mCtl (s : State) (pa : PhysAddr) : (notePrefetch s pa).mCtl = s.mCtl := rfl
@[simp] theorem notePrefetch_dcCtl (s : State) (pa : PhysAddr) : (notePrefetch s pa).dcCtl = s.dcCtl := rfl
@[simp] theorem notePrefetch_dcStat (s : State) (pa : PhysAddr) : (notePrefetch s pa).dcStat = s.dcStat := rfl
@[simp] theorem notePrefetch_cData (s : State) (pa : PhysAddr) : (notePrefetch s pa).cData = s.cData := rfl
@[simp] theorem notePrefetch_writeMany (s : State) (pa : PhysAddr) : (notePrefetch s pa).writeMany = s.writeMany := rfl
@[simp] theorem notePrefetch_writeOnce (s : State) (pa : PhysAddr) : (notePrefetch s pa).writeOnce = s.writeOnce := rfl
@[simp] theorem notePrefetch_errorReg (s : State) (pa : PhysAddr) : (notePrefetch s pa).errorReg = s.errorReg := rfl
@[simp] theorem notePrefetch_icache (s : State) (pa : PhysAddr) : (notePrefetch s pa).icache = s.icache := rfl
@[simp] theorem notePrefetch_cached (s : State) (pa : PhysAddr) : (notePrefetch s pa).cached = s.cached := rfl
@[simp] theorem notePrefetch_irqPins (s : State) (pa : PhysAddr) : (notePrefetch s pa).irqPins = s.irqPins := rfl
@[simp] theorem notePrefetch_slRcv (s : State) (pa : PhysAddr) : (notePrefetch s pa).slRcv = s.slRcv := rfl
@[simp] theorem notePrefetch_stcGrant (s : State) (pa : PhysAddr) : (notePrefetch s pa).stcGrant = s.stcGrant := rfl
@[simp] theorem notePrefetch_ackHeld (s : State) (pa : PhysAddr) : (notePrefetch s pa).ackHeld = s.ackHeld := rfl
@[simp] theorem notePrefetch_memMap (s : State) (pa : PhysAddr) : (notePrefetch s pa).memMap = s.memMap := rfl
@[simp] theorem notePrefetch_srom (s : State) (pa : PhysAddr) : (notePrefetch s pa).srom = s.srom := rfl
@[simp] theorem notePrefetch_free (s : State) (pa : PhysAddr) : (notePrefetch s pa).free = s.free := rfl
@[simp] theorem notePrefetch_env (s : State) (pa : PhysAddr) : (notePrefetch s pa).env = s.env := rfl
@[simp] theorem notePrefetch_ioTrace (s : State) (pa : PhysAddr) : (notePrefetch s pa).ioTrace = s.ioTrace := rfl
@[simp] theorem notePrefetch_viaJump (s : State) (pa : PhysAddr) : (notePrefetch s pa).viaJump = s.viaJump := rfl
@[simp] theorem notePrefetch_trap (s : State) (pa : PhysAddr) : (notePrefetch s pa).trap = s.trap := rfl
@[simp] theorem notePrefetch_tagErr (s : State) (pa : PhysAddr) : (notePrefetch s pa).tagErr = s.tagErr := rfl
@[simp] theorem notePrefetch_waiting (s : State) (pa : PhysAddr) : (notePrefetch s pa).waiting = s.waiting := rfl
@[simp] theorem notePrefetch_blocks (s : State) (pa : PhysAddr) : (notePrefetch s pa).blocks = s.blocks := rfl

/-! ### wait -/

@[simp] theorem wait_intRegs (s : State) : (wait s).intRegs = s.intRegs := rfl
@[simp] theorem wait_shadow (s : State) : (wait s).shadow = s.shadow := rfl
@[simp] theorem wait_fpRegs (s : State) : (wait s).fpRegs = s.fpRegs := rfl
@[simp] theorem wait_pc (s : State) : (wait s).pc = s.pc := rfl
@[simp] theorem wait_palMode (s : State) : (wait s).palMode = s.palMode := rfl
@[simp] theorem wait_fpcr (s : State) : (wait s).fpcr = s.fpcr := rfl
@[simp] theorem wait_lockFlag (s : State) : (wait s).lockFlag = s.lockFlag := rfl
@[simp] theorem wait_lockBlock (s : State) : (wait s).lockBlock = s.lockBlock := rfl
@[simp] theorem wait_intrFlag (s : State) : (wait s).intrFlag = s.intrFlag := rfl
@[simp] theorem wait_mem (s : State) : (wait s).mem = s.mem := rfl
@[simp] theorem wait_cc (s : State) : (wait s).cc = s.cc := rfl
@[simp] theorem wait_ccEna (s : State) : (wait s).ccEna = s.ccEna := rfl
@[simp] theorem wait_va (s : State) : (wait s).va = s.va := rfl
@[simp] theorem wait_vaCtl (s : State) : (wait s).vaCtl = s.vaCtl := rfl
@[simp] theorem wait_itbTag (s : State) : (wait s).itbTag = s.itbTag := rfl
@[simp] theorem wait_itbPte (s : State) : (wait s).itbPte = s.itbPte := rfl
@[simp] theorem wait_itb (s : State) : (wait s).itb = s.itb := rfl
@[simp] theorem wait_itbPtr (s : State) : (wait s).itbPtr = s.itbPtr := rfl
@[simp] theorem wait_itbInit (s : State) : (wait s).itbInit = s.itbInit := rfl
@[simp] theorem wait_pmpc (s : State) : (wait s).pmpc = s.pmpc := rfl
@[simp] theorem wait_excAddr (s : State) : (wait s).excAddr = s.excAddr := rfl
@[simp] theorem wait_excSum (s : State) : (wait s).excSum = s.excSum := rfl
@[simp] theorem wait_ierCm (s : State) : (wait s).ierCm = s.ierCm := rfl
@[simp] theorem wait_sirr (s : State) : (wait s).sirr = s.sirr := rfl
@[simp] theorem wait_slReq (s : State) : (wait s).slReq = s.slReq := rfl
@[simp] theorem wait_crReq (s : State) : (wait s).crReq = s.crReq := rfl
@[simp] theorem wait_pc0Req (s : State) : (wait s).pc0Req = s.pc0Req := rfl
@[simp] theorem wait_pc1Req (s : State) : (wait s).pc1Req = s.pc1Req := rfl
@[simp] theorem wait_mchkDReq (s : State) : (wait s).mchkDReq = s.mchkDReq := rfl
@[simp] theorem wait_mchkIReq (s : State) : (wait s).mchkIReq = s.mchkIReq := rfl
@[simp] theorem wait_fbtp (s : State) : (wait s).fbtp = s.fbtp := rfl
@[simp] theorem wait_palBase (s : State) : (wait s).palBase = s.palBase := rfl
@[simp] theorem wait_iCtl (s : State) : (wait s).iCtl = s.iCtl := rfl
@[simp] theorem wait_bistFail (s : State) : (wait s).bistFail = s.bistFail := rfl
@[simp] theorem wait_iStat (s : State) : (wait s).iStat = s.iStat := rfl
@[simp] theorem wait_icFlush (s : State) : (wait s).icFlush = s.icFlush := rfl
@[simp] theorem wait_icFlushAsm (s : State) : (wait s).icFlushAsm = s.icFlushAsm := rfl
@[simp] theorem wait_sleepArmed (s : State) : (wait s).sleepArmed = s.sleepArmed := rfl
@[simp] theorem wait_asleep (s : State) : (wait s).asleep = s.asleep := rfl
@[simp] theorem wait_pctx (s : State) : (wait s).pctx = s.pctx := rfl
@[simp] theorem wait_pctr (s : State) : (wait s).pctr = s.pctr := rfl
@[simp] theorem wait_pmStopped (s : State) : (wait s).pmStopped = s.pmStopped := rfl
@[simp] theorem wait_dtbTag0 (s : State) : (wait s).dtbTag0 = s.dtbTag0 := rfl
@[simp] theorem wait_dtbTag1 (s : State) : (wait s).dtbTag1 = s.dtbTag1 := rfl
@[simp] theorem wait_dtbPte0 (s : State) : (wait s).dtbPte0 = s.dtbPte0 := rfl
@[simp] theorem wait_dtbPte1 (s : State) : (wait s).dtbPte1 = s.dtbPte1 := rfl
@[simp] theorem wait_dtb0 (s : State) : (wait s).dtb0 = s.dtb0 := rfl
@[simp] theorem wait_dtb1 (s : State) : (wait s).dtb1 = s.dtb1 := rfl
@[simp] theorem wait_dtbPtr (s : State) : (wait s).dtbPtr = s.dtbPtr := rfl
@[simp] theorem wait_dtbAltMode (s : State) : (wait s).dtbAltMode = s.dtbAltMode := rfl
@[simp] theorem wait_dtbAsn0 (s : State) : (wait s).dtbAsn0 = s.dtbAsn0 := rfl
@[simp] theorem wait_dtbAsn1 (s : State) : (wait s).dtbAsn1 = s.dtbAsn1 := rfl
@[simp] theorem wait_mmStat (s : State) : (wait s).mmStat = s.mmStat := rfl
@[simp] theorem wait_mCtl (s : State) : (wait s).mCtl = s.mCtl := rfl
@[simp] theorem wait_dcCtl (s : State) : (wait s).dcCtl = s.dcCtl := rfl
@[simp] theorem wait_dcStat (s : State) : (wait s).dcStat = s.dcStat := rfl
@[simp] theorem wait_cData (s : State) : (wait s).cData = s.cData := rfl
@[simp] theorem wait_writeMany (s : State) : (wait s).writeMany = s.writeMany := rfl
@[simp] theorem wait_writeOnce (s : State) : (wait s).writeOnce = s.writeOnce := rfl
@[simp] theorem wait_errorReg (s : State) : (wait s).errorReg = s.errorReg := rfl
@[simp] theorem wait_icache (s : State) : (wait s).icache = s.icache := rfl
@[simp] theorem wait_cached (s : State) : (wait s).cached = s.cached := rfl
@[simp] theorem wait_irqPins (s : State) : (wait s).irqPins = s.irqPins := rfl
@[simp] theorem wait_slRcv (s : State) : (wait s).slRcv = s.slRcv := rfl
@[simp] theorem wait_stcGrant (s : State) : (wait s).stcGrant = s.stcGrant := rfl
@[simp] theorem wait_ackHeld (s : State) : (wait s).ackHeld = s.ackHeld := rfl
@[simp] theorem wait_memMap (s : State) : (wait s).memMap = s.memMap := rfl
@[simp] theorem wait_srom (s : State) : (wait s).srom = s.srom := rfl
@[simp] theorem wait_free (s : State) : (wait s).free = s.free := rfl
@[simp] theorem wait_env (s : State) : (wait s).env = s.env := rfl
@[simp] theorem wait_ioTrace (s : State) : (wait s).ioTrace = s.ioTrace := rfl
@[simp] theorem wait_viaJump (s : State) : (wait s).viaJump = s.viaJump := rfl
@[simp] theorem wait_trap (s : State) : (wait s).trap = s.trap := rfl
@[simp] theorem wait_tagErr (s : State) : (wait s).tagErr = s.tagErr := rfl
@[simp] theorem wait_waiting (s : State) : (wait s).waiting = true := rfl
@[simp] theorem wait_lockWatch (s : State) : (wait s).lockWatch = s.lockWatch := rfl
@[simp] theorem wait_prefetches (s : State) : (wait s).prefetches = s.prefetches := rfl
@[simp] theorem wait_blocks (s : State) : (wait s).blocks = s.blocks := rfl

/-! ### palReturn -/

@[simp] theorem palReturn_intRegs (s : State) (x : Word) : (palReturn s x).intRegs = s.intRegs := rfl
@[simp] theorem palReturn_shadow (s : State) (x : Word) : (palReturn s x).shadow = s.shadow := rfl
@[simp] theorem palReturn_fpRegs (s : State) (x : Word) : (palReturn s x).fpRegs = s.fpRegs := rfl
@[simp] theorem palReturn_pc (s : State) (x : Word) : (palReturn s x).pc = x &&& ~~~3#64 := rfl
@[simp] theorem palReturn_palMode (s : State) (x : Word) : (palReturn s x).palMode = x.getLsbD 0 := rfl
@[simp] theorem palReturn_fpcr (s : State) (x : Word) : (palReturn s x).fpcr = s.fpcr := rfl
@[simp] theorem palReturn_lockFlag (s : State) (x : Word) : (palReturn s x).lockFlag = s.lockFlag := rfl
@[simp] theorem palReturn_lockBlock (s : State) (x : Word) : (palReturn s x).lockBlock = s.lockBlock := rfl
@[simp] theorem palReturn_intrFlag (s : State) (x : Word) : (palReturn s x).intrFlag = s.intrFlag := rfl
@[simp] theorem palReturn_mem (s : State) (x : Word) : (palReturn s x).mem = s.mem := rfl
@[simp] theorem palReturn_cc (s : State) (x : Word) : (palReturn s x).cc = s.cc := rfl
@[simp] theorem palReturn_ccEna (s : State) (x : Word) : (palReturn s x).ccEna = s.ccEna := rfl
@[simp] theorem palReturn_va (s : State) (x : Word) : (palReturn s x).va = s.va := rfl
@[simp] theorem palReturn_vaCtl (s : State) (x : Word) : (palReturn s x).vaCtl = s.vaCtl := rfl
@[simp] theorem palReturn_itbTag (s : State) (x : Word) : (palReturn s x).itbTag = s.itbTag := rfl
@[simp] theorem palReturn_itbPte (s : State) (x : Word) : (palReturn s x).itbPte = s.itbPte := rfl
@[simp] theorem palReturn_itb (s : State) (x : Word) : (palReturn s x).itb = s.itb := rfl
@[simp] theorem palReturn_itbPtr (s : State) (x : Word) : (palReturn s x).itbPtr = s.itbPtr := rfl
@[simp] theorem palReturn_itbInit (s : State) (x : Word) : (palReturn s x).itbInit = s.itbInit := rfl
@[simp] theorem palReturn_pmpc (s : State) (x : Word) : (palReturn s x).pmpc = s.pmpc := rfl
@[simp] theorem palReturn_excAddr (s : State) (x : Word) : (palReturn s x).excAddr = s.excAddr := rfl
@[simp] theorem palReturn_excSum (s : State) (x : Word) : (palReturn s x).excSum = s.excSum := rfl
@[simp] theorem palReturn_ierCm (s : State) (x : Word) : (palReturn s x).ierCm = s.ierCm := rfl
@[simp] theorem palReturn_sirr (s : State) (x : Word) : (palReturn s x).sirr = s.sirr := rfl
@[simp] theorem palReturn_slReq (s : State) (x : Word) : (palReturn s x).slReq = s.slReq := rfl
@[simp] theorem palReturn_crReq (s : State) (x : Word) : (palReturn s x).crReq = s.crReq := rfl
@[simp] theorem palReturn_pc0Req (s : State) (x : Word) : (palReturn s x).pc0Req = s.pc0Req := rfl
@[simp] theorem palReturn_pc1Req (s : State) (x : Word) : (palReturn s x).pc1Req = s.pc1Req := rfl
@[simp] theorem palReturn_mchkDReq (s : State) (x : Word) : (palReturn s x).mchkDReq = s.mchkDReq := rfl
@[simp] theorem palReturn_mchkIReq (s : State) (x : Word) : (palReturn s x).mchkIReq = s.mchkIReq := rfl
@[simp] theorem palReturn_fbtp (s : State) (x : Word) : (palReturn s x).fbtp = s.fbtp := rfl
@[simp] theorem palReturn_palBase (s : State) (x : Word) : (palReturn s x).palBase = s.palBase := rfl
@[simp] theorem palReturn_iCtl (s : State) (x : Word) : (palReturn s x).iCtl = s.iCtl := rfl
@[simp] theorem palReturn_bistFail (s : State) (x : Word) : (palReturn s x).bistFail = s.bistFail := rfl
@[simp] theorem palReturn_iStat (s : State) (x : Word) : (palReturn s x).iStat = s.iStat := rfl
@[simp] theorem palReturn_icFlush (s : State) (x : Word) : (palReturn s x).icFlush = s.icFlush := rfl
@[simp] theorem palReturn_icFlushAsm (s : State) (x : Word) : (palReturn s x).icFlushAsm = s.icFlushAsm := rfl
@[simp] theorem palReturn_sleepArmed (s : State) (x : Word) : (palReturn s x).sleepArmed = s.sleepArmed := rfl
@[simp] theorem palReturn_asleep (s : State) (x : Word) : (palReturn s x).asleep = s.asleep := rfl
@[simp] theorem palReturn_pctx (s : State) (x : Word) : (palReturn s x).pctx = s.pctx := rfl
@[simp] theorem palReturn_pctr (s : State) (x : Word) : (palReturn s x).pctr = s.pctr := rfl
@[simp] theorem palReturn_pmStopped (s : State) (x : Word) : (palReturn s x).pmStopped = s.pmStopped := rfl
@[simp] theorem palReturn_dtbTag0 (s : State) (x : Word) : (palReturn s x).dtbTag0 = s.dtbTag0 := rfl
@[simp] theorem palReturn_dtbTag1 (s : State) (x : Word) : (palReturn s x).dtbTag1 = s.dtbTag1 := rfl
@[simp] theorem palReturn_dtbPte0 (s : State) (x : Word) : (palReturn s x).dtbPte0 = s.dtbPte0 := rfl
@[simp] theorem palReturn_dtbPte1 (s : State) (x : Word) : (palReturn s x).dtbPte1 = s.dtbPte1 := rfl
@[simp] theorem palReturn_dtb0 (s : State) (x : Word) : (palReturn s x).dtb0 = s.dtb0 := rfl
@[simp] theorem palReturn_dtb1 (s : State) (x : Word) : (palReturn s x).dtb1 = s.dtb1 := rfl
@[simp] theorem palReturn_dtbPtr (s : State) (x : Word) : (palReturn s x).dtbPtr = s.dtbPtr := rfl
@[simp] theorem palReturn_dtbAltMode (s : State) (x : Word) : (palReturn s x).dtbAltMode = s.dtbAltMode := rfl
@[simp] theorem palReturn_dtbAsn0 (s : State) (x : Word) : (palReturn s x).dtbAsn0 = s.dtbAsn0 := rfl
@[simp] theorem palReturn_dtbAsn1 (s : State) (x : Word) : (palReturn s x).dtbAsn1 = s.dtbAsn1 := rfl
@[simp] theorem palReturn_mmStat (s : State) (x : Word) : (palReturn s x).mmStat = s.mmStat := rfl
@[simp] theorem palReturn_mCtl (s : State) (x : Word) : (palReturn s x).mCtl = s.mCtl := rfl
@[simp] theorem palReturn_dcCtl (s : State) (x : Word) : (palReturn s x).dcCtl = s.dcCtl := rfl
@[simp] theorem palReturn_dcStat (s : State) (x : Word) : (palReturn s x).dcStat = s.dcStat := rfl
@[simp] theorem palReturn_cData (s : State) (x : Word) : (palReturn s x).cData = s.cData := rfl
@[simp] theorem palReturn_writeMany (s : State) (x : Word) : (palReturn s x).writeMany = s.writeMany := rfl
@[simp] theorem palReturn_writeOnce (s : State) (x : Word) : (palReturn s x).writeOnce = s.writeOnce := rfl
@[simp] theorem palReturn_errorReg (s : State) (x : Word) : (palReturn s x).errorReg = s.errorReg := rfl
@[simp] theorem palReturn_icache (s : State) (x : Word) : (palReturn s x).icache = s.icache := rfl
@[simp] theorem palReturn_cached (s : State) (x : Word) : (palReturn s x).cached = s.cached := rfl
@[simp] theorem palReturn_irqPins (s : State) (x : Word) : (palReturn s x).irqPins = s.irqPins := rfl
@[simp] theorem palReturn_slRcv (s : State) (x : Word) : (palReturn s x).slRcv = s.slRcv := rfl
@[simp] theorem palReturn_stcGrant (s : State) (x : Word) : (palReturn s x).stcGrant = s.stcGrant := rfl
@[simp] theorem palReturn_ackHeld (s : State) (x : Word) : (palReturn s x).ackHeld = s.ackHeld := rfl
@[simp] theorem palReturn_memMap (s : State) (x : Word) : (palReturn s x).memMap = s.memMap := rfl
@[simp] theorem palReturn_srom (s : State) (x : Word) : (palReturn s x).srom = s.srom := rfl
@[simp] theorem palReturn_free (s : State) (x : Word) : (palReturn s x).free = s.free := rfl
@[simp] theorem palReturn_env (s : State) (x : Word) : (palReturn s x).env = s.env := rfl
@[simp] theorem palReturn_ioTrace (s : State) (x : Word) : (palReturn s x).ioTrace = s.ioTrace := rfl
@[simp] theorem palReturn_viaJump (s : State) (x : Word) : (palReturn s x).viaJump = true := rfl
@[simp] theorem palReturn_trap (s : State) (x : Word) : (palReturn s x).trap = s.trap := rfl
@[simp] theorem palReturn_tagErr (s : State) (x : Word) : (palReturn s x).tagErr = s.tagErr := rfl
@[simp] theorem palReturn_waiting (s : State) (x : Word) : (palReturn s x).waiting = s.waiting := rfl
@[simp] theorem palReturn_lockWatch (s : State) (x : Word) : (palReturn s x).lockWatch = s.lockWatch := rfl
@[simp] theorem palReturn_prefetches (s : State) (x : Word) : (palReturn s x).prefetches = s.prefetches := rfl
@[simp] theorem palReturn_blocks (s : State) (x : Word) : (palReturn s x).blocks = s.blocks := rfl

/-! ### beginInstr -/

@[simp] theorem beginInstr_intRegs (s : State) : (beginInstr s).intRegs = s.intRegs := rfl
@[simp] theorem beginInstr_shadow (s : State) : (beginInstr s).shadow = s.shadow := rfl
@[simp] theorem beginInstr_fpRegs (s : State) : (beginInstr s).fpRegs = s.fpRegs := rfl
@[simp] theorem beginInstr_pc (s : State) : (beginInstr s).pc = s.pc := rfl
@[simp] theorem beginInstr_palMode (s : State) : (beginInstr s).palMode = s.palMode := rfl
@[simp] theorem beginInstr_fpcr (s : State) : (beginInstr s).fpcr = s.fpcr := rfl
@[simp] theorem beginInstr_lockFlag (s : State) : (beginInstr s).lockFlag = s.lockFlag := rfl
@[simp] theorem beginInstr_lockBlock (s : State) : (beginInstr s).lockBlock = s.lockBlock := rfl
@[simp] theorem beginInstr_intrFlag (s : State) : (beginInstr s).intrFlag = s.intrFlag := rfl
@[simp] theorem beginInstr_mem (s : State) : (beginInstr s).mem = s.mem := rfl
@[simp] theorem beginInstr_cc (s : State) : (beginInstr s).cc = s.cc := rfl
@[simp] theorem beginInstr_ccEna (s : State) : (beginInstr s).ccEna = s.ccEna := rfl
@[simp] theorem beginInstr_va (s : State) : (beginInstr s).va = s.va := rfl
@[simp] theorem beginInstr_vaCtl (s : State) : (beginInstr s).vaCtl = s.vaCtl := rfl
@[simp] theorem beginInstr_itbTag (s : State) : (beginInstr s).itbTag = s.itbTag := rfl
@[simp] theorem beginInstr_itbPte (s : State) : (beginInstr s).itbPte = s.itbPte := rfl
@[simp] theorem beginInstr_itb (s : State) : (beginInstr s).itb = s.itb := rfl
@[simp] theorem beginInstr_itbPtr (s : State) : (beginInstr s).itbPtr = s.itbPtr := rfl
@[simp] theorem beginInstr_itbInit (s : State) : (beginInstr s).itbInit = s.itbInit := rfl
@[simp] theorem beginInstr_pmpc (s : State) : (beginInstr s).pmpc = s.pmpc := rfl
@[simp] theorem beginInstr_excAddr (s : State) : (beginInstr s).excAddr = s.excAddr := rfl
@[simp] theorem beginInstr_excSum (s : State) : (beginInstr s).excSum = s.excSum := rfl
@[simp] theorem beginInstr_ierCm (s : State) : (beginInstr s).ierCm = s.ierCm := rfl
@[simp] theorem beginInstr_sirr (s : State) : (beginInstr s).sirr = s.sirr := rfl
@[simp] theorem beginInstr_slReq (s : State) : (beginInstr s).slReq = s.slReq := rfl
@[simp] theorem beginInstr_crReq (s : State) : (beginInstr s).crReq = s.crReq := rfl
@[simp] theorem beginInstr_pc0Req (s : State) : (beginInstr s).pc0Req = s.pc0Req := rfl
@[simp] theorem beginInstr_pc1Req (s : State) : (beginInstr s).pc1Req = s.pc1Req := rfl
@[simp] theorem beginInstr_mchkDReq (s : State) : (beginInstr s).mchkDReq = s.mchkDReq := rfl
@[simp] theorem beginInstr_mchkIReq (s : State) : (beginInstr s).mchkIReq = s.mchkIReq := rfl
@[simp] theorem beginInstr_fbtp (s : State) : (beginInstr s).fbtp = s.fbtp := rfl
@[simp] theorem beginInstr_palBase (s : State) : (beginInstr s).palBase = s.palBase := rfl
@[simp] theorem beginInstr_iCtl (s : State) : (beginInstr s).iCtl = s.iCtl := rfl
@[simp] theorem beginInstr_bistFail (s : State) : (beginInstr s).bistFail = s.bistFail := rfl
@[simp] theorem beginInstr_iStat (s : State) : (beginInstr s).iStat = s.iStat := rfl
@[simp] theorem beginInstr_icFlush (s : State) : (beginInstr s).icFlush = s.icFlush := rfl
@[simp] theorem beginInstr_icFlushAsm (s : State) : (beginInstr s).icFlushAsm = s.icFlushAsm := rfl
@[simp] theorem beginInstr_sleepArmed (s : State) : (beginInstr s).sleepArmed = s.sleepArmed := rfl
@[simp] theorem beginInstr_asleep (s : State) : (beginInstr s).asleep = s.asleep := rfl
@[simp] theorem beginInstr_pctx (s : State) : (beginInstr s).pctx = s.pctx := rfl
@[simp] theorem beginInstr_pctr (s : State) : (beginInstr s).pctr = s.pctr := rfl
@[simp] theorem beginInstr_pmStopped (s : State) : (beginInstr s).pmStopped = s.pmStopped := rfl
@[simp] theorem beginInstr_dtbTag0 (s : State) : (beginInstr s).dtbTag0 = s.dtbTag0 := rfl
@[simp] theorem beginInstr_dtbTag1 (s : State) : (beginInstr s).dtbTag1 = s.dtbTag1 := rfl
@[simp] theorem beginInstr_dtbPte0 (s : State) : (beginInstr s).dtbPte0 = s.dtbPte0 := rfl
@[simp] theorem beginInstr_dtbPte1 (s : State) : (beginInstr s).dtbPte1 = s.dtbPte1 := rfl
@[simp] theorem beginInstr_dtb0 (s : State) : (beginInstr s).dtb0 = s.dtb0 := rfl
@[simp] theorem beginInstr_dtb1 (s : State) : (beginInstr s).dtb1 = s.dtb1 := rfl
@[simp] theorem beginInstr_dtbPtr (s : State) : (beginInstr s).dtbPtr = s.dtbPtr := rfl
@[simp] theorem beginInstr_dtbAltMode (s : State) : (beginInstr s).dtbAltMode = s.dtbAltMode := rfl
@[simp] theorem beginInstr_dtbAsn0 (s : State) : (beginInstr s).dtbAsn0 = s.dtbAsn0 := rfl
@[simp] theorem beginInstr_dtbAsn1 (s : State) : (beginInstr s).dtbAsn1 = s.dtbAsn1 := rfl
@[simp] theorem beginInstr_mmStat (s : State) : (beginInstr s).mmStat = s.mmStat := rfl
@[simp] theorem beginInstr_mCtl (s : State) : (beginInstr s).mCtl = s.mCtl := rfl
@[simp] theorem beginInstr_dcCtl (s : State) : (beginInstr s).dcCtl = s.dcCtl := rfl
@[simp] theorem beginInstr_dcStat (s : State) : (beginInstr s).dcStat = s.dcStat := rfl
@[simp] theorem beginInstr_cData (s : State) : (beginInstr s).cData = s.cData := rfl
@[simp] theorem beginInstr_writeMany (s : State) : (beginInstr s).writeMany = s.writeMany := rfl
@[simp] theorem beginInstr_writeOnce (s : State) : (beginInstr s).writeOnce = s.writeOnce := rfl
@[simp] theorem beginInstr_errorReg (s : State) : (beginInstr s).errorReg = s.errorReg := rfl
@[simp] theorem beginInstr_icache (s : State) : (beginInstr s).icache = s.icache := rfl
@[simp] theorem beginInstr_cached (s : State) : (beginInstr s).cached = s.cached := rfl
@[simp] theorem beginInstr_irqPins (s : State) : (beginInstr s).irqPins = s.irqPins := rfl
@[simp] theorem beginInstr_slRcv (s : State) : (beginInstr s).slRcv = s.slRcv := rfl
@[simp] theorem beginInstr_stcGrant (s : State) : (beginInstr s).stcGrant = s.stcGrant := rfl
@[simp] theorem beginInstr_ackHeld (s : State) : (beginInstr s).ackHeld = s.ackHeld := rfl
@[simp] theorem beginInstr_memMap (s : State) : (beginInstr s).memMap = s.memMap := rfl
@[simp] theorem beginInstr_srom (s : State) : (beginInstr s).srom = s.srom := rfl
@[simp] theorem beginInstr_free (s : State) : (beginInstr s).free = s.free := rfl
@[simp] theorem beginInstr_env (s : State) : (beginInstr s).env = s.env := rfl
@[simp] theorem beginInstr_ioTrace (s : State) : (beginInstr s).ioTrace = s.ioTrace := rfl
@[simp] theorem beginInstr_viaJump (s : State) : (beginInstr s).viaJump = false := rfl
@[simp] theorem beginInstr_trap (s : State) : (beginInstr s).trap = none := rfl
@[simp] theorem beginInstr_tagErr (s : State) : (beginInstr s).tagErr = s.tagErr := rfl
@[simp] theorem beginInstr_waiting (s : State) : (beginInstr s).waiting = false := rfl
@[simp] theorem beginInstr_lockWatch (s : State) : (beginInstr s).lockWatch = ageLock s := rfl
@[simp] theorem beginInstr_prefetches (s : State) : (beginInstr s).prefetches = agePrefetches s := rfl
@[simp] theorem beginInstr_blocks (s : State) : (beginInstr s).blocks = enterBlock (fetchBlockAt s) s.blocks := rfl

/-! ### fresh -/

@[simp] theorem fresh_intRegs (s : State) : (fresh s).2.intRegs = s.intRegs := rfl
@[simp] theorem fresh_shadow (s : State) : (fresh s).2.shadow = s.shadow := rfl
@[simp] theorem fresh_fpRegs (s : State) : (fresh s).2.fpRegs = s.fpRegs := rfl
@[simp] theorem fresh_pc (s : State) : (fresh s).2.pc = s.pc := rfl
@[simp] theorem fresh_palMode (s : State) : (fresh s).2.palMode = s.palMode := rfl
@[simp] theorem fresh_fpcr (s : State) : (fresh s).2.fpcr = s.fpcr := rfl
@[simp] theorem fresh_lockFlag (s : State) : (fresh s).2.lockFlag = s.lockFlag := rfl
@[simp] theorem fresh_lockBlock (s : State) : (fresh s).2.lockBlock = s.lockBlock := rfl
@[simp] theorem fresh_intrFlag (s : State) : (fresh s).2.intrFlag = s.intrFlag := rfl
@[simp] theorem fresh_mem (s : State) : (fresh s).2.mem = s.mem := rfl
@[simp] theorem fresh_cc (s : State) : (fresh s).2.cc = s.cc := rfl
@[simp] theorem fresh_ccEna (s : State) : (fresh s).2.ccEna = s.ccEna := rfl
@[simp] theorem fresh_va (s : State) : (fresh s).2.va = s.va := rfl
@[simp] theorem fresh_vaCtl (s : State) : (fresh s).2.vaCtl = s.vaCtl := rfl
@[simp] theorem fresh_itbTag (s : State) : (fresh s).2.itbTag = s.itbTag := rfl
@[simp] theorem fresh_itbPte (s : State) : (fresh s).2.itbPte = s.itbPte := rfl
@[simp] theorem fresh_itb (s : State) : (fresh s).2.itb = s.itb := rfl
@[simp] theorem fresh_itbPtr (s : State) : (fresh s).2.itbPtr = s.itbPtr := rfl
@[simp] theorem fresh_itbInit (s : State) : (fresh s).2.itbInit = s.itbInit := rfl
@[simp] theorem fresh_pmpc (s : State) : (fresh s).2.pmpc = s.pmpc := rfl
@[simp] theorem fresh_excAddr (s : State) : (fresh s).2.excAddr = s.excAddr := rfl
@[simp] theorem fresh_excSum (s : State) : (fresh s).2.excSum = s.excSum := rfl
@[simp] theorem fresh_ierCm (s : State) : (fresh s).2.ierCm = s.ierCm := rfl
@[simp] theorem fresh_sirr (s : State) : (fresh s).2.sirr = s.sirr := rfl
@[simp] theorem fresh_slReq (s : State) : (fresh s).2.slReq = s.slReq := rfl
@[simp] theorem fresh_crReq (s : State) : (fresh s).2.crReq = s.crReq := rfl
@[simp] theorem fresh_pc0Req (s : State) : (fresh s).2.pc0Req = s.pc0Req := rfl
@[simp] theorem fresh_pc1Req (s : State) : (fresh s).2.pc1Req = s.pc1Req := rfl
@[simp] theorem fresh_mchkDReq (s : State) : (fresh s).2.mchkDReq = s.mchkDReq := rfl
@[simp] theorem fresh_mchkIReq (s : State) : (fresh s).2.mchkIReq = s.mchkIReq := rfl
@[simp] theorem fresh_fbtp (s : State) : (fresh s).2.fbtp = s.fbtp := rfl
@[simp] theorem fresh_palBase (s : State) : (fresh s).2.palBase = s.palBase := rfl
@[simp] theorem fresh_iCtl (s : State) : (fresh s).2.iCtl = s.iCtl := rfl
@[simp] theorem fresh_bistFail (s : State) : (fresh s).2.bistFail = s.bistFail := rfl
@[simp] theorem fresh_iStat (s : State) : (fresh s).2.iStat = s.iStat := rfl
@[simp] theorem fresh_icFlush (s : State) : (fresh s).2.icFlush = s.icFlush := rfl
@[simp] theorem fresh_icFlushAsm (s : State) : (fresh s).2.icFlushAsm = s.icFlushAsm := rfl
@[simp] theorem fresh_sleepArmed (s : State) : (fresh s).2.sleepArmed = s.sleepArmed := rfl
@[simp] theorem fresh_asleep (s : State) : (fresh s).2.asleep = s.asleep := rfl
@[simp] theorem fresh_pctx (s : State) : (fresh s).2.pctx = s.pctx := rfl
@[simp] theorem fresh_pctr (s : State) : (fresh s).2.pctr = s.pctr := rfl
@[simp] theorem fresh_pmStopped (s : State) : (fresh s).2.pmStopped = s.pmStopped := rfl
@[simp] theorem fresh_dtbTag0 (s : State) : (fresh s).2.dtbTag0 = s.dtbTag0 := rfl
@[simp] theorem fresh_dtbTag1 (s : State) : (fresh s).2.dtbTag1 = s.dtbTag1 := rfl
@[simp] theorem fresh_dtbPte0 (s : State) : (fresh s).2.dtbPte0 = s.dtbPte0 := rfl
@[simp] theorem fresh_dtbPte1 (s : State) : (fresh s).2.dtbPte1 = s.dtbPte1 := rfl
@[simp] theorem fresh_dtb0 (s : State) : (fresh s).2.dtb0 = s.dtb0 := rfl
@[simp] theorem fresh_dtb1 (s : State) : (fresh s).2.dtb1 = s.dtb1 := rfl
@[simp] theorem fresh_dtbPtr (s : State) : (fresh s).2.dtbPtr = s.dtbPtr := rfl
@[simp] theorem fresh_dtbAltMode (s : State) : (fresh s).2.dtbAltMode = s.dtbAltMode := rfl
@[simp] theorem fresh_dtbAsn0 (s : State) : (fresh s).2.dtbAsn0 = s.dtbAsn0 := rfl
@[simp] theorem fresh_dtbAsn1 (s : State) : (fresh s).2.dtbAsn1 = s.dtbAsn1 := rfl
@[simp] theorem fresh_mmStat (s : State) : (fresh s).2.mmStat = s.mmStat := rfl
@[simp] theorem fresh_mCtl (s : State) : (fresh s).2.mCtl = s.mCtl := rfl
@[simp] theorem fresh_dcCtl (s : State) : (fresh s).2.dcCtl = s.dcCtl := rfl
@[simp] theorem fresh_dcStat (s : State) : (fresh s).2.dcStat = s.dcStat := rfl
@[simp] theorem fresh_cData (s : State) : (fresh s).2.cData = s.cData := rfl
@[simp] theorem fresh_writeMany (s : State) : (fresh s).2.writeMany = s.writeMany := rfl
@[simp] theorem fresh_writeOnce (s : State) : (fresh s).2.writeOnce = s.writeOnce := rfl
@[simp] theorem fresh_errorReg (s : State) : (fresh s).2.errorReg = s.errorReg := rfl
@[simp] theorem fresh_icache (s : State) : (fresh s).2.icache = s.icache := rfl
@[simp] theorem fresh_cached (s : State) : (fresh s).2.cached = s.cached := rfl
@[simp] theorem fresh_irqPins (s : State) : (fresh s).2.irqPins = s.irqPins := rfl
@[simp] theorem fresh_slRcv (s : State) : (fresh s).2.slRcv = s.slRcv := rfl
@[simp] theorem fresh_stcGrant (s : State) : (fresh s).2.stcGrant = s.stcGrant := rfl
@[simp] theorem fresh_ackHeld (s : State) : (fresh s).2.ackHeld = s.ackHeld := rfl
@[simp] theorem fresh_memMap (s : State) : (fresh s).2.memMap = s.memMap := rfl
@[simp] theorem fresh_srom (s : State) : (fresh s).2.srom = s.srom := rfl
@[simp] theorem fresh_free (s : State) : (fresh s).2.free = s.free + 1 := rfl
@[simp] theorem fresh_env (s : State) : (fresh s).2.env = s.env := rfl
@[simp] theorem fresh_ioTrace (s : State) : (fresh s).2.ioTrace = s.ioTrace := rfl
@[simp] theorem fresh_viaJump (s : State) : (fresh s).2.viaJump = s.viaJump := rfl
@[simp] theorem fresh_trap (s : State) : (fresh s).2.trap = s.trap := rfl
@[simp] theorem fresh_tagErr (s : State) : (fresh s).2.tagErr = s.tagErr := rfl
@[simp] theorem fresh_waiting (s : State) : (fresh s).2.waiting = s.waiting := rfl
@[simp] theorem fresh_lockWatch (s : State) : (fresh s).2.lockWatch = s.lockWatch := rfl
@[simp] theorem fresh_prefetches (s : State) : (fresh s).2.prefetches = s.prefetches := rfl
@[simp] theorem fresh_blocks (s : State) : (fresh s).2.blocks = s.blocks := rfl

/-! ### writeInt -/

@[simp] theorem writeInt_fpRegs (s : State) (r : Reg) (v : Word) : (writeInt s r v).fpRegs = s.fpRegs := by rw [writeInt_eq]
@[simp] theorem writeInt_pc (s : State) (r : Reg) (v : Word) : (writeInt s r v).pc = s.pc := by rw [writeInt_eq]
@[simp] theorem writeInt_palMode (s : State) (r : Reg) (v : Word) : (writeInt s r v).palMode = s.palMode := by rw [writeInt_eq]
@[simp] theorem writeInt_fpcr (s : State) (r : Reg) (v : Word) : (writeInt s r v).fpcr = s.fpcr := by rw [writeInt_eq]
@[simp] theorem writeInt_lockFlag (s : State) (r : Reg) (v : Word) : (writeInt s r v).lockFlag = s.lockFlag := by rw [writeInt_eq]
@[simp] theorem writeInt_lockBlock (s : State) (r : Reg) (v : Word) : (writeInt s r v).lockBlock = s.lockBlock := by rw [writeInt_eq]
@[simp] theorem writeInt_intrFlag (s : State) (r : Reg) (v : Word) : (writeInt s r v).intrFlag = s.intrFlag := by rw [writeInt_eq]
@[simp] theorem writeInt_mem (s : State) (r : Reg) (v : Word) : (writeInt s r v).mem = s.mem := by rw [writeInt_eq]
@[simp] theorem writeInt_cc (s : State) (r : Reg) (v : Word) : (writeInt s r v).cc = s.cc := by rw [writeInt_eq]
@[simp] theorem writeInt_ccEna (s : State) (r : Reg) (v : Word) : (writeInt s r v).ccEna = s.ccEna := by rw [writeInt_eq]
@[simp] theorem writeInt_va (s : State) (r : Reg) (v : Word) : (writeInt s r v).va = s.va := by rw [writeInt_eq]
@[simp] theorem writeInt_vaCtl (s : State) (r : Reg) (v : Word) : (writeInt s r v).vaCtl = s.vaCtl := by rw [writeInt_eq]
@[simp] theorem writeInt_itbTag (s : State) (r : Reg) (v : Word) : (writeInt s r v).itbTag = s.itbTag := by rw [writeInt_eq]
@[simp] theorem writeInt_itbPte (s : State) (r : Reg) (v : Word) : (writeInt s r v).itbPte = s.itbPte := by rw [writeInt_eq]
@[simp] theorem writeInt_itb (s : State) (r : Reg) (v : Word) : (writeInt s r v).itb = s.itb := by rw [writeInt_eq]
@[simp] theorem writeInt_itbPtr (s : State) (r : Reg) (v : Word) : (writeInt s r v).itbPtr = s.itbPtr := by rw [writeInt_eq]
@[simp] theorem writeInt_itbInit (s : State) (r : Reg) (v : Word) : (writeInt s r v).itbInit = s.itbInit := by rw [writeInt_eq]
@[simp] theorem writeInt_pmpc (s : State) (r : Reg) (v : Word) : (writeInt s r v).pmpc = s.pmpc := by rw [writeInt_eq]
@[simp] theorem writeInt_excAddr (s : State) (r : Reg) (v : Word) : (writeInt s r v).excAddr = s.excAddr := by rw [writeInt_eq]
@[simp] theorem writeInt_excSum (s : State) (r : Reg) (v : Word) : (writeInt s r v).excSum = s.excSum := by rw [writeInt_eq]
@[simp] theorem writeInt_ierCm (s : State) (r : Reg) (v : Word) : (writeInt s r v).ierCm = s.ierCm := by rw [writeInt_eq]
@[simp] theorem writeInt_sirr (s : State) (r : Reg) (v : Word) : (writeInt s r v).sirr = s.sirr := by rw [writeInt_eq]
@[simp] theorem writeInt_slReq (s : State) (r : Reg) (v : Word) : (writeInt s r v).slReq = s.slReq := by rw [writeInt_eq]
@[simp] theorem writeInt_crReq (s : State) (r : Reg) (v : Word) : (writeInt s r v).crReq = s.crReq := by rw [writeInt_eq]
@[simp] theorem writeInt_pc0Req (s : State) (r : Reg) (v : Word) : (writeInt s r v).pc0Req = s.pc0Req := by rw [writeInt_eq]
@[simp] theorem writeInt_pc1Req (s : State) (r : Reg) (v : Word) : (writeInt s r v).pc1Req = s.pc1Req := by rw [writeInt_eq]
@[simp] theorem writeInt_mchkDReq (s : State) (r : Reg) (v : Word) : (writeInt s r v).mchkDReq = s.mchkDReq := by rw [writeInt_eq]
@[simp] theorem writeInt_mchkIReq (s : State) (r : Reg) (v : Word) : (writeInt s r v).mchkIReq = s.mchkIReq := by rw [writeInt_eq]
@[simp] theorem writeInt_fbtp (s : State) (r : Reg) (v : Word) : (writeInt s r v).fbtp = s.fbtp := by rw [writeInt_eq]
@[simp] theorem writeInt_palBase (s : State) (r : Reg) (v : Word) : (writeInt s r v).palBase = s.palBase := by rw [writeInt_eq]
@[simp] theorem writeInt_iCtl (s : State) (r : Reg) (v : Word) : (writeInt s r v).iCtl = s.iCtl := by rw [writeInt_eq]
@[simp] theorem writeInt_bistFail (s : State) (r : Reg) (v : Word) : (writeInt s r v).bistFail = s.bistFail := by rw [writeInt_eq]
@[simp] theorem writeInt_iStat (s : State) (r : Reg) (v : Word) : (writeInt s r v).iStat = s.iStat := by rw [writeInt_eq]
@[simp] theorem writeInt_icFlush (s : State) (r : Reg) (v : Word) : (writeInt s r v).icFlush = s.icFlush := by rw [writeInt_eq]
@[simp] theorem writeInt_icFlushAsm (s : State) (r : Reg) (v : Word) : (writeInt s r v).icFlushAsm = s.icFlushAsm := by rw [writeInt_eq]
@[simp] theorem writeInt_sleepArmed (s : State) (r : Reg) (v : Word) : (writeInt s r v).sleepArmed = s.sleepArmed := by rw [writeInt_eq]
@[simp] theorem writeInt_asleep (s : State) (r : Reg) (v : Word) : (writeInt s r v).asleep = s.asleep := by rw [writeInt_eq]
@[simp] theorem writeInt_pctx (s : State) (r : Reg) (v : Word) : (writeInt s r v).pctx = s.pctx := by rw [writeInt_eq]
@[simp] theorem writeInt_pctr (s : State) (r : Reg) (v : Word) : (writeInt s r v).pctr = s.pctr := by rw [writeInt_eq]
@[simp] theorem writeInt_pmStopped (s : State) (r : Reg) (v : Word) : (writeInt s r v).pmStopped = s.pmStopped := by rw [writeInt_eq]
@[simp] theorem writeInt_dtbTag0 (s : State) (r : Reg) (v : Word) : (writeInt s r v).dtbTag0 = s.dtbTag0 := by rw [writeInt_eq]
@[simp] theorem writeInt_dtbTag1 (s : State) (r : Reg) (v : Word) : (writeInt s r v).dtbTag1 = s.dtbTag1 := by rw [writeInt_eq]
@[simp] theorem writeInt_dtbPte0 (s : State) (r : Reg) (v : Word) : (writeInt s r v).dtbPte0 = s.dtbPte0 := by rw [writeInt_eq]
@[simp] theorem writeInt_dtbPte1 (s : State) (r : Reg) (v : Word) : (writeInt s r v).dtbPte1 = s.dtbPte1 := by rw [writeInt_eq]
@[simp] theorem writeInt_dtb0 (s : State) (r : Reg) (v : Word) : (writeInt s r v).dtb0 = s.dtb0 := by rw [writeInt_eq]
@[simp] theorem writeInt_dtb1 (s : State) (r : Reg) (v : Word) : (writeInt s r v).dtb1 = s.dtb1 := by rw [writeInt_eq]
@[simp] theorem writeInt_dtbPtr (s : State) (r : Reg) (v : Word) : (writeInt s r v).dtbPtr = s.dtbPtr := by rw [writeInt_eq]
@[simp] theorem writeInt_dtbAltMode (s : State) (r : Reg) (v : Word) : (writeInt s r v).dtbAltMode = s.dtbAltMode := by rw [writeInt_eq]
@[simp] theorem writeInt_dtbAsn0 (s : State) (r : Reg) (v : Word) : (writeInt s r v).dtbAsn0 = s.dtbAsn0 := by rw [writeInt_eq]
@[simp] theorem writeInt_dtbAsn1 (s : State) (r : Reg) (v : Word) : (writeInt s r v).dtbAsn1 = s.dtbAsn1 := by rw [writeInt_eq]
@[simp] theorem writeInt_mmStat (s : State) (r : Reg) (v : Word) : (writeInt s r v).mmStat = s.mmStat := by rw [writeInt_eq]
@[simp] theorem writeInt_mCtl (s : State) (r : Reg) (v : Word) : (writeInt s r v).mCtl = s.mCtl := by rw [writeInt_eq]
@[simp] theorem writeInt_dcCtl (s : State) (r : Reg) (v : Word) : (writeInt s r v).dcCtl = s.dcCtl := by rw [writeInt_eq]
@[simp] theorem writeInt_dcStat (s : State) (r : Reg) (v : Word) : (writeInt s r v).dcStat = s.dcStat := by rw [writeInt_eq]
@[simp] theorem writeInt_cData (s : State) (r : Reg) (v : Word) : (writeInt s r v).cData = s.cData := by rw [writeInt_eq]
@[simp] theorem writeInt_writeMany (s : State) (r : Reg) (v : Word) : (writeInt s r v).writeMany = s.writeMany := by rw [writeInt_eq]
@[simp] theorem writeInt_writeOnce (s : State) (r : Reg) (v : Word) : (writeInt s r v).writeOnce = s.writeOnce := by rw [writeInt_eq]
@[simp] theorem writeInt_errorReg (s : State) (r : Reg) (v : Word) : (writeInt s r v).errorReg = s.errorReg := by rw [writeInt_eq]
@[simp] theorem writeInt_icache (s : State) (r : Reg) (v : Word) : (writeInt s r v).icache = s.icache := by rw [writeInt_eq]
@[simp] theorem writeInt_cached (s : State) (r : Reg) (v : Word) : (writeInt s r v).cached = s.cached := by rw [writeInt_eq]
@[simp] theorem writeInt_irqPins (s : State) (r : Reg) (v : Word) : (writeInt s r v).irqPins = s.irqPins := by rw [writeInt_eq]
@[simp] theorem writeInt_slRcv (s : State) (r : Reg) (v : Word) : (writeInt s r v).slRcv = s.slRcv := by rw [writeInt_eq]
@[simp] theorem writeInt_stcGrant (s : State) (r : Reg) (v : Word) : (writeInt s r v).stcGrant = s.stcGrant := by rw [writeInt_eq]
@[simp] theorem writeInt_ackHeld (s : State) (r : Reg) (v : Word) : (writeInt s r v).ackHeld = s.ackHeld := by rw [writeInt_eq]
@[simp] theorem writeInt_memMap (s : State) (r : Reg) (v : Word) : (writeInt s r v).memMap = s.memMap := by rw [writeInt_eq]
@[simp] theorem writeInt_srom (s : State) (r : Reg) (v : Word) : (writeInt s r v).srom = s.srom := by rw [writeInt_eq]
@[simp] theorem writeInt_free (s : State) (r : Reg) (v : Word) : (writeInt s r v).free = s.free := by rw [writeInt_eq]
@[simp] theorem writeInt_env (s : State) (r : Reg) (v : Word) : (writeInt s r v).env = s.env := by rw [writeInt_eq]
@[simp] theorem writeInt_ioTrace (s : State) (r : Reg) (v : Word) : (writeInt s r v).ioTrace = s.ioTrace := by rw [writeInt_eq]
@[simp] theorem writeInt_viaJump (s : State) (r : Reg) (v : Word) : (writeInt s r v).viaJump = s.viaJump := by rw [writeInt_eq]
@[simp] theorem writeInt_trap (s : State) (r : Reg) (v : Word) : (writeInt s r v).trap = s.trap := by rw [writeInt_eq]
@[simp] theorem writeInt_tagErr (s : State) (r : Reg) (v : Word) : (writeInt s r v).tagErr = s.tagErr := by rw [writeInt_eq]
@[simp] theorem writeInt_waiting (s : State) (r : Reg) (v : Word) : (writeInt s r v).waiting = s.waiting := by rw [writeInt_eq]
@[simp] theorem writeInt_lockWatch (s : State) (r : Reg) (v : Word) : (writeInt s r v).lockWatch = s.lockWatch := by rw [writeInt_eq]
@[simp] theorem writeInt_prefetches (s : State) (r : Reg) (v : Word) : (writeInt s r v).prefetches = s.prefetches := by rw [writeInt_eq]
@[simp] theorem writeInt_blocks (s : State) (r : Reg) (v : Word) : (writeInt s r v).blocks = s.blocks := by rw [writeInt_eq]

/-! ### writeFp -/

@[simp] theorem writeFp_intRegs (s : State) (r : Reg) (v : Word) : (writeFp s r v).intRegs = s.intRegs := by rw [writeFp_eq]
@[simp] theorem writeFp_shadow (s : State) (r : Reg) (v : Word) : (writeFp s r v).shadow = s.shadow := by rw [writeFp_eq]
@[simp] theorem writeFp_pc (s : State) (r : Reg) (v : Word) : (writeFp s r v).pc = s.pc := by rw [writeFp_eq]
@[simp] theorem writeFp_palMode (s : State) (r : Reg) (v : Word) : (writeFp s r v).palMode = s.palMode := by rw [writeFp_eq]
@[simp] theorem writeFp_fpcr (s : State) (r : Reg) (v : Word) : (writeFp s r v).fpcr = s.fpcr := by rw [writeFp_eq]
@[simp] theorem writeFp_lockFlag (s : State) (r : Reg) (v : Word) : (writeFp s r v).lockFlag = s.lockFlag := by rw [writeFp_eq]
@[simp] theorem writeFp_lockBlock (s : State) (r : Reg) (v : Word) : (writeFp s r v).lockBlock = s.lockBlock := by rw [writeFp_eq]
@[simp] theorem writeFp_intrFlag (s : State) (r : Reg) (v : Word) : (writeFp s r v).intrFlag = s.intrFlag := by rw [writeFp_eq]
@[simp] theorem writeFp_mem (s : State) (r : Reg) (v : Word) : (writeFp s r v).mem = s.mem := by rw [writeFp_eq]
@[simp] theorem writeFp_cc (s : State) (r : Reg) (v : Word) : (writeFp s r v).cc = s.cc := by rw [writeFp_eq]
@[simp] theorem writeFp_ccEna (s : State) (r : Reg) (v : Word) : (writeFp s r v).ccEna = s.ccEna := by rw [writeFp_eq]
@[simp] theorem writeFp_va (s : State) (r : Reg) (v : Word) : (writeFp s r v).va = s.va := by rw [writeFp_eq]
@[simp] theorem writeFp_vaCtl (s : State) (r : Reg) (v : Word) : (writeFp s r v).vaCtl = s.vaCtl := by rw [writeFp_eq]
@[simp] theorem writeFp_itbTag (s : State) (r : Reg) (v : Word) : (writeFp s r v).itbTag = s.itbTag := by rw [writeFp_eq]
@[simp] theorem writeFp_itbPte (s : State) (r : Reg) (v : Word) : (writeFp s r v).itbPte = s.itbPte := by rw [writeFp_eq]
@[simp] theorem writeFp_itb (s : State) (r : Reg) (v : Word) : (writeFp s r v).itb = s.itb := by rw [writeFp_eq]
@[simp] theorem writeFp_itbPtr (s : State) (r : Reg) (v : Word) : (writeFp s r v).itbPtr = s.itbPtr := by rw [writeFp_eq]
@[simp] theorem writeFp_itbInit (s : State) (r : Reg) (v : Word) : (writeFp s r v).itbInit = s.itbInit := by rw [writeFp_eq]
@[simp] theorem writeFp_pmpc (s : State) (r : Reg) (v : Word) : (writeFp s r v).pmpc = s.pmpc := by rw [writeFp_eq]
@[simp] theorem writeFp_excAddr (s : State) (r : Reg) (v : Word) : (writeFp s r v).excAddr = s.excAddr := by rw [writeFp_eq]
@[simp] theorem writeFp_excSum (s : State) (r : Reg) (v : Word) : (writeFp s r v).excSum = s.excSum := by rw [writeFp_eq]
@[simp] theorem writeFp_ierCm (s : State) (r : Reg) (v : Word) : (writeFp s r v).ierCm = s.ierCm := by rw [writeFp_eq]
@[simp] theorem writeFp_sirr (s : State) (r : Reg) (v : Word) : (writeFp s r v).sirr = s.sirr := by rw [writeFp_eq]
@[simp] theorem writeFp_slReq (s : State) (r : Reg) (v : Word) : (writeFp s r v).slReq = s.slReq := by rw [writeFp_eq]
@[simp] theorem writeFp_crReq (s : State) (r : Reg) (v : Word) : (writeFp s r v).crReq = s.crReq := by rw [writeFp_eq]
@[simp] theorem writeFp_pc0Req (s : State) (r : Reg) (v : Word) : (writeFp s r v).pc0Req = s.pc0Req := by rw [writeFp_eq]
@[simp] theorem writeFp_pc1Req (s : State) (r : Reg) (v : Word) : (writeFp s r v).pc1Req = s.pc1Req := by rw [writeFp_eq]
@[simp] theorem writeFp_mchkDReq (s : State) (r : Reg) (v : Word) : (writeFp s r v).mchkDReq = s.mchkDReq := by rw [writeFp_eq]
@[simp] theorem writeFp_mchkIReq (s : State) (r : Reg) (v : Word) : (writeFp s r v).mchkIReq = s.mchkIReq := by rw [writeFp_eq]
@[simp] theorem writeFp_fbtp (s : State) (r : Reg) (v : Word) : (writeFp s r v).fbtp = s.fbtp := by rw [writeFp_eq]
@[simp] theorem writeFp_palBase (s : State) (r : Reg) (v : Word) : (writeFp s r v).palBase = s.palBase := by rw [writeFp_eq]
@[simp] theorem writeFp_iCtl (s : State) (r : Reg) (v : Word) : (writeFp s r v).iCtl = s.iCtl := by rw [writeFp_eq]
@[simp] theorem writeFp_bistFail (s : State) (r : Reg) (v : Word) : (writeFp s r v).bistFail = s.bistFail := by rw [writeFp_eq]
@[simp] theorem writeFp_iStat (s : State) (r : Reg) (v : Word) : (writeFp s r v).iStat = s.iStat := by rw [writeFp_eq]
@[simp] theorem writeFp_icFlush (s : State) (r : Reg) (v : Word) : (writeFp s r v).icFlush = s.icFlush := by rw [writeFp_eq]
@[simp] theorem writeFp_icFlushAsm (s : State) (r : Reg) (v : Word) : (writeFp s r v).icFlushAsm = s.icFlushAsm := by rw [writeFp_eq]
@[simp] theorem writeFp_sleepArmed (s : State) (r : Reg) (v : Word) : (writeFp s r v).sleepArmed = s.sleepArmed := by rw [writeFp_eq]
@[simp] theorem writeFp_asleep (s : State) (r : Reg) (v : Word) : (writeFp s r v).asleep = s.asleep := by rw [writeFp_eq]
@[simp] theorem writeFp_pctx (s : State) (r : Reg) (v : Word) : (writeFp s r v).pctx = s.pctx := by rw [writeFp_eq]
@[simp] theorem writeFp_pctr (s : State) (r : Reg) (v : Word) : (writeFp s r v).pctr = s.pctr := by rw [writeFp_eq]
@[simp] theorem writeFp_pmStopped (s : State) (r : Reg) (v : Word) : (writeFp s r v).pmStopped = s.pmStopped := by rw [writeFp_eq]
@[simp] theorem writeFp_dtbTag0 (s : State) (r : Reg) (v : Word) : (writeFp s r v).dtbTag0 = s.dtbTag0 := by rw [writeFp_eq]
@[simp] theorem writeFp_dtbTag1 (s : State) (r : Reg) (v : Word) : (writeFp s r v).dtbTag1 = s.dtbTag1 := by rw [writeFp_eq]
@[simp] theorem writeFp_dtbPte0 (s : State) (r : Reg) (v : Word) : (writeFp s r v).dtbPte0 = s.dtbPte0 := by rw [writeFp_eq]
@[simp] theorem writeFp_dtbPte1 (s : State) (r : Reg) (v : Word) : (writeFp s r v).dtbPte1 = s.dtbPte1 := by rw [writeFp_eq]
@[simp] theorem writeFp_dtb0 (s : State) (r : Reg) (v : Word) : (writeFp s r v).dtb0 = s.dtb0 := by rw [writeFp_eq]
@[simp] theorem writeFp_dtb1 (s : State) (r : Reg) (v : Word) : (writeFp s r v).dtb1 = s.dtb1 := by rw [writeFp_eq]
@[simp] theorem writeFp_dtbPtr (s : State) (r : Reg) (v : Word) : (writeFp s r v).dtbPtr = s.dtbPtr := by rw [writeFp_eq]
@[simp] theorem writeFp_dtbAltMode (s : State) (r : Reg) (v : Word) : (writeFp s r v).dtbAltMode = s.dtbAltMode := by rw [writeFp_eq]
@[simp] theorem writeFp_dtbAsn0 (s : State) (r : Reg) (v : Word) : (writeFp s r v).dtbAsn0 = s.dtbAsn0 := by rw [writeFp_eq]
@[simp] theorem writeFp_dtbAsn1 (s : State) (r : Reg) (v : Word) : (writeFp s r v).dtbAsn1 = s.dtbAsn1 := by rw [writeFp_eq]
@[simp] theorem writeFp_mmStat (s : State) (r : Reg) (v : Word) : (writeFp s r v).mmStat = s.mmStat := by rw [writeFp_eq]
@[simp] theorem writeFp_mCtl (s : State) (r : Reg) (v : Word) : (writeFp s r v).mCtl = s.mCtl := by rw [writeFp_eq]
@[simp] theorem writeFp_dcCtl (s : State) (r : Reg) (v : Word) : (writeFp s r v).dcCtl = s.dcCtl := by rw [writeFp_eq]
@[simp] theorem writeFp_dcStat (s : State) (r : Reg) (v : Word) : (writeFp s r v).dcStat = s.dcStat := by rw [writeFp_eq]
@[simp] theorem writeFp_cData (s : State) (r : Reg) (v : Word) : (writeFp s r v).cData = s.cData := by rw [writeFp_eq]
@[simp] theorem writeFp_writeMany (s : State) (r : Reg) (v : Word) : (writeFp s r v).writeMany = s.writeMany := by rw [writeFp_eq]
@[simp] theorem writeFp_writeOnce (s : State) (r : Reg) (v : Word) : (writeFp s r v).writeOnce = s.writeOnce := by rw [writeFp_eq]
@[simp] theorem writeFp_errorReg (s : State) (r : Reg) (v : Word) : (writeFp s r v).errorReg = s.errorReg := by rw [writeFp_eq]
@[simp] theorem writeFp_icache (s : State) (r : Reg) (v : Word) : (writeFp s r v).icache = s.icache := by rw [writeFp_eq]
@[simp] theorem writeFp_cached (s : State) (r : Reg) (v : Word) : (writeFp s r v).cached = s.cached := by rw [writeFp_eq]
@[simp] theorem writeFp_irqPins (s : State) (r : Reg) (v : Word) : (writeFp s r v).irqPins = s.irqPins := by rw [writeFp_eq]
@[simp] theorem writeFp_slRcv (s : State) (r : Reg) (v : Word) : (writeFp s r v).slRcv = s.slRcv := by rw [writeFp_eq]
@[simp] theorem writeFp_stcGrant (s : State) (r : Reg) (v : Word) : (writeFp s r v).stcGrant = s.stcGrant := by rw [writeFp_eq]
@[simp] theorem writeFp_ackHeld (s : State) (r : Reg) (v : Word) : (writeFp s r v).ackHeld = s.ackHeld := by rw [writeFp_eq]
@[simp] theorem writeFp_memMap (s : State) (r : Reg) (v : Word) : (writeFp s r v).memMap = s.memMap := by rw [writeFp_eq]
@[simp] theorem writeFp_srom (s : State) (r : Reg) (v : Word) : (writeFp s r v).srom = s.srom := by rw [writeFp_eq]
@[simp] theorem writeFp_free (s : State) (r : Reg) (v : Word) : (writeFp s r v).free = s.free := by rw [writeFp_eq]
@[simp] theorem writeFp_env (s : State) (r : Reg) (v : Word) : (writeFp s r v).env = s.env := by rw [writeFp_eq]
@[simp] theorem writeFp_ioTrace (s : State) (r : Reg) (v : Word) : (writeFp s r v).ioTrace = s.ioTrace := by rw [writeFp_eq]
@[simp] theorem writeFp_viaJump (s : State) (r : Reg) (v : Word) : (writeFp s r v).viaJump = s.viaJump := by rw [writeFp_eq]
@[simp] theorem writeFp_trap (s : State) (r : Reg) (v : Word) : (writeFp s r v).trap = s.trap := by rw [writeFp_eq]
@[simp] theorem writeFp_tagErr (s : State) (r : Reg) (v : Word) : (writeFp s r v).tagErr = s.tagErr := by rw [writeFp_eq]
@[simp] theorem writeFp_waiting (s : State) (r : Reg) (v : Word) : (writeFp s r v).waiting = s.waiting := by rw [writeFp_eq]
@[simp] theorem writeFp_lockWatch (s : State) (r : Reg) (v : Word) : (writeFp s r v).lockWatch = s.lockWatch := by rw [writeFp_eq]
@[simp] theorem writeFp_prefetches (s : State) (r : Reg) (v : Word) : (writeFp s r v).prefetches = s.prefetches := by rw [writeFp_eq]
@[simp] theorem writeFp_blocks (s : State) (r : Reg) (v : Word) : (writeFp s r v).blocks = s.blocks := by rw [writeFp_eq]

/-! ### takeException -/

@[simp] theorem takeException_intRegs (s : State) (e : Entry) (a : Word) (n : Option (ExcSum → ExcSum)) : (takeException s e a n).intRegs = s.intRegs := by
  cases n <;> rfl
@[simp] theorem takeException_shadow (s : State) (e : Entry) (a : Word) (n : Option (ExcSum → ExcSum)) : (takeException s e a n).shadow = s.shadow := by
  cases n <;> rfl
@[simp] theorem takeException_fpRegs (s : State) (e : Entry) (a : Word) (n : Option (ExcSum → ExcSum)) : (takeException s e a n).fpRegs = s.fpRegs := by
  cases n <;> rfl
@[simp] theorem takeException_pc (s : State) (e : Entry) (a : Word) (n : Option (ExcSum → ExcSum)) : (takeException s e a n).pc = entryPc s e := by
  cases n <;> rfl
@[simp] theorem takeException_palMode (s : State) (e : Entry) (a : Word) (n : Option (ExcSum → ExcSum)) : (takeException s e a n).palMode = true := by
  cases n <;> rfl
@[simp] theorem takeException_fpcr (s : State) (e : Entry) (a : Word) (n : Option (ExcSum → ExcSum)) : (takeException s e a n).fpcr = s.fpcr := by
  cases n <;> rfl
@[simp] theorem takeException_lockFlag (s : State) (e : Entry) (a : Word) (n : Option (ExcSum → ExcSum)) : (takeException s e a n).lockFlag = s.lockFlag := by
  cases n <;> rfl
@[simp] theorem takeException_lockBlock (s : State) (e : Entry) (a : Word) (n : Option (ExcSum → ExcSum)) : (takeException s e a n).lockBlock = s.lockBlock := by
  cases n <;> rfl
@[simp] theorem takeException_intrFlag (s : State) (e : Entry) (a : Word) (n : Option (ExcSum → ExcSum)) : (takeException s e a n).intrFlag = s.intrFlag := by
  cases n <;> rfl
@[simp] theorem takeException_mem (s : State) (e : Entry) (a : Word) (n : Option (ExcSum → ExcSum)) : (takeException s e a n).mem = s.mem := by
  cases n <;> rfl
@[simp] theorem takeException_cc (s : State) (e : Entry) (a : Word) (n : Option (ExcSum → ExcSum)) : (takeException s e a n).cc = s.cc := by
  cases n <;> rfl
@[simp] theorem takeException_ccEna (s : State) (e : Entry) (a : Word) (n : Option (ExcSum → ExcSum)) : (takeException s e a n).ccEna = s.ccEna := by
  cases n <;> rfl
@[simp] theorem takeException_va (s : State) (e : Entry) (a : Word) (n : Option (ExcSum → ExcSum)) : (takeException s e a n).va = s.va := by
  cases n <;> rfl
@[simp] theorem takeException_vaCtl (s : State) (e : Entry) (a : Word) (n : Option (ExcSum → ExcSum)) : (takeException s e a n).vaCtl = s.vaCtl := by
  cases n <;> rfl
@[simp] theorem takeException_itbTag (s : State) (e : Entry) (a : Word) (n : Option (ExcSum → ExcSum)) : (takeException s e a n).itbTag = s.itbTag := by
  cases n <;> rfl
@[simp] theorem takeException_itbPte (s : State) (e : Entry) (a : Word) (n : Option (ExcSum → ExcSum)) : (takeException s e a n).itbPte = s.itbPte := by
  cases n <;> rfl
@[simp] theorem takeException_itb (s : State) (e : Entry) (a : Word) (n : Option (ExcSum → ExcSum)) : (takeException s e a n).itb = s.itb := by
  cases n <;> rfl
@[simp] theorem takeException_itbPtr (s : State) (e : Entry) (a : Word) (n : Option (ExcSum → ExcSum)) : (takeException s e a n).itbPtr = s.itbPtr := by
  cases n <;> rfl
@[simp] theorem takeException_itbInit (s : State) (e : Entry) (a : Word) (n : Option (ExcSum → ExcSum)) : (takeException s e a n).itbInit = s.itbInit := by
  cases n <;> rfl
@[simp] theorem takeException_pmpc (s : State) (e : Entry) (a : Word) (n : Option (ExcSum → ExcSum)) : (takeException s e a n).pmpc = s.pmpc := by
  cases n <;> rfl
@[simp] theorem takeException_excAddr (s : State) (e : Entry) (a : Word) (n : Option (ExcSum → ExcSum)) : (takeException s e a n).excAddr = a := by
  cases n <;> rfl
@[simp] theorem takeException_ierCm (s : State) (e : Entry) (a : Word) (n : Option (ExcSum → ExcSum)) : (takeException s e a n).ierCm = s.ierCm := by
  cases n <;> rfl
@[simp] theorem takeException_sirr (s : State) (e : Entry) (a : Word) (n : Option (ExcSum → ExcSum)) : (takeException s e a n).sirr = s.sirr := by
  cases n <;> rfl
@[simp] theorem takeException_slReq (s : State) (e : Entry) (a : Word) (n : Option (ExcSum → ExcSum)) : (takeException s e a n).slReq = s.slReq := by
  cases n <;> rfl
@[simp] theorem takeException_crReq (s : State) (e : Entry) (a : Word) (n : Option (ExcSum → ExcSum)) : (takeException s e a n).crReq = s.crReq := by
  cases n <;> rfl
@[simp] theorem takeException_pc0Req (s : State) (e : Entry) (a : Word) (n : Option (ExcSum → ExcSum)) : (takeException s e a n).pc0Req = s.pc0Req := by
  cases n <;> rfl
@[simp] theorem takeException_pc1Req (s : State) (e : Entry) (a : Word) (n : Option (ExcSum → ExcSum)) : (takeException s e a n).pc1Req = s.pc1Req := by
  cases n <;> rfl
@[simp] theorem takeException_mchkDReq (s : State) (e : Entry) (a : Word) (n : Option (ExcSum → ExcSum)) : (takeException s e a n).mchkDReq = s.mchkDReq := by
  cases n <;> rfl
@[simp] theorem takeException_mchkIReq (s : State) (e : Entry) (a : Word) (n : Option (ExcSum → ExcSum)) : (takeException s e a n).mchkIReq = s.mchkIReq := by
  cases n <;> rfl
@[simp] theorem takeException_fbtp (s : State) (e : Entry) (a : Word) (n : Option (ExcSum → ExcSum)) : (takeException s e a n).fbtp = s.fbtp := by
  cases n <;> rfl
@[simp] theorem takeException_palBase (s : State) (e : Entry) (a : Word) (n : Option (ExcSum → ExcSum)) : (takeException s e a n).palBase = s.palBase := by
  cases n <;> rfl
@[simp] theorem takeException_iCtl (s : State) (e : Entry) (a : Word) (n : Option (ExcSum → ExcSum)) : (takeException s e a n).iCtl = s.iCtl := by
  cases n <;> rfl
@[simp] theorem takeException_bistFail (s : State) (e : Entry) (a : Word) (n : Option (ExcSum → ExcSum)) : (takeException s e a n).bistFail = s.bistFail := by
  cases n <;> rfl
@[simp] theorem takeException_iStat (s : State) (e : Entry) (a : Word) (n : Option (ExcSum → ExcSum)) : (takeException s e a n).iStat = s.iStat := by
  cases n <;> rfl
@[simp] theorem takeException_icFlush (s : State) (e : Entry) (a : Word) (n : Option (ExcSum → ExcSum)) : (takeException s e a n).icFlush = s.icFlush := by
  cases n <;> rfl
@[simp] theorem takeException_icFlushAsm (s : State) (e : Entry) (a : Word) (n : Option (ExcSum → ExcSum)) : (takeException s e a n).icFlushAsm = s.icFlushAsm := by
  cases n <;> rfl
@[simp] theorem takeException_sleepArmed (s : State) (e : Entry) (a : Word) (n : Option (ExcSum → ExcSum)) : (takeException s e a n).sleepArmed = s.sleepArmed := by
  cases n <;> rfl
@[simp] theorem takeException_asleep (s : State) (e : Entry) (a : Word) (n : Option (ExcSum → ExcSum)) : (takeException s e a n).asleep = s.asleep := by
  cases n <;> rfl
@[simp] theorem takeException_pctx (s : State) (e : Entry) (a : Word) (n : Option (ExcSum → ExcSum)) : (takeException s e a n).pctx = s.pctx := by
  cases n <;> rfl
@[simp] theorem takeException_pctr (s : State) (e : Entry) (a : Word) (n : Option (ExcSum → ExcSum)) : (takeException s e a n).pctr = s.pctr := by
  cases n <;> rfl
@[simp] theorem takeException_pmStopped (s : State) (e : Entry) (a : Word) (n : Option (ExcSum → ExcSum)) : (takeException s e a n).pmStopped = s.pmStopped := by
  cases n <;> rfl
@[simp] theorem takeException_dtbTag0 (s : State) (e : Entry) (a : Word) (n : Option (ExcSum → ExcSum)) : (takeException s e a n).dtbTag0 = s.dtbTag0 := by
  cases n <;> rfl
@[simp] theorem takeException_dtbTag1 (s : State) (e : Entry) (a : Word) (n : Option (ExcSum → ExcSum)) : (takeException s e a n).dtbTag1 = s.dtbTag1 := by
  cases n <;> rfl
@[simp] theorem takeException_dtbPte0 (s : State) (e : Entry) (a : Word) (n : Option (ExcSum → ExcSum)) : (takeException s e a n).dtbPte0 = s.dtbPte0 := by
  cases n <;> rfl
@[simp] theorem takeException_dtbPte1 (s : State) (e : Entry) (a : Word) (n : Option (ExcSum → ExcSum)) : (takeException s e a n).dtbPte1 = s.dtbPte1 := by
  cases n <;> rfl
@[simp] theorem takeException_dtb0 (s : State) (e : Entry) (a : Word) (n : Option (ExcSum → ExcSum)) : (takeException s e a n).dtb0 = s.dtb0 := by
  cases n <;> rfl
@[simp] theorem takeException_dtb1 (s : State) (e : Entry) (a : Word) (n : Option (ExcSum → ExcSum)) : (takeException s e a n).dtb1 = s.dtb1 := by
  cases n <;> rfl
@[simp] theorem takeException_dtbPtr (s : State) (e : Entry) (a : Word) (n : Option (ExcSum → ExcSum)) : (takeException s e a n).dtbPtr = s.dtbPtr := by
  cases n <;> rfl
@[simp] theorem takeException_dtbAltMode (s : State) (e : Entry) (a : Word) (n : Option (ExcSum → ExcSum)) : (takeException s e a n).dtbAltMode = s.dtbAltMode := by
  cases n <;> rfl
@[simp] theorem takeException_dtbAsn0 (s : State) (e : Entry) (a : Word) (n : Option (ExcSum → ExcSum)) : (takeException s e a n).dtbAsn0 = s.dtbAsn0 := by
  cases n <;> rfl
@[simp] theorem takeException_dtbAsn1 (s : State) (e : Entry) (a : Word) (n : Option (ExcSum → ExcSum)) : (takeException s e a n).dtbAsn1 = s.dtbAsn1 := by
  cases n <;> rfl
@[simp] theorem takeException_mmStat (s : State) (e : Entry) (a : Word) (n : Option (ExcSum → ExcSum)) : (takeException s e a n).mmStat = s.mmStat := by
  cases n <;> rfl
@[simp] theorem takeException_mCtl (s : State) (e : Entry) (a : Word) (n : Option (ExcSum → ExcSum)) : (takeException s e a n).mCtl = s.mCtl := by
  cases n <;> rfl
@[simp] theorem takeException_dcCtl (s : State) (e : Entry) (a : Word) (n : Option (ExcSum → ExcSum)) : (takeException s e a n).dcCtl = s.dcCtl := by
  cases n <;> rfl
@[simp] theorem takeException_dcStat (s : State) (e : Entry) (a : Word) (n : Option (ExcSum → ExcSum)) : (takeException s e a n).dcStat = s.dcStat := by
  cases n <;> rfl
@[simp] theorem takeException_cData (s : State) (e : Entry) (a : Word) (n : Option (ExcSum → ExcSum)) : (takeException s e a n).cData = s.cData := by
  cases n <;> rfl
@[simp] theorem takeException_writeMany (s : State) (e : Entry) (a : Word) (n : Option (ExcSum → ExcSum)) : (takeException s e a n).writeMany = s.writeMany := by
  cases n <;> rfl
@[simp] theorem takeException_writeOnce (s : State) (e : Entry) (a : Word) (n : Option (ExcSum → ExcSum)) : (takeException s e a n).writeOnce = s.writeOnce := by
  cases n <;> rfl
@[simp] theorem takeException_errorReg (s : State) (e : Entry) (a : Word) (n : Option (ExcSum → ExcSum)) : (takeException s e a n).errorReg = s.errorReg := by
  cases n <;> rfl
@[simp] theorem takeException_icache (s : State) (e : Entry) (a : Word) (n : Option (ExcSum → ExcSum)) : (takeException s e a n).icache = s.icache := by
  cases n <;> rfl
@[simp] theorem takeException_cached (s : State) (e : Entry) (a : Word) (n : Option (ExcSum → ExcSum)) : (takeException s e a n).cached = s.cached := by
  cases n <;> rfl
@[simp] theorem takeException_irqPins (s : State) (e : Entry) (a : Word) (n : Option (ExcSum → ExcSum)) : (takeException s e a n).irqPins = s.irqPins := by
  cases n <;> rfl
@[simp] theorem takeException_slRcv (s : State) (e : Entry) (a : Word) (n : Option (ExcSum → ExcSum)) : (takeException s e a n).slRcv = s.slRcv := by
  cases n <;> rfl
@[simp] theorem takeException_stcGrant (s : State) (e : Entry) (a : Word) (n : Option (ExcSum → ExcSum)) : (takeException s e a n).stcGrant = s.stcGrant := by
  cases n <;> rfl
@[simp] theorem takeException_ackHeld (s : State) (e : Entry) (a : Word) (n : Option (ExcSum → ExcSum)) : (takeException s e a n).ackHeld = s.ackHeld := by
  cases n <;> rfl
@[simp] theorem takeException_memMap (s : State) (e : Entry) (a : Word) (n : Option (ExcSum → ExcSum)) : (takeException s e a n).memMap = s.memMap := by
  cases n <;> rfl
@[simp] theorem takeException_srom (s : State) (e : Entry) (a : Word) (n : Option (ExcSum → ExcSum)) : (takeException s e a n).srom = s.srom := by
  cases n <;> rfl
@[simp] theorem takeException_env (s : State) (e : Entry) (a : Word) (n : Option (ExcSum → ExcSum)) : (takeException s e a n).env = s.env := by
  cases n <;> rfl
@[simp] theorem takeException_ioTrace (s : State) (e : Entry) (a : Word) (n : Option (ExcSum → ExcSum)) : (takeException s e a n).ioTrace = s.ioTrace := by
  cases n <;> rfl
@[simp] theorem takeException_viaJump (s : State) (e : Entry) (a : Word) (n : Option (ExcSum → ExcSum)) : (takeException s e a n).viaJump = false := by
  cases n <;> rfl
@[simp] theorem takeException_trap (s : State) (e : Entry) (a : Word) (n : Option (ExcSum → ExcSum)) : (takeException s e a n).trap = some e := by
  cases n <;> rfl
@[simp] theorem takeException_tagErr (s : State) (e : Entry) (a : Word) (n : Option (ExcSum → ExcSum)) : (takeException s e a n).tagErr = s.tagErr := by
  cases n <;> rfl
@[simp] theorem takeException_waiting (s : State) (e : Entry) (a : Word) (n : Option (ExcSum → ExcSum)) : (takeException s e a n).waiting = false := by
  cases n <;> rfl
@[simp] theorem takeException_lockWatch (s : State) (e : Entry) (a : Word) (n : Option (ExcSum → ExcSum)) : (takeException s e a n).lockWatch = s.lockWatch := by
  cases n <;> rfl
@[simp] theorem takeException_prefetches (s : State) (e : Entry) (a : Word) (n : Option (ExcSum → ExcSum)) : (takeException s e a n).prefetches = s.prefetches := by
  cases n <;> rfl
@[simp] theorem takeException_blocks (s : State) (e : Entry) (a : Word) (n : Option (ExcSum → ExcSum)) : (takeException s e a n).blocks = [] := by
  cases n <;> rfl

/-! ### Power-up -/

/-- `State.reset` is the power-up without an image. -/
theorem powerUp_reset : State.powerUp none [] = State.reset := rfl

end Sys2Proof.Machine
end

