-- ==== Sys2Proof/Laws/Registers.lean ====
section
/-! SUPPORT. The register files: what a write of a register changes, said once in the words of the claims. -/

namespace Sys2Proof.Machine

/-! ### Register numbers -/

theorem toNat_of_ne_31 {r : Reg} (h : r ≠ 31) : r.toNat < 31 := by
  have := r.isLt
  have : r.toNat ≠ 31 := fun e => h (BitVec.eq_of_toNat_eq (by simpa using e))
  omega

@[simp] theorem shadowSlot_31 : shadowSlot 31#5 = none := rfl

theorem shadowSlot_injective {r q : Reg} {i : Fin 8} (hr : shadowSlot r = some i) (hq : shadowSlot q = some i) : r = q := by
  revert r q i; decide

@[simp] theorem activeSlot_31 (s : State) : activeSlot s 31#5 = none := by simp [activeSlot]

theorem activeSlot_congr {s t : State} (hp : t.palMode = s.palMode) (hi : t.iCtl = s.iCtl) (r : Reg) :
    activeSlot t r = activeSlot s r := by simp [activeSlot, shadowActive, hp, hi]

@[simp] theorem activeSlot_advance (s : State) (r : Reg) : activeSlot (advance s) r = activeSlot s r := rfl

@[simp] theorem activeSlot_writeInt (s : State) (q : Reg) (v : Word) (r : Reg) :
    activeSlot (writeInt s q v) r = activeSlot s r := by
  rw [writeInt_eq]; rfl

theorem activeSlot_injective {s : State} {r q : Reg} {i : Fin 8} (hr : activeSlot s r = some i) (hq : activeSlot s q = some i) :
    r = q := by
  unfold activeSlot at hr hq
  split at hr
  · rw [if_pos (by assumption)] at hq; exact shadowSlot_injective hr hq
  · cases hr

/-! ### Integer registers -/

@[simp] theorem readInt_31 (s : State) : readInt s 31#5 = 0#64 := by simp [readInt]

@[simp] theorem writeInt_31 (s : State) (v : Word) : writeInt s 31#5 v = s := by simp [writeInt]

@[simp] theorem readInt_advance (s : State) (r : Reg) : readInt (advance s) r = readInt s r := rfl

theorem readInt_congr {s t : State} (hp : t.palMode = s.palMode) (hi : t.iCtl = s.iCtl) (hr : t.intRegs = s.intRegs)
    (hs : t.shadow = s.shadow) (r : Reg) : readInt t r = readInt s r := by
  simp [readInt, activeSlot_congr hp hi, hr, hs]

/-- A register that is written reads as written, R31 as zero; the others read as before. -/
theorem readInt_writeInt (s : State) (r q : Reg) (v : Word) :
    readInt (writeInt s r v) q = if q = r then (if r = 31#5 then 0#64 else v) else readInt s q := by
  by_cases h31 : r = 31#5
  · subst h31
    rw [writeInt_31]
    by_cases hq : q = 31#5
    · subst hq; simp
    · rw [if_neg hq]
  · have hr := toNat_of_ne_31 h31
    unfold readInt
    rw [activeSlot_writeInt]
    unfold writeInt
    cases har : activeSlot s r with
    | some i =>
      by_cases hq : q = r
      · subst hq; simp [har, h31]
      · cases haq : activeSlot s q with
        | some j =>
          have hij : i ≠ j := fun e => hq (activeSlot_injective (e ▸ haq) har)
          have : (i : Nat) ≠ (j : Nat) := fun e => hij (Fin.ext e)
          simp [hq, this]
        | none => simp [hq]
    | none =>
      simp only [hr, dif_pos]
      by_cases hq : q = r
      · subst hq; simp [har, h31, hr]
      · cases haq : activeSlot s q with
        | some j => simp [hq]
        | none =>
          have hne : r.toNat ≠ q.toNat := fun e => hq (BitVec.eq_of_toNat_eq e.symm)
          by_cases h : q.toNat < 31
          · simp [hq, h, Vector.getElem_set_ne (h := hne)]
          · simp [hq, h]

/-- The frame of an instruction whose one destination is R[r], said once. -/
theorem wroteInt_advance (s : State) (r : Reg) (v : Word) : WroteInt s r v (advance (writeInt s r v)) where
  value := by simp [readInt_writeInt]
  others q hq := by simp [readInt_writeInt, hq]
  shadow i hi := by
    show (writeInt s r v).shadow[i] = s.shadow[i]
    unfold writeInt
    cases har : activeSlot s r with
    | some j =>
      have : (j : Nat) ≠ (i : Nat) := fun e => hi (by rw [har, Fin.ext e])
      simp [this]
    | none => by_cases h : r.toNat < 31 <;> simp [h]
  regs i hi := by
    show (writeInt s r v).intRegs[i] = s.intRegs[i]
    unfold writeInt
    cases har : activeSlot s r with
    | some j => rfl
    | none =>
      by_cases h : r.toNat < 31
      · have : r.toNat ≠ (i : Nat) := fun e => by rcases hi with hi | hi; exacts [hi har, hi e.symm]
        simp [h, this]
      · simp [h]
  pc := by rw [writeInt_eq]; rfl
  frame := by rw [writeInt_eq]; rfl

/-- The same, with the state written out: a state that agrees with a register write and an advance. -/
theorem WroteInt.of_eq {s t : State} {r : Reg} {v : Word} (h : t = advance (writeInt s r v)) : WroteInt s r v t :=
  h ▸ wroteInt_advance s r v

/-! ### Floating registers -/

@[simp] theorem readFp_31 (s : State) : readFp s 31#5 = 0#64 := by simp [readFp]

@[simp] theorem writeFp_31 (s : State) (v : Word) : writeFp s 31#5 v = s := by simp [writeFp]

@[simp] theorem readFp_advance (s : State) (r : Reg) : readFp (advance s) r = readFp s r := rfl

theorem readFp_writeFp (s : State) (r q : Reg) (v : Word) :
    readFp (writeFp s r v) q = if q = r then (if r = 31#5 then 0#64 else v) else readFp s q := by
  by_cases h31 : r = 31#5
  · subst h31
    rw [writeFp_31]
    by_cases hq : q = 31#5
    · subst hq; simp
    · rw [if_neg hq]
  · have hr := toNat_of_ne_31 h31
    unfold readFp writeFp
    simp only [hr, dif_pos]
    by_cases hq : q = r
    · subst hq; simp [h31, hr]
    · have hne : r.toNat ≠ q.toNat := fun e => hq (BitVec.eq_of_toNat_eq e.symm)
      by_cases h : q.toNat < 31
      · simp [hq, h, Vector.getElem_set_ne (h := hne)]
      · simp [hq, h]

/-- The frame of an instruction whose one destination is F[r], said once. -/
theorem wroteFp_advance (s : State) (r : Reg) (v : Word) : WroteFp s r v (advance (writeFp s r v)) where
  value := by simp [readFp_writeFp]
  others q hq := by simp [readFp_writeFp, hq]
  pc := by rw [writeFp_eq]; rfl
  frame := by rw [writeFp_eq]; rfl

theorem WroteFp.of_eq {s t : State} {r : Reg} {v : Word} (h : t = advance (writeFp s r v)) : WroteFp s r v t :=
  h ▸ wroteFp_advance s r v

end Sys2Proof.Machine
end

