-- ==== Sys2Proof/Laws/Ops.lean ====
section
/-! SUPPORT. One lemma for each shared operation, that says all it can do: taking an exception, Dstream references, physical reads and
writes, and the end of a floating operate. -/

namespace Sys2Proof.Machine

/-! ### Taking an exception -/

/-- An offset below the alignment of PAL_BASE can be added or merged. -/
theorem palBase_or (x y : Word) (h : 0x00000FFFFFFF8000#64 &&& y = 0#64) :
    (x &&& 0x00000FFFFFFF8000#64) ||| y = (x &&& 0x00000FFFFFFF8000#64) + y := by
  rw [← BitVec.add_eq_or_of_and_eq_zero]
  rw [BitVec.and_assoc, h, BitVec.and_zero]

theorem entryPc_eq (s : State) (e : Entry) : entryPc s e = (s.palBase &&& 0x00000FFFFFFF8000) + entryOffset e := by
  unfold entryPc
  exact palBase_or _ _ (by cases e <;> decide)

/-- An exception changes what `Entered` lists, and nothing else. -/
theorem entered_takeException (s : State) (e : Entry) (saved offset : Word) (f : Option (ExcSum → ExcSum))
    (h : entryOffset e = offset) : Entered s e offset saved (takeException s e saved f) := by
  subst h
  cases f <;> exact ⟨rfl, rfl, entryPc_eq s e, rfl, rfl⟩

theorem takeException_none_excSum (s : State) (e : Entry) (saved : Word) :
    (takeException s e saved none).excSum = s.excSum := rfl

theorem takeException_some_excSum (s : State) (e : Entry) (saved : Word) (f : ExcSum → ExcSum) :
    (takeException s e saved (some f)).excSum = f (excSumOf (Config.freeQuad s.free)) := rfl

theorem entered_opcdecTrap (s : State) : Entered s .opcdec 0x400 (faultPc s) (opcdecTrap s) :=
  entered_takeException s _ _ _ _ rfl

/-- OPCDEC, and FEN, and the arithmetic trap, as outcomes. -/
theorem completes_next {P : State → Prop} {t : State} (h : P t) : Completes (.next t) P := ⟨t, rfl, h⟩

theorem requireFp_on {s : State} (h : fpEnabled s = true) (f : ExcSum → ExcSum) (k : Out) : requireFp s f k = k := by
  simp [requireFp, h]

/-- The floating unit is disabled: FEN, whatever the instruction would do. -/
theorem requireFp_off {s : State} (h : fpEnabled s = false) (r : Reg) (k : Out) :
    Completes (requireFp s (withReg r) k) fun t => Entered s .fen 0x200 (faultPc s) t ∧ t.excSum.reg = r := by
  simp only [requireFp, h]
  exact ⟨_, rfl, entered_takeException s _ _ _ _ rfl, rfl⟩

theorem requireFp_off' {s : State} (h : fpEnabled s = false) (f : ExcSum → ExcSum) (k : Out) :
    Completes (requireFp s f k) (Entered s .fen 0x200 (faultPc s)) := by
  simp only [requireFp, h]
  exact ⟨_, rfl, entered_takeException s _ _ _ _ rfl⟩

/-! ### Floating operates -/

/-- Writing a result changes F[fc], and the free-value counter where the result is UNPREDICTABLE. -/
theorem writeFpResult_wrote (s : State) (fc : Reg) (r : Option Word) :
    ∃ v, (∀ x, r = some x → v = x) ∧
      WroteFp { s with free := (advance (writeFpResult s fc r)).free } fc v (advance (writeFpResult s fc r)) := by
  cases r with
  | some v =>
    refine ⟨v, by simp, ?_⟩
    have e : (advance (writeFp s fc v)).free = s.free := by rw [writeFp_eq]; rfl
    simp only [writeFpResult, e]
    exact wroteFp_advance s fc v
  | none =>
    refine ⟨Config.freeQuad s.free, by simp, ?_⟩
    have e : (advance (writeFp (fresh s).2 fc (fresh s).1)).free = s.free + 1 := by rw [writeFp_eq]; rfl
    simp only [writeFpResult, e]
    exact wroteFp_advance { s with free := s.free + 1 } fc _

/-- The end of a floating operate does what `FpOutcome` lists. -/
theorem fpOutcome_fpOperate (s : State) (q : TrapQual) (fc : Reg) (r : FpResult) : FpOutcome s q fc r (fpOperate s q fc r) where
  disabled h := requireFp_off h fc _
  discarded h h31 := by
    rw [fpOperate, requireFp_on h, if_pos h31]; exact completes_next rfl
  plain h h31 ht := by
    rw [fpOperate, requireFp_on h, if_neg h31, finishFp, ht]
    exact ⟨_, rfl, writeFpResult_wrote s fc r.value⟩
  trapped h h31 ht := by
    rw [fpOperate, requireFp_on h, if_neg h31, finishFp, ht]
    refine ⟨_, rfl, (match r.value with | some v => v | none => Config.freeQuad s.free), ?_, ?_, rfl⟩
    · intro x hx; rw [hx]
    · have e : ∀ (u : State) (sum : ExcSum), u.pc = s.pc → u.palMode = s.palMode →
          Entered u .arith 0x600 (trapPc s) (arithTrap u sum) := by
        intro u sum h1 h2
        have : trapPc u = trapPc s := by simp [trapPc, h1, h2]
        rw [← this]; exact entered_takeException u _ _ _ _ rfl
      cases hv : r.value with
      | some v => exact e _ _ (by rw [writeFp_eq]) (by rw [writeFp_eq])
      | none =>
        have := e (writeFp (fresh s).2 fc (fresh s).1) (fpTrapSum s q fc r.conds) (by rw [writeFp_eq]; rfl)
          (by rw [writeFp_eq]; rfl)
        refine ⟨this.excAddr, this.palMode, ?_, this.entry, ?_⟩
        · have hp : (writeFp s fc (Config.freeQuad s.free)).palBase = (writeFp (fresh s).2 fc (fresh s).1).palBase := by
            rw [writeFp_eq (fresh s).2, writeFp_eq s]; rfl
          simp only [hp]
          exact this.pc
        · by_cases hr : fc.toNat < 31 <;>
            simp only [if_true, writeFp, hr, dif_pos, dif_neg, not_false_iff, writeFpResult, fresh, arithTrap, takeException]

/-! ### Dstream references -/

theorem reference_ok {s : State} {r : DataRef} {pa : PhysAddr} (h : Reaches s r pa) (k : PhysAddr → Out) :
    reference s r k = k pa := by
  simp [reference, h.1, h.2]

theorem alignedReference_ok {s : State} {r : DataRef} {pa : PhysAddr} {n : Nat} (ha : r.ea.toNat % n = 0) (h : Reaches s r pa)
    (k : PhysAddr → Out) : alignedReference s r n k = k pa := by
  simp [alignedReference, isAligned, ha, reference_ok h]

/-- MM_STAT of a reference that saw no parity error. -/
theorem mmStatOf_eq (r : DataRef) (acv fr fw : Bool) :
    mmStatOf r false acv fr fw = mmWord (shownOpcode r.opcode).toNat fw fr acv r.write := by
  generalize hx : shownOpcode r.opcode = x
  unfold mmStatOf mmWord
  rw [hx]
  clear hx
  revert x
  cases acv <;> cases fr <;> cases fw <;> cases r.write <;> decide

/-- A Dstream fault of a reference other than a virtual PTE fetch. -/
theorem faulted_dataFault (s : State) (r : DataRef) (e : Entry) (offset : Word) (acv fr fw : Bool) (h : entryOffset e = offset)
    (hv : r.vpte = false) :
    Faulted s r e offset (mmWord (shownOpcode r.opcode).toNat fw fr acv r.write)
      (dataFault s r e (mmStatOf r false acv fr fw)) := by
  rw [mmStatOf_eq]
  refine ⟨?_, rfl⟩
  simp only [dataFault, hv]
  exact entered_takeException _ e _ _ _ h

theorem reference_miss {s : State} {r : DataRef} (h : translateData s r = .error .miss) (hv : r.vpte = false)
    (k : PhysAddr → Out) :
    Completes (reference s r k) (Faulted s r .dtbmSingle 0x300 (mmWord (shownOpcode r.opcode).toNat false false false r.write)) := by
  simp only [reference, h]
  have : missEntry s r = .dtbmSingle := by simp [missEntry, hv]
  rw [this]
  exact ⟨_, rfl, faulted_dataFault s r _ _ _ _ _ rfl hv⟩

theorem reference_violation {s : State} {r : DataRef} {acv fr fw : Bool} (h : translateData s r = .error (.violation acv fr fw))
    (hv : r.vpte = false) (k : PhysAddr → Out) :
    Completes (reference s r k) (Faulted s r .dfault 0x380 (mmWord (shownOpcode r.opcode).toNat fw fr acv r.write)) := by
  simp only [reference, h]
  exact ⟨_, rfl, faulted_dataFault s r _ _ _ _ _ rfl hv⟩

theorem alignedReference_unaligned {s : State} {r : DataRef} {n : Nat} (h : r.ea.toNat % n ≠ 0) (hv : r.vpte = false)
    (k : PhysAddr → Out) :
    Completes (alignedReference s r n k)
      (Faulted s r .unalign 0x280 (mmWord (shownOpcode r.opcode).toNat false false false r.write)) := by
  simp only [alignedReference, isAligned, beq_iff_eq, h, if_false]
  exact ⟨_, rfl, faulted_dataFault s r _ _ _ _ _ rfl hv⟩

theorem alignedReference_aligned {s : State} {r : DataRef} {n : Nat} (h : r.ea.toNat % n = 0) (k : PhysAddr → Out) :
    alignedReference s r n k = reference s r k := by
  simp [alignedReference, isAligned, h]

/-! ### Physical reads and writes -/

theorem byteOf_onesLow {n i : Nat} (hn : n ≤ 8) (hi : i < 8) : byteOf (onesLow (8 * n)) i = if i < n then 0xFF else 0 := by
  interval_cases n <;> interval_cases i <;> decide

theorem byteOf_and (x y : Word) (i : Nat) : byteOf (x &&& y) i = byteOf x i &&& byteOf y i := by
  apply BitVec.eq_of_getLsbD_eq; intro j hj; simp [byteOf, hj]

theorem byteOf_read (m : Memory) (a n : Nat) (hn : n ≤ 8) (i : Nat) (hi : i < 8) :
    byteOf (m.read a n) i = if i < n then m.readByte (a + i) else 0 := by
  induction n generalizing a i with
  | zero => simp [Memory.read, byteOf]
  | succ n ih =>
    have key : ∀ j, j < 8 → (byteOf (m.read a (n + 1)) i).getLsbD j =
        if i = 0 then (m.readByte a).getLsbD j else (byteOf (m.read (a + 1) n) (i - 1)).getLsbD j := by
      intro j hj
      simp only [Memory.read, byteOf, BitVec.getLsbD_extractLsb', BitVec.getLsbD_or, BitVec.getLsbD_shiftLeft,
        BitVec.getLsbD_setWidth, hj, decide_true, Bool.true_and]
      by_cases h0 : i = 0
      · subst h0; simp [hj, show j < 64 by omega]
      · have h1 : ¬(8 * i + j < 8) := by omega
        have h2 : 8 * i + j < 64 := by omega
        have h3 : 8 * i + j - 8 = 8 * (i - 1) + j := by omega
        have h4 : (m.readByte a).getLsbD (8 * i + j) = false := BitVec.getLsbD_of_ge _ _ (by omega)
        simp [h0, h1, h2, h3, h4]
    apply BitVec.eq_of_getLsbD_eq
    intro j hj
    rw [key j hj]
    by_cases h0 : i = 0
    · subst h0; simp
    · rw [if_neg h0, ih (a + 1) (by omega) (i - 1) (by omega)]
      by_cases h : i < n + 1
      · rw [if_pos h, if_pos (by omega), show a + 1 + (i - 1) = a + i by omega]
      · rw [if_neg h, if_neg (by omega)]

/-- A read of physical memory or I/O space does what `Gets` lists. -/
theorem gets_physRead (s : State) (pa : PhysAddr) {n : Nat} (hn : n ≤ 8) :
    Gets s pa n (physRead s pa n).1 (physRead s pa n).2 := by
  unfold physRead
  split
  · rename_i hio
    split
    · rename_i ha
      refine ⟨fun i h1 h2 => ?_, fun _ i h => ?_, fun h => absurd hio (by simp [h]), by simp [hio]⟩
      · simp only [byteOf_onesLow hn h2, show ¬i < n by omega, if_false]
      · simp only [byteOf_onesLow hn (show i < 8 by omega), h, if_true]
    · rename_i ha
      refine ⟨fun i h1 h2 => ?_, fun h => absurd h ha, fun h => absurd hio (by simp [h]), by simp [hio, fresh]⟩
      rw [byteOf_and, byteOf_onesLow hn h2, if_neg (by omega)]; simp
  · rename_i hio
    split
    · rename_i ha
      refine ⟨fun i h1 h2 => ?_, fun _ i h => ?_, fun _ h => absurd ha (by simp [h]), by simp [hio]⟩
      · simp only [byteOf_onesLow hn h2, show ¬i < n by omega, if_false]
      · simp only [byteOf_onesLow hn (show i < 8 by omega), h, if_true]
    · rename_i ha
      refine ⟨fun i h1 h2 => ?_, fun h => absurd h ha, fun _ _ i h => ?_, by simp [hio]⟩
      · rw [byteOf_read _ _ _ hn i h2, if_neg (by omega)]
      · rw [byteOf_read _ _ _ hn i (by omega), if_pos h]

theorem and_onesLow (v : Word) (n : Nat) : v &&& onesLow n = BitVec.ofNat 64 (v.toNat % 2 ^ n) := by
  apply BitVec.eq_of_toNat_eq
  unfold onesLow
  by_cases h : n ≤ 64
  · have h1 : 2 ^ n - 1 < 2 ^ 64 := by
      have : 2 ^ n ≤ 2 ^ 64 := Nat.pow_le_pow_right (by omega) h
      have : 0 < 2 ^ n := by positivity
      omega
    have h2 : v.toNat % 2 ^ n < 2 ^ 64 := lt_of_le_of_lt (Nat.mod_le _ _) v.isLt
    rw [BitVec.toNat_and, BitVec.toNat_ofNat, BitVec.toNat_ofNat, Nat.mod_eq_of_lt h1, Nat.mod_eq_of_lt h2, Nat.and_two_pow_sub_one_eq_mod]
  · have h3 : 2 ^ 64 ∣ 2 ^ n := pow_dvd_pow 2 (by omega)
    have h4 : (2 ^ n - 1) % 2 ^ 64 = 2 ^ 64 - 1 := by
      obtain ⟨k, hk⟩ := h3
      have : 0 < 2 ^ n := by positivity
      have hk0 : 0 < k := Nat.pos_of_ne_zero (by rintro rfl; omega)
      rw [hk, show 2 ^ 64 * k - 1 = (2 ^ 64 - 1) + 2 ^ 64 * (k - 1) by
        obtain ⟨j, rfl⟩ : ∃ j, k = j + 1 := ⟨k - 1, by omega⟩
        simp only [Nat.mul_add, Nat.add_sub_cancel]; omega]
      rw [Nat.add_mul_mod_self_left]
      rfl
    have h5 : v.toNat % 2 ^ n = v.toNat := Nat.mod_eq_of_lt (lt_of_lt_of_le v.isLt (Nat.pow_le_pow_right (by omega) (by omega)))
    rw [BitVec.toNat_and, BitVec.toNat_ofNat, BitVec.toNat_ofNat, h4, h5, Nat.and_two_pow_sub_one_eq_mod]

theorem readByte_write_byteOf {m : Memory} (h : m.wf = true) (a n : Nat) (_hn : n ≤ 8) (v : Word) (b : Nat) :
    (m.write a n v).readByte b = if a ≤ b ∧ b < a + n then byteOf v (b - a) else m.readByte b := by
  rw [Memory.readByte_write h]
  split
  · apply BitVec.eq_of_getLsbD_eq
    intro j hj
    simp only [byteOf, BitVec.getLsbD_setWidth, BitVec.getLsbD_ushiftRight, BitVec.getLsbD_extractLsb', hj, decide_true,
      Bool.true_and]
  · rfl

/-- A write of physical memory or I/O space does what `Puts` lists. -/
theorem puts_physWrite {s : State} (hw : s.mem.wf = true) (pa : PhysAddr) {n : Nat} (hn : n ≤ 8) (v : Word) :
    Puts s pa n v (physWrite s pa n v) := by
  unfold physWrite
  split
  · rename_i hio
    exact ⟨fun h => absurd hio (by simp [h]), fun _ _ => rfl, by simp [hio, and_onesLow], fun _ => rfl, by simp [hio], rfl⟩
  · rename_i hio
    split
    · rename_i ha
      exact ⟨fun _ h => absurd ha (by simp [h]), fun _ _ => rfl, by simp [hio], fun _ => rfl, by simp [ha], rfl⟩
    · rename_i ha
      split
      · rename_i hin
        refine ⟨fun _ _ h => absurd hin (by simp [h]), fun b hb => ?_, by simp [hio], fun h => absurd hin (by simp [h]),
          by simp [hio, ha, blockOf], rfl⟩
        show (s.mem.write pa.toNat n _).readByte b = _
        rw [readByte_write_byteOf hw _ _ hn, if_neg (by rcases hb with h | h | h | h <;> [omega; omega; simp_all; simp_all])]
      · refine ⟨fun _ _ _ i hi => ?_, fun b hb => ?_, by simp [hio], fun _ => rfl, by simp [hio, ha, blockOf], rfl⟩
        · show (s.mem.write pa.toNat n v).readByte _ = _
          rw [readByte_write_byteOf hw _ _ hn, if_pos (by omega), show pa.toNat + i - pa.toNat = i by omega]
        · show (s.mem.write pa.toNat n v).readByte b = _
          rw [readByte_write_byteOf hw _ _ hn, if_neg (by rcases hb with h | h | h | h <;> [omega; omega; simp_all; simp_all])]

/-! ### The lock and the registers are apart -/

theorem writeInt_clearLock (s : State) (r : Reg) (v : Word) : writeInt (clearLock s) r v = clearLock (writeInt s r v) := by
  have h : activeSlot (clearLock s) r = activeSlot s r := rfl
  unfold writeInt
  rw [h]
  split
  · rfl
  · split <;> rfl

theorem writeInt_setLock (s : State) (r : Reg) (v : Word) (pa : PhysAddr) :
    writeInt (setLock s pa) r v = setLock (writeInt s r v) pa := by
  have h : activeSlot (setLock s pa) r = activeSlot s r := rfl
  unfold writeInt
  rw [h]
  split
  · rfl
  · split <;> rfl

theorem writeFp_clearLock (s : State) (r : Reg) (v : Word) : writeFp (clearLock s) r v = clearLock (writeFp s r v) := by
  unfold writeFp; split <;> rfl

/-- A load writes its register and clears the lock. -/
theorem wroteInt_clearLock (s : State) (r : Reg) (v : Word) :
    WroteInt { s with lockFlag := false, lockWatch := LockWatch.idle } r v (advance (clearLock (writeInt s r v))) := by
  rw [← writeInt_clearLock]; exact wroteInt_advance _ _ _

/-- A load-locked writes its register and takes the lock, with the note of a recent prefetch of its block. -/
theorem wroteInt_setLock (s : State) (r : Reg) (v : Word) (pa : PhysAddr) :
    WroteInt { s with
      lockFlag := true
      lockBlock := pa.extractLsb' 6 38
      lockWatch := { LockWatch.idle with
        prefetched := s.prefetches.any fun q => q.block == pa.extractLsb' 6 38 && decide (q.age ≤ 80) } } r v
      (advance (setLock (writeInt s r v) pa)) := by
  rw [← writeInt_setLock]; exact wroteInt_advance _ _ _

/-- A floating load writes its register and clears the lock. -/
theorem wroteFp_clearLock (s : State) (r : Reg) (v : Word) :
    WroteFp { s with lockFlag := false, lockWatch := LockWatch.idle } r v (advance (clearLock (writeFp s r v))) := by
  rw [← writeFp_clearLock]; exact wroteFp_advance _ _ _

/-- The memory operand of a load, as `Gets` says it. -/
theorem gets_dataRead (s : State) (pa : PhysAddr) {n : Nat} (hn : n ≤ 8) :
    Gets s (endianAddr s pa n) n (dataRead s pa n).1 (dataRead s pa n).2 := gets_physRead s _ hn

/-- The memory operand of a store, as `Puts` says it. -/
theorem puts_dataWrite {s : State} (hw : s.mem.wf = true) (pa : PhysAddr) {n : Nat} (hn : n ≤ 8) (v : Word) :
    Puts s (endianAddr s pa n) n v (dataWrite s pa n v) := puts_physWrite hw _ hn v

@[simp] theorem endianAddr_eight (s : State) (pa : PhysAddr) : endianAddr s pa 8 = pa := by
  unfold endianAddr; split <;> simp

/-- When a store-conditional succeeds, outside the case of R255 (R252, R232, R248). -/
theorem condSucceeds_iff (s : State) (pa : PhysAddr) (h : prefetchErratum s pa = false) :
    condSucceeds s pa = true ↔ inIoSpace pa = true ∨
      s.lockFlag = true ∧ pa.extractLsb' 6 38 = s.lockBlock ∧ platformGrants s (pa.extractLsb' 6 38) = true ∧ absent s pa = false := by
  simp [condSucceeds, h, blockOf, and_assoc]

theorem drawErratum_off {s : State} {pa : PhysAddr} (h : prefetchErratum s pa = false) : drawErratum s pa = s := by
  simp [drawErratum, h]

/-- No store-conditional waits for an acknowledgement that the platform gives. -/
theorem condHeld_free {s : State} (h : s.ackHeld = false) (pa : PhysAddr) : condHeld s pa = false := by simp [condHeld, h]

/-- A store-conditional either waits, or writes its flag and clears the lock. -/
theorem finishStoreCond_cases (s : State) (ra : Reg) (n : Nat) (pa : PhysAddr) :
    (condHeld s pa = true ∧ finishStoreCond s ra n pa = .next (wait s)) ∨
      (condHeld s pa = false ∧ finishStoreCond s ra n pa = .next (advance (clearLock (condStore s ra n pa)))) := by
  cases h : condHeld s pa
  · exact .inr ⟨rfl, by simp [finishStoreCond, h]⟩
  · exact .inl ⟨rfl, by simp [finishStoreCond, h]⟩

end Sys2Proof.Machine
end

