-- ==== Sys2Proof/Laws/PerInstr.lean ====
section
/-! SUPPORT. The per-instruction family RoundTrip: the decoder reads an instruction back from the word that the encoder writes for
it, with every operand field at every value (spec/30_encoding.md R330 to R346). One lemma for each constructor of Instr. -/

namespace Sys2Proof.Laws.RoundTrip

/-- Decoding the encoded instruction gives the instruction. -/
def Statement (i : Instr) : Prop := decode (encode i) = .ok i

theorem callPal (fn : BitVec 26) : Statement (.callPal fn) := by
  change decode (packRest _ _) = _; delta decode; rw [opcodeOf_packRest]; exact decodeRest_packRest .callPal 0x00 fn

theorem opc01 (rest : BitVec 26) : Statement (.opc01 rest) := by
  change decode (packRest _ _) = _; delta decode; rw [opcodeOf_packRest]; exact decodeRest_packRest .opc01 0x01 rest

theorem opc02 (rest : BitVec 26) : Statement (.opc02 rest) := by
  change decode (packRest _ _) = _; delta decode; rw [opcodeOf_packRest]; exact decodeRest_packRest .opc02 0x02 rest

theorem opc03 (rest : BitVec 26) : Statement (.opc03 rest) := by
  change decode (packRest _ _) = _; delta decode; rw [opcodeOf_packRest]; exact decodeRest_packRest .opc03 0x03 rest

theorem opc04 (rest : BitVec 26) : Statement (.opc04 rest) := by
  change decode (packRest _ _) = _; delta decode; rw [opcodeOf_packRest]; exact decodeRest_packRest .opc04 0x04 rest

theorem opc05 (rest : BitVec 26) : Statement (.opc05 rest) := by
  change decode (packRest _ _) = _; delta decode; rw [opcodeOf_packRest]; exact decodeRest_packRest .opc05 0x05 rest

theorem opc06 (rest : BitVec 26) : Statement (.opc06 rest) := by
  change decode (packRest _ _) = _; delta decode; rw [opcodeOf_packRest]; exact decodeRest_packRest .opc06 0x06 rest

theorem opc07 (rest : BitVec 26) : Statement (.opc07 rest) := by
  change decode (packRest _ _) = _; delta decode; rw [opcodeOf_packRest]; exact decodeRest_packRest .opc07 0x07 rest

theorem lda (ra : Reg) (rb : Reg) (disp : BitVec 16) : Statement (.lda ra rb disp) := by
  change decode (packMem _ _ _ _) = _; delta decode; rw [opcodeOf_packMem]; exact decodeMem_packMem .lda 0x08 ra rb disp

theorem ldah (ra : Reg) (rb : Reg) (disp : BitVec 16) : Statement (.ldah ra rb disp) := by
  change decode (packMem _ _ _ _) = _; delta decode; rw [opcodeOf_packMem]; exact decodeMem_packMem .ldah 0x09 ra rb disp

theorem ldbu (ra : Reg) (rb : Reg) (disp : BitVec 16) : Statement (.ldbu ra rb disp) := by
  change decode (packMem _ _ _ _) = _; delta decode; rw [opcodeOf_packMem]; exact decodeMem_packMem .ldbu 0x0A ra rb disp

theorem ldqU (ra : Reg) (rb : Reg) (disp : BitVec 16) : Statement (.ldqU ra rb disp) := by
  change decode (packMem _ _ _ _) = _; delta decode; rw [opcodeOf_packMem]; exact decodeMem_packMem .ldqU 0x0B ra rb disp

theorem ldwu (ra : Reg) (rb : Reg) (disp : BitVec 16) : Statement (.ldwu ra rb disp) := by
  change decode (packMem _ _ _ _) = _; delta decode; rw [opcodeOf_packMem]; exact decodeMem_packMem .ldwu 0x0C ra rb disp

theorem stw (ra : Reg) (rb : Reg) (disp : BitVec 16) : Statement (.stw ra rb disp) := by
  change decode (packMem _ _ _ _) = _; delta decode; rw [opcodeOf_packMem]; exact decodeMem_packMem .stw 0x0D ra rb disp

theorem stb (ra : Reg) (rb : Reg) (disp : BitVec 16) : Statement (.stb ra rb disp) := by
  change decode (packMem _ _ _ _) = _; delta decode; rw [opcodeOf_packMem]; exact decodeMem_packMem .stb 0x0E ra rb disp

theorem stqU (ra : Reg) (rb : Reg) (disp : BitVec 16) : Statement (.stqU ra rb disp) := by
  change decode (packMem _ _ _ _) = _; delta decode; rw [opcodeOf_packMem]; exact decodeMem_packMem .stqU 0x0F ra rb disp

theorem ldf (fa : Reg) (rb : Reg) (disp : BitVec 16) : Statement (.ldf fa rb disp) := by
  change decode (packMem _ _ _ _) = _; delta decode; rw [opcodeOf_packMem]; exact decodeMem_packMem .ldf 0x20 fa rb disp

theorem ldg (fa : Reg) (rb : Reg) (disp : BitVec 16) : Statement (.ldg fa rb disp) := by
  change decode (packMem _ _ _ _) = _; delta decode; rw [opcodeOf_packMem]; exact decodeMem_packMem .ldg 0x21 fa rb disp

theorem lds (fa : Reg) (rb : Reg) (disp : BitVec 16) : Statement (.lds fa rb disp) := by
  change decode (packMem _ _ _ _) = _; delta decode; rw [opcodeOf_packMem]; exact decodeMem_packMem .lds 0x22 fa rb disp

theorem ldt (fa : Reg) (rb : Reg) (disp : BitVec 16) : Statement (.ldt fa rb disp) := by
  change decode (packMem _ _ _ _) = _; delta decode; rw [opcodeOf_packMem]; exact decodeMem_packMem .ldt 0x23 fa rb disp

theorem stf (fa : Reg) (rb : Reg) (disp : BitVec 16) : Statement (.stf fa rb disp) := by
  change decode (packMem _ _ _ _) = _; delta decode; rw [opcodeOf_packMem]; exact decodeMem_packMem .stf 0x24 fa rb disp

theorem stg (fa : Reg) (rb : Reg) (disp : BitVec 16) : Statement (.stg fa rb disp) := by
  change decode (packMem _ _ _ _) = _; delta decode; rw [opcodeOf_packMem]; exact decodeMem_packMem .stg 0x25 fa rb disp

theorem sts (fa : Reg) (rb : Reg) (disp : BitVec 16) : Statement (.sts fa rb disp) := by
  change decode (packMem _ _ _ _) = _; delta decode; rw [opcodeOf_packMem]; exact decodeMem_packMem .sts 0x26 fa rb disp

theorem stt (fa : Reg) (rb : Reg) (disp : BitVec 16) : Statement (.stt fa rb disp) := by
  change decode (packMem _ _ _ _) = _; delta decode; rw [opcodeOf_packMem]; exact decodeMem_packMem .stt 0x27 fa rb disp

theorem ldl (ra : Reg) (rb : Reg) (disp : BitVec 16) : Statement (.ldl ra rb disp) := by
  change decode (packMem _ _ _ _) = _; delta decode; rw [opcodeOf_packMem]; exact decodeMem_packMem .ldl 0x28 ra rb disp

theorem ldq (ra : Reg) (rb : Reg) (disp : BitVec 16) : Statement (.ldq ra rb disp) := by
  change decode (packMem _ _ _ _) = _; delta decode; rw [opcodeOf_packMem]; exact decodeMem_packMem .ldq 0x29 ra rb disp

theorem ldlL (ra : Reg) (rb : Reg) (disp : BitVec 16) : Statement (.ldlL ra rb disp) := by
  change decode (packMem _ _ _ _) = _; delta decode; rw [opcodeOf_packMem]; exact decodeMem_packMem .ldlL 0x2A ra rb disp

theorem ldqL (ra : Reg) (rb : Reg) (disp : BitVec 16) : Statement (.ldqL ra rb disp) := by
  change decode (packMem _ _ _ _) = _; delta decode; rw [opcodeOf_packMem]; exact decodeMem_packMem .ldqL 0x2B ra rb disp

theorem stl (ra : Reg) (rb : Reg) (disp : BitVec 16) : Statement (.stl ra rb disp) := by
  change decode (packMem _ _ _ _) = _; delta decode; rw [opcodeOf_packMem]; exact decodeMem_packMem .stl 0x2C ra rb disp

theorem stq (ra : Reg) (rb : Reg) (disp : BitVec 16) : Statement (.stq ra rb disp) := by
  change decode (packMem _ _ _ _) = _; delta decode; rw [opcodeOf_packMem]; exact decodeMem_packMem .stq 0x2D ra rb disp

theorem stlC (ra : Reg) (rb : Reg) (disp : BitVec 16) : Statement (.stlC ra rb disp) := by
  change decode (packMem _ _ _ _) = _; delta decode; rw [opcodeOf_packMem]; exact decodeMem_packMem .stlC 0x2E ra rb disp

theorem stqC (ra : Reg) (rb : Reg) (disp : BitVec 16) : Statement (.stqC ra rb disp) := by
  change decode (packMem _ _ _ _) = _; delta decode; rw [opcodeOf_packMem]; exact decodeMem_packMem .stqC 0x2F ra rb disp

theorem br (ra : Reg) (disp : BitVec 21) : Statement (.br ra disp) := by
  change decode (packBra _ _ _) = _; delta decode; rw [opcodeOf_packBra]; exact decodeBra_packBra .br 0x30 ra disp

theorem fbeq (fa : Reg) (disp : BitVec 21) : Statement (.fbeq fa disp) := by
  change decode (packBra _ _ _) = _; delta decode; rw [opcodeOf_packBra]; exact decodeBra_packBra .fbeq 0x31 fa disp

theorem fblt (fa : Reg) (disp : BitVec 21) : Statement (.fblt fa disp) := by
  change decode (packBra _ _ _) = _; delta decode; rw [opcodeOf_packBra]; exact decodeBra_packBra .fblt 0x32 fa disp

theorem fble (fa : Reg) (disp : BitVec 21) : Statement (.fble fa disp) := by
  change decode (packBra _ _ _) = _; delta decode; rw [opcodeOf_packBra]; exact decodeBra_packBra .fble 0x33 fa disp

theorem bsr (ra : Reg) (disp : BitVec 21) : Statement (.bsr ra disp) := by
  change decode (packBra _ _ _) = _; delta decode; rw [opcodeOf_packBra]; exact decodeBra_packBra .bsr 0x34 ra disp

theorem fbne (fa : Reg) (disp : BitVec 21) : Statement (.fbne fa disp) := by
  change decode (packBra _ _ _) = _; delta decode; rw [opcodeOf_packBra]; exact decodeBra_packBra .fbne 0x35 fa disp

theorem fbge (fa : Reg) (disp : BitVec 21) : Statement (.fbge fa disp) := by
  change decode (packBra _ _ _) = _; delta decode; rw [opcodeOf_packBra]; exact decodeBra_packBra .fbge 0x36 fa disp

theorem fbgt (fa : Reg) (disp : BitVec 21) : Statement (.fbgt fa disp) := by
  change decode (packBra _ _ _) = _; delta decode; rw [opcodeOf_packBra]; exact decodeBra_packBra .fbgt 0x37 fa disp

theorem blbc (ra : Reg) (disp : BitVec 21) : Statement (.blbc ra disp) := by
  change decode (packBra _ _ _) = _; delta decode; rw [opcodeOf_packBra]; exact decodeBra_packBra .blbc 0x38 ra disp

theorem beq (ra : Reg) (disp : BitVec 21) : Statement (.beq ra disp) := by
  change decode (packBra _ _ _) = _; delta decode; rw [opcodeOf_packBra]; exact decodeBra_packBra .beq 0x39 ra disp

theorem blt (ra : Reg) (disp : BitVec 21) : Statement (.blt ra disp) := by
  change decode (packBra _ _ _) = _; delta decode; rw [opcodeOf_packBra]; exact decodeBra_packBra .blt 0x3A ra disp

theorem ble (ra : Reg) (disp : BitVec 21) : Statement (.ble ra disp) := by
  change decode (packBra _ _ _) = _; delta decode; rw [opcodeOf_packBra]; exact decodeBra_packBra .ble 0x3B ra disp

theorem blbs (ra : Reg) (disp : BitVec 21) : Statement (.blbs ra disp) := by
  change decode (packBra _ _ _) = _; delta decode; rw [opcodeOf_packBra]; exact decodeBra_packBra .blbs 0x3C ra disp

theorem bne (ra : Reg) (disp : BitVec 21) : Statement (.bne ra disp) := by
  change decode (packBra _ _ _) = _; delta decode; rw [opcodeOf_packBra]; exact decodeBra_packBra .bne 0x3D ra disp

theorem bge (ra : Reg) (disp : BitVec 21) : Statement (.bge ra disp) := by
  change decode (packBra _ _ _) = _; delta decode; rw [opcodeOf_packBra]; exact decodeBra_packBra .bge 0x3E ra disp

theorem bgt (ra : Reg) (disp : BitVec 21) : Statement (.bgt ra disp) := by
  change decode (packBra _ _ _) = _; delta decode; rw [opcodeOf_packBra]; exact decodeBra_packBra .bgt 0x3F ra disp

theorem jmp (ra : Reg) (rb : Reg) (hint : BitVec 14) : Statement (.jmp ra rb hint) := decode_packJump 0 ra rb hint

theorem jsr (ra : Reg) (rb : Reg) (hint : BitVec 14) : Statement (.jsr ra rb hint) := decode_packJump 1 ra rb hint

theorem ret (ra : Reg) (rb : Reg) (hint : BitVec 14) : Statement (.ret ra rb hint) := decode_packJump 2 ra rb hint

theorem jsrCoroutine (ra : Reg) (rb : Reg) (hint : BitVec 14) :
    Statement (.jsrCoroutine ra rb hint) := decode_packJump 3 ra rb hint

theorem addl (ra : Reg) (rb : Operand) (rc : Reg) : Statement (.addl ra rb rc) := decode_inta rfl ra rb rc

theorem s4addl (ra : Reg) (rb : Operand) (rc : Reg) : Statement (.s4addl ra rb rc) := decode_inta rfl ra rb rc

theorem subl (ra : Reg) (rb : Operand) (rc : Reg) : Statement (.subl ra rb rc) := decode_inta rfl ra rb rc

theorem s4subl (ra : Reg) (rb : Operand) (rc : Reg) : Statement (.s4subl ra rb rc) := decode_inta rfl ra rb rc

theorem cmpbge (ra : Reg) (rb : Operand) (rc : Reg) : Statement (.cmpbge ra rb rc) := decode_inta rfl ra rb rc

theorem s8addl (ra : Reg) (rb : Operand) (rc : Reg) : Statement (.s8addl ra rb rc) := decode_inta rfl ra rb rc

theorem s8subl (ra : Reg) (rb : Operand) (rc : Reg) : Statement (.s8subl ra rb rc) := decode_inta rfl ra rb rc

theorem cmpult (ra : Reg) (rb : Operand) (rc : Reg) : Statement (.cmpult ra rb rc) := decode_inta rfl ra rb rc

theorem addq (ra : Reg) (rb : Operand) (rc : Reg) : Statement (.addq ra rb rc) := decode_inta rfl ra rb rc

theorem s4addq (ra : Reg) (rb : Operand) (rc : Reg) : Statement (.s4addq ra rb rc) := decode_inta rfl ra rb rc

theorem subq (ra : Reg) (rb : Operand) (rc : Reg) : Statement (.subq ra rb rc) := decode_inta rfl ra rb rc

theorem s4subq (ra : Reg) (rb : Operand) (rc : Reg) : Statement (.s4subq ra rb rc) := decode_inta rfl ra rb rc

theorem cmpeq (ra : Reg) (rb : Operand) (rc : Reg) : Statement (.cmpeq ra rb rc) := decode_inta rfl ra rb rc

theorem s8addq (ra : Reg) (rb : Operand) (rc : Reg) : Statement (.s8addq ra rb rc) := decode_inta rfl ra rb rc

theorem s8subq (ra : Reg) (rb : Operand) (rc : Reg) : Statement (.s8subq ra rb rc) := decode_inta rfl ra rb rc

theorem cmpule (ra : Reg) (rb : Operand) (rc : Reg) : Statement (.cmpule ra rb rc) := decode_inta rfl ra rb rc

theorem addlV (ra : Reg) (rb : Operand) (rc : Reg) : Statement (.addlV ra rb rc) := decode_inta rfl ra rb rc

theorem sublV (ra : Reg) (rb : Operand) (rc : Reg) : Statement (.sublV ra rb rc) := decode_inta rfl ra rb rc

theorem cmplt (ra : Reg) (rb : Operand) (rc : Reg) : Statement (.cmplt ra rb rc) := decode_inta rfl ra rb rc

theorem addqV (ra : Reg) (rb : Operand) (rc : Reg) : Statement (.addqV ra rb rc) := decode_inta rfl ra rb rc

theorem subqV (ra : Reg) (rb : Operand) (rc : Reg) : Statement (.subqV ra rb rc) := decode_inta rfl ra rb rc

theorem cmple (ra : Reg) (rb : Operand) (rc : Reg) : Statement (.cmple ra rb rc) := decode_inta rfl ra rb rc

theorem and (ra : Reg) (rb : Operand) (rc : Reg) : Statement (.and ra rb rc) := decode_intl rfl ra rb rc

theorem bic (ra : Reg) (rb : Operand) (rc : Reg) : Statement (.bic ra rb rc) := decode_intl rfl ra rb rc

theorem cmovlbs (ra : Reg) (rb : Operand) (rc : Reg) : Statement (.cmovlbs ra rb rc) := decode_intl rfl ra rb rc

theorem cmovlbc (ra : Reg) (rb : Operand) (rc : Reg) : Statement (.cmovlbc ra rb rc) := decode_intl rfl ra rb rc

theorem bis (ra : Reg) (rb : Operand) (rc : Reg) : Statement (.bis ra rb rc) := decode_intl rfl ra rb rc

theorem cmoveq (ra : Reg) (rb : Operand) (rc : Reg) : Statement (.cmoveq ra rb rc) := decode_intl rfl ra rb rc

theorem cmovne (ra : Reg) (rb : Operand) (rc : Reg) : Statement (.cmovne ra rb rc) := decode_intl rfl ra rb rc

theorem ornot (ra : Reg) (rb : Operand) (rc : Reg) : Statement (.ornot ra rb rc) := decode_intl rfl ra rb rc

theorem xor (ra : Reg) (rb : Operand) (rc : Reg) : Statement (.xor ra rb rc) := decode_intl rfl ra rb rc

theorem cmovlt (ra : Reg) (rb : Operand) (rc : Reg) : Statement (.cmovlt ra rb rc) := decode_intl rfl ra rb rc

theorem cmovge (ra : Reg) (rb : Operand) (rc : Reg) : Statement (.cmovge ra rb rc) := decode_intl rfl ra rb rc

theorem eqv (ra : Reg) (rb : Operand) (rc : Reg) : Statement (.eqv ra rb rc) := decode_intl rfl ra rb rc

theorem amask (ra : Reg) (rb : Operand) (rc : Reg) : Statement (.amask ra rb rc) := decode_intl rfl ra rb rc

theorem cmovle (ra : Reg) (rb : Operand) (rc : Reg) : Statement (.cmovle ra rb rc) := decode_intl rfl ra rb rc

theorem cmovgt (ra : Reg) (rb : Operand) (rc : Reg) : Statement (.cmovgt ra rb rc) := decode_intl rfl ra rb rc

theorem implver (ra : Reg) (rb : Operand) (rc : Reg) : Statement (.implver ra rb rc) := decode_intl rfl ra rb rc

theorem mskbl (ra : Reg) (rb : Operand) (rc : Reg) : Statement (.mskbl ra rb rc) := decode_ints rfl ra rb rc

theorem extbl (ra : Reg) (rb : Operand) (rc : Reg) : Statement (.extbl ra rb rc) := decode_ints rfl ra rb rc

theorem insbl (ra : Reg) (rb : Operand) (rc : Reg) : Statement (.insbl ra rb rc) := decode_ints rfl ra rb rc

theorem mskwl (ra : Reg) (rb : Operand) (rc : Reg) : Statement (.mskwl ra rb rc) := decode_ints rfl ra rb rc

theorem extwl (ra : Reg) (rb : Operand) (rc : Reg) : Statement (.extwl ra rb rc) := decode_ints rfl ra rb rc

theorem inswl (ra : Reg) (rb : Operand) (rc : Reg) : Statement (.inswl ra rb rc) := decode_ints rfl ra rb rc

theorem mskll (ra : Reg) (rb : Operand) (rc : Reg) : Statement (.mskll ra rb rc) := decode_ints rfl ra rb rc

theorem extll (ra : Reg) (rb : Operand) (rc : Reg) : Statement (.extll ra rb rc) := decode_ints rfl ra rb rc

theorem insll (ra : Reg) (rb : Operand) (rc : Reg) : Statement (.insll ra rb rc) := decode_ints rfl ra rb rc

theorem zap (ra : Reg) (rb : Operand) (rc : Reg) : Statement (.zap ra rb rc) := decode_ints rfl ra rb rc

theorem zapnot (ra : Reg) (rb : Operand) (rc : Reg) : Statement (.zapnot ra rb rc) := decode_ints rfl ra rb rc

theorem mskql (ra : Reg) (rb : Operand) (rc : Reg) : Statement (.mskql ra rb rc) := decode_ints rfl ra rb rc

theorem srl (ra : Reg) (rb : Operand) (rc : Reg) : Statement (.srl ra rb rc) := decode_ints rfl ra rb rc

theorem extql (ra : Reg) (rb : Operand) (rc : Reg) : Statement (.extql ra rb rc) := decode_ints rfl ra rb rc

theorem sll (ra : Reg) (rb : Operand) (rc : Reg) : Statement (.sll ra rb rc) := decode_ints rfl ra rb rc

theorem insql (ra : Reg) (rb : Operand) (rc : Reg) : Statement (.insql ra rb rc) := decode_ints rfl ra rb rc

theorem sra (ra : Reg) (rb : Operand) (rc : Reg) : Statement (.sra ra rb rc) := decode_ints rfl ra rb rc

theorem mskwh (ra : Reg) (rb : Operand) (rc : Reg) : Statement (.mskwh ra rb rc) := decode_ints rfl ra rb rc

theorem inswh (ra : Reg) (rb : Operand) (rc : Reg) : Statement (.inswh ra rb rc) := decode_ints rfl ra rb rc

theorem extwh (ra : Reg) (rb : Operand) (rc : Reg) : Statement (.extwh ra rb rc) := decode_ints rfl ra rb rc

theorem msklh (ra : Reg) (rb : Operand) (rc : Reg) : Statement (.msklh ra rb rc) := decode_ints rfl ra rb rc

theorem inslh (ra : Reg) (rb : Operand) (rc : Reg) : Statement (.inslh ra rb rc) := decode_ints rfl ra rb rc

theorem extlh (ra : Reg) (rb : Operand) (rc : Reg) : Statement (.extlh ra rb rc) := decode_ints rfl ra rb rc

theorem mskqh (ra : Reg) (rb : Operand) (rc : Reg) : Statement (.mskqh ra rb rc) := decode_ints rfl ra rb rc

theorem insqh (ra : Reg) (rb : Operand) (rc : Reg) : Statement (.insqh ra rb rc) := decode_ints rfl ra rb rc

theorem extqh (ra : Reg) (rb : Operand) (rc : Reg) : Statement (.extqh ra rb rc) := decode_ints rfl ra rb rc

theorem mull (ra : Reg) (rb : Operand) (rc : Reg) : Statement (.mull ra rb rc) := decode_intm rfl ra rb rc

theorem mulq (ra : Reg) (rb : Operand) (rc : Reg) : Statement (.mulq ra rb rc) := decode_intm rfl ra rb rc

theorem umulh (ra : Reg) (rb : Operand) (rc : Reg) : Statement (.umulh ra rb rc) := decode_intm rfl ra rb rc

theorem mullV (ra : Reg) (rb : Operand) (rc : Reg) : Statement (.mullV ra rb rc) := decode_intm rfl ra rb rc

theorem mulqV (ra : Reg) (rb : Operand) (rc : Reg) : Statement (.mulqV ra rb rc) := decode_intm rfl ra rb rc

theorem sextb (ra : Reg) (rb : Operand) (rc : Reg) : Statement (.sextb ra rb rc) := decode_fpti rfl (by decide) ra rb rc

theorem sextw (ra : Reg) (rb : Operand) (rc : Reg) : Statement (.sextw ra rb rc) := decode_fpti rfl (by decide) ra rb rc

theorem ctpop (ra : Reg) (rb : Operand) (rc : Reg) : Statement (.ctpop ra rb rc) := decode_fpti rfl (by decide) ra rb rc

theorem perr (ra : Reg) (rb : Operand) (rc : Reg) : Statement (.perr ra rb rc) := decode_fpti rfl (by decide) ra rb rc

theorem ctlz (ra : Reg) (rb : Operand) (rc : Reg) : Statement (.ctlz ra rb rc) := decode_fpti rfl (by decide) ra rb rc

theorem cttz (ra : Reg) (rb : Operand) (rc : Reg) : Statement (.cttz ra rb rc) := decode_fpti rfl (by decide) ra rb rc

theorem unpkbw (ra : Reg) (rb : Operand) (rc : Reg) : Statement (.unpkbw ra rb rc) := decode_fpti rfl (by decide) ra rb rc

theorem unpkbl (ra : Reg) (rb : Operand) (rc : Reg) : Statement (.unpkbl ra rb rc) := decode_fpti rfl (by decide) ra rb rc

theorem pkwb (ra : Reg) (rb : Operand) (rc : Reg) : Statement (.pkwb ra rb rc) := decode_fpti rfl (by decide) ra rb rc

theorem pklb (ra : Reg) (rb : Operand) (rc : Reg) : Statement (.pklb ra rb rc) := decode_fpti rfl (by decide) ra rb rc

theorem minsb8 (ra : Reg) (rb : Operand) (rc : Reg) : Statement (.minsb8 ra rb rc) := decode_fpti rfl (by decide) ra rb rc

theorem minsw4 (ra : Reg) (rb : Operand) (rc : Reg) : Statement (.minsw4 ra rb rc) := decode_fpti rfl (by decide) ra rb rc

theorem minub8 (ra : Reg) (rb : Operand) (rc : Reg) : Statement (.minub8 ra rb rc) := decode_fpti rfl (by decide) ra rb rc

theorem minuw4 (ra : Reg) (rb : Operand) (rc : Reg) : Statement (.minuw4 ra rb rc) := decode_fpti rfl (by decide) ra rb rc

theorem maxub8 (ra : Reg) (rb : Operand) (rc : Reg) : Statement (.maxub8 ra rb rc) := decode_fpti rfl (by decide) ra rb rc

theorem maxuw4 (ra : Reg) (rb : Operand) (rc : Reg) : Statement (.maxuw4 ra rb rc) := decode_fpti rfl (by decide) ra rb rc

theorem maxsb8 (ra : Reg) (rb : Operand) (rc : Reg) : Statement (.maxsb8 ra rb rc) := decode_fpti rfl (by decide) ra rb rc

theorem maxsw4 (ra : Reg) (rb : Operand) (rc : Reg) : Statement (.maxsw4 ra rb rc) := decode_fpti rfl (by decide) ra rb rc

theorem ftoit (fa : Reg) (fb : Reg) (rc : Reg) : Statement (.ftoit fa fb rc) := decode_ftoi rfl (by decide) fa fb rc

theorem ftois (fa : Reg) (fb : Reg) (rc : Reg) : Statement (.ftois fa fb rc) := decode_ftoi rfl (by decide) fa fb rc

theorem itofs (ra : Reg) (fb : Reg) (fc : Reg) : Statement (.itofs ra fb fc) := decode_itfp rfl ra fb fc

theorem itoff (ra : Reg) (fb : Reg) (fc : Reg) : Statement (.itoff ra fb fc) := decode_itfp rfl ra fb fc

theorem itoft (ra : Reg) (fb : Reg) (fc : Reg) : Statement (.itoft ra fb fc) := decode_itfp rfl ra fb fc

theorem sqrtfC (fa : Reg) (fb : Reg) (fc : Reg) : Statement (.sqrtfC fa fb fc) := decode_itfp rfl fa fb fc

theorem sqrtsC (fa : Reg) (fb : Reg) (fc : Reg) : Statement (.sqrtsC fa fb fc) := decode_itfp rfl fa fb fc

theorem sqrtgC (fa : Reg) (fb : Reg) (fc : Reg) : Statement (.sqrtgC fa fb fc) := decode_itfp rfl fa fb fc

theorem sqrttC (fa : Reg) (fb : Reg) (fc : Reg) : Statement (.sqrttC fa fb fc) := decode_itfp rfl fa fb fc

theorem sqrtsM (fa : Reg) (fb : Reg) (fc : Reg) : Statement (.sqrtsM fa fb fc) := decode_itfp rfl fa fb fc

theorem sqrttM (fa : Reg) (fb : Reg) (fc : Reg) : Statement (.sqrttM fa fb fc) := decode_itfp rfl fa fb fc

theorem sqrtf (fa : Reg) (fb : Reg) (fc : Reg) : Statement (.sqrtf fa fb fc) := decode_itfp rfl fa fb fc

theorem sqrts (fa : Reg) (fb : Reg) (fc : Reg) : Statement (.sqrts fa fb fc) := decode_itfp rfl fa fb fc

theorem sqrtg (fa : Reg) (fb : Reg) (fc : Reg) : Statement (.sqrtg fa fb fc) := decode_itfp rfl fa fb fc

theorem sqrtt (fa : Reg) (fb : Reg) (fc : Reg) : Statement (.sqrtt fa fb fc) := decode_itfp rfl fa fb fc

theorem sqrtsD (fa : Reg) (fb : Reg) (fc : Reg) : Statement (.sqrtsD fa fb fc) := decode_itfp rfl fa fb fc

theorem sqrttD (fa : Reg) (fb : Reg) (fc : Reg) : Statement (.sqrttD fa fb fc) := decode_itfp rfl fa fb fc

theorem sqrtfUc (fa : Reg) (fb : Reg) (fc : Reg) : Statement (.sqrtfUc fa fb fc) := decode_itfp rfl fa fb fc

theorem sqrtsUc (fa : Reg) (fb : Reg) (fc : Reg) : Statement (.sqrtsUc fa fb fc) := decode_itfp rfl fa fb fc

theorem sqrtgUc (fa : Reg) (fb : Reg) (fc : Reg) : Statement (.sqrtgUc fa fb fc) := decode_itfp rfl fa fb fc

theorem sqrttUc (fa : Reg) (fb : Reg) (fc : Reg) : Statement (.sqrttUc fa fb fc) := decode_itfp rfl fa fb fc

theorem sqrtsUm (fa : Reg) (fb : Reg) (fc : Reg) : Statement (.sqrtsUm fa fb fc) := decode_itfp rfl fa fb fc

theorem sqrttUm (fa : Reg) (fb : Reg) (fc : Reg) : Statement (.sqrttUm fa fb fc) := decode_itfp rfl fa fb fc

theorem sqrtfU (fa : Reg) (fb : Reg) (fc : Reg) : Statement (.sqrtfU fa fb fc) := decode_itfp rfl fa fb fc

theorem sqrtsU (fa : Reg) (fb : Reg) (fc : Reg) : Statement (.sqrtsU fa fb fc) := decode_itfp rfl fa fb fc

theorem sqrtgU (fa : Reg) (fb : Reg) (fc : Reg) : Statement (.sqrtgU fa fb fc) := decode_itfp rfl fa fb fc

theorem sqrttU (fa : Reg) (fb : Reg) (fc : Reg) : Statement (.sqrttU fa fb fc) := decode_itfp rfl fa fb fc

theorem sqrtsUd (fa : Reg) (fb : Reg) (fc : Reg) : Statement (.sqrtsUd fa fb fc) := decode_itfp rfl fa fb fc

theorem sqrttUd (fa : Reg) (fb : Reg) (fc : Reg) : Statement (.sqrttUd fa fb fc) := decode_itfp rfl fa fb fc

theorem sqrtfSc (fa : Reg) (fb : Reg) (fc : Reg) : Statement (.sqrtfSc fa fb fc) := decode_itfp rfl fa fb fc

theorem sqrtgSc (fa : Reg) (fb : Reg) (fc : Reg) : Statement (.sqrtgSc fa fb fc) := decode_itfp rfl fa fb fc

theorem sqrtfS (fa : Reg) (fb : Reg) (fc : Reg) : Statement (.sqrtfS fa fb fc) := decode_itfp rfl fa fb fc

theorem sqrtgS (fa : Reg) (fb : Reg) (fc : Reg) : Statement (.sqrtgS fa fb fc) := decode_itfp rfl fa fb fc

theorem sqrtfSuc (fa : Reg) (fb : Reg) (fc : Reg) : Statement (.sqrtfSuc fa fb fc) := decode_itfp rfl fa fb fc

theorem sqrtsSuc (fa : Reg) (fb : Reg) (fc : Reg) : Statement (.sqrtsSuc fa fb fc) := decode_itfp rfl fa fb fc

theorem sqrtgSuc (fa : Reg) (fb : Reg) (fc : Reg) : Statement (.sqrtgSuc fa fb fc) := decode_itfp rfl fa fb fc

theorem sqrttSuc (fa : Reg) (fb : Reg) (fc : Reg) : Statement (.sqrttSuc fa fb fc) := decode_itfp rfl fa fb fc

theorem sqrtsSum (fa : Reg) (fb : Reg) (fc : Reg) : Statement (.sqrtsSum fa fb fc) := decode_itfp rfl fa fb fc

theorem sqrttSum (fa : Reg) (fb : Reg) (fc : Reg) : Statement (.sqrttSum fa fb fc) := decode_itfp rfl fa fb fc

theorem sqrtfSu (fa : Reg) (fb : Reg) (fc : Reg) : Statement (.sqrtfSu fa fb fc) := decode_itfp rfl fa fb fc

theorem sqrtsSu (fa : Reg) (fb : Reg) (fc : Reg) : Statement (.sqrtsSu fa fb fc) := decode_itfp rfl fa fb fc

theorem sqrtgSu (fa : Reg) (fb : Reg) (fc : Reg) : Statement (.sqrtgSu fa fb fc) := decode_itfp rfl fa fb fc

theorem sqrttSu (fa : Reg) (fb : Reg) (fc : Reg) : Statement (.sqrttSu fa fb fc) := decode_itfp rfl fa fb fc

theorem sqrtsSud (fa : Reg) (fb : Reg) (fc : Reg) : Statement (.sqrtsSud fa fb fc) := decode_itfp rfl fa fb fc

theorem sqrttSud (fa : Reg) (fb : Reg) (fc : Reg) : Statement (.sqrttSud fa fb fc) := decode_itfp rfl fa fb fc

theorem sqrtsSuic (fa : Reg) (fb : Reg) (fc : Reg) : Statement (.sqrtsSuic fa fb fc) := decode_itfp rfl fa fb fc

theorem sqrttSuic (fa : Reg) (fb : Reg) (fc : Reg) : Statement (.sqrttSuic fa fb fc) := decode_itfp rfl fa fb fc

theorem sqrtsSuim (fa : Reg) (fb : Reg) (fc : Reg) : Statement (.sqrtsSuim fa fb fc) := decode_itfp rfl fa fb fc

theorem sqrttSuim (fa : Reg) (fb : Reg) (fc : Reg) : Statement (.sqrttSuim fa fb fc) := decode_itfp rfl fa fb fc

theorem sqrtsSui (fa : Reg) (fb : Reg) (fc : Reg) : Statement (.sqrtsSui fa fb fc) := decode_itfp rfl fa fb fc

theorem sqrttSui (fa : Reg) (fb : Reg) (fc : Reg) : Statement (.sqrttSui fa fb fc) := decode_itfp rfl fa fb fc

theorem sqrtsSuid (fa : Reg) (fb : Reg) (fc : Reg) : Statement (.sqrtsSuid fa fb fc) := decode_itfp rfl fa fb fc

theorem sqrttSuid (fa : Reg) (fb : Reg) (fc : Reg) : Statement (.sqrttSuid fa fb fc) := decode_itfp rfl fa fb fc

theorem addfC (fa : Reg) (fb : Reg) (fc : Reg) : Statement (.addfC fa fb fc) := decode_fltv rfl fa fb fc

theorem subfC (fa : Reg) (fb : Reg) (fc : Reg) : Statement (.subfC fa fb fc) := decode_fltv rfl fa fb fc

theorem mulfC (fa : Reg) (fb : Reg) (fc : Reg) : Statement (.mulfC fa fb fc) := decode_fltv rfl fa fb fc

theorem divfC (fa : Reg) (fb : Reg) (fc : Reg) : Statement (.divfC fa fb fc) := decode_fltv rfl fa fb fc

theorem cvtdgC (fa : Reg) (fb : Reg) (fc : Reg) : Statement (.cvtdgC fa fb fc) := decode_fltv rfl fa fb fc

theorem addgC (fa : Reg) (fb : Reg) (fc : Reg) : Statement (.addgC fa fb fc) := decode_fltv rfl fa fb fc

theorem subgC (fa : Reg) (fb : Reg) (fc : Reg) : Statement (.subgC fa fb fc) := decode_fltv rfl fa fb fc

theorem mulgC (fa : Reg) (fb : Reg) (fc : Reg) : Statement (.mulgC fa fb fc) := decode_fltv rfl fa fb fc

theorem divgC (fa : Reg) (fb : Reg) (fc : Reg) : Statement (.divgC fa fb fc) := decode_fltv rfl fa fb fc

theorem cvtgfC (fa : Reg) (fb : Reg) (fc : Reg) : Statement (.cvtgfC fa fb fc) := decode_fltv rfl fa fb fc

theorem cvtgdC (fa : Reg) (fb : Reg) (fc : Reg) : Statement (.cvtgdC fa fb fc) := decode_fltv rfl fa fb fc

theorem cvtgqC (fa : Reg) (fb : Reg) (fc : Reg) : Statement (.cvtgqC fa fb fc) := decode_fltv rfl fa fb fc

theorem cvtqfC (fa : Reg) (fb : Reg) (fc : Reg) : Statement (.cvtqfC fa fb fc) := decode_fltv rfl fa fb fc

theorem cvtqgC (fa : Reg) (fb : Reg) (fc : Reg) : Statement (.cvtqgC fa fb fc) := decode_fltv rfl fa fb fc

theorem addf (fa : Reg) (fb : Reg) (fc : Reg) : Statement (.addf fa fb fc) := decode_fltv rfl fa fb fc

theorem subf (fa : Reg) (fb : Reg) (fc : Reg) : Statement (.subf fa fb fc) := decode_fltv rfl fa fb fc

theorem mulf (fa : Reg) (fb : Reg) (fc : Reg) : Statement (.mulf fa fb fc) := decode_fltv rfl fa fb fc

theorem divf (fa : Reg) (fb : Reg) (fc : Reg) : Statement (.divf fa fb fc) := decode_fltv rfl fa fb fc

theorem cvtdg (fa : Reg) (fb : Reg) (fc : Reg) : Statement (.cvtdg fa fb fc) := decode_fltv rfl fa fb fc

theorem addg (fa : Reg) (fb : Reg) (fc : Reg) : Statement (.addg fa fb fc) := decode_fltv rfl fa fb fc

theorem subg (fa : Reg) (fb : Reg) (fc : Reg) : Statement (.subg fa fb fc) := decode_fltv rfl fa fb fc

theorem mulg (fa : Reg) (fb : Reg) (fc : Reg) : Statement (.mulg fa fb fc) := decode_fltv rfl fa fb fc

theorem divg (fa : Reg) (fb : Reg) (fc : Reg) : Statement (.divg fa fb fc) := decode_fltv rfl fa fb fc

theorem cmpgeq (fa : Reg) (fb : Reg) (fc : Reg) : Statement (.cmpgeq fa fb fc) := decode_fltv rfl fa fb fc

theorem cmpglt (fa : Reg) (fb : Reg) (fc : Reg) : Statement (.cmpglt fa fb fc) := decode_fltv rfl fa fb fc

theorem cmpgle (fa : Reg) (fb : Reg) (fc : Reg) : Statement (.cmpgle fa fb fc) := decode_fltv rfl fa fb fc

theorem cvtgf (fa : Reg) (fb : Reg) (fc : Reg) : Statement (.cvtgf fa fb fc) := decode_fltv rfl fa fb fc

theorem cvtgd (fa : Reg) (fb : Reg) (fc : Reg) : Statement (.cvtgd fa fb fc) := decode_fltv rfl fa fb fc

theorem cvtgq (fa : Reg) (fb : Reg) (fc : Reg) : Statement (.cvtgq fa fb fc) := decode_fltv rfl fa fb fc

theorem cvtqf (fa : Reg) (fb : Reg) (fc : Reg) : Statement (.cvtqf fa fb fc) := decode_fltv rfl fa fb fc

theorem cvtqg (fa : Reg) (fb : Reg) (fc : Reg) : Statement (.cvtqg fa fb fc) := decode_fltv rfl fa fb fc

theorem addfUc (fa : Reg) (fb : Reg) (fc : Reg) : Statement (.addfUc fa fb fc) := decode_fltv rfl fa fb fc

theorem subfUc (fa : Reg) (fb : Reg) (fc : Reg) : Statement (.subfUc fa fb fc) := decode_fltv rfl fa fb fc

theorem mulfUc (fa : Reg) (fb : Reg) (fc : Reg) : Statement (.mulfUc fa fb fc) := decode_fltv rfl fa fb fc

theorem divfUc (fa : Reg) (fb : Reg) (fc : Reg) : Statement (.divfUc fa fb fc) := decode_fltv rfl fa fb fc

theorem cvtdgUc (fa : Reg) (fb : Reg) (fc : Reg) : Statement (.cvtdgUc fa fb fc) := decode_fltv rfl fa fb fc

theorem addgUc (fa : Reg) (fb : Reg) (fc : Reg) : Statement (.addgUc fa fb fc) := decode_fltv rfl fa fb fc

theorem subgUc (fa : Reg) (fb : Reg) (fc : Reg) : Statement (.subgUc fa fb fc) := decode_fltv rfl fa fb fc

theorem mulgUc (fa : Reg) (fb : Reg) (fc : Reg) : Statement (.mulgUc fa fb fc) := decode_fltv rfl fa fb fc

theorem divgUc (fa : Reg) (fb : Reg) (fc : Reg) : Statement (.divgUc fa fb fc) := decode_fltv rfl fa fb fc

theorem cvtgfUc (fa : Reg) (fb : Reg) (fc : Reg) : Statement (.cvtgfUc fa fb fc) := decode_fltv rfl fa fb fc

theorem cvtgdUc (fa : Reg) (fb : Reg) (fc : Reg) : Statement (.cvtgdUc fa fb fc) := decode_fltv rfl fa fb fc

theorem cvtgqVc (fa : Reg) (fb : Reg) (fc : Reg) : Statement (.cvtgqVc fa fb fc) := decode_fltv rfl fa fb fc

theorem addfU (fa : Reg) (fb : Reg) (fc : Reg) : Statement (.addfU fa fb fc) := decode_fltv rfl fa fb fc

theorem subfU (fa : Reg) (fb : Reg) (fc : Reg) : Statement (.subfU fa fb fc) := decode_fltv rfl fa fb fc

theorem mulfU (fa : Reg) (fb : Reg) (fc : Reg) : Statement (.mulfU fa fb fc) := decode_fltv rfl fa fb fc

theorem divfU (fa : Reg) (fb : Reg) (fc : Reg) : Statement (.divfU fa fb fc) := decode_fltv rfl fa fb fc

theorem cvtdgU (fa : Reg) (fb : Reg) (fc : Reg) : Statement (.cvtdgU fa fb fc) := decode_fltv rfl fa fb fc

theorem addgU (fa : Reg) (fb : Reg) (fc : Reg) : Statement (.addgU fa fb fc) := decode_fltv rfl fa fb fc

theorem subgU (fa : Reg) (fb : Reg) (fc : Reg) : Statement (.subgU fa fb fc) := decode_fltv rfl fa fb fc

theorem mulgU (fa : Reg) (fb : Reg) (fc : Reg) : Statement (.mulgU fa fb fc) := decode_fltv rfl fa fb fc

theorem divgU (fa : Reg) (fb : Reg) (fc : Reg) : Statement (.divgU fa fb fc) := decode_fltv rfl fa fb fc

theorem cvtgfU (fa : Reg) (fb : Reg) (fc : Reg) : Statement (.cvtgfU fa fb fc) := decode_fltv rfl fa fb fc

theorem cvtgdU (fa : Reg) (fb : Reg) (fc : Reg) : Statement (.cvtgdU fa fb fc) := decode_fltv rfl fa fb fc

theorem cvtgqV (fa : Reg) (fb : Reg) (fc : Reg) : Statement (.cvtgqV fa fb fc) := decode_fltv rfl fa fb fc

theorem addfSc (fa : Reg) (fb : Reg) (fc : Reg) : Statement (.addfSc fa fb fc) := decode_fltv rfl fa fb fc

theorem subfSc (fa : Reg) (fb : Reg) (fc : Reg) : Statement (.subfSc fa fb fc) := decode_fltv rfl fa fb fc

theorem mulfSc (fa : Reg) (fb : Reg) (fc : Reg) : Statement (.mulfSc fa fb fc) := decode_fltv rfl fa fb fc

theorem divfSc (fa : Reg) (fb : Reg) (fc : Reg) : Statement (.divfSc fa fb fc) := decode_fltv rfl fa fb fc

theorem cvtdgSc (fa : Reg) (fb : Reg) (fc : Reg) : Statement (.cvtdgSc fa fb fc) := decode_fltv rfl fa fb fc

theorem addgSc (fa : Reg) (fb : Reg) (fc : Reg) : Statement (.addgSc fa fb fc) := decode_fltv rfl fa fb fc

theorem subgSc (fa : Reg) (fb : Reg) (fc : Reg) : Statement (.subgSc fa fb fc) := decode_fltv rfl fa fb fc

theorem mulgSc (fa : Reg) (fb : Reg) (fc : Reg) : Statement (.mulgSc fa fb fc) := decode_fltv rfl fa fb fc

theorem divgSc (fa : Reg) (fb : Reg) (fc : Reg) : Statement (.divgSc fa fb fc) := decode_fltv rfl fa fb fc

theorem cvtgfSc (fa : Reg) (fb : Reg) (fc : Reg) : Statement (.cvtgfSc fa fb fc) := decode_fltv rfl fa fb fc

theorem cvtgdSc (fa : Reg) (fb : Reg) (fc : Reg) : Statement (.cvtgdSc fa fb fc) := decode_fltv rfl fa fb fc

theorem cvtgqSc (fa : Reg) (fb : Reg) (fc : Reg) : Statement (.cvtgqSc fa fb fc) := decode_fltv rfl fa fb fc

theorem addfS (fa : Reg) (fb : Reg) (fc : Reg) : Statement (.addfS fa fb fc) := decode_fltv rfl fa fb fc

theorem subfS (fa : Reg) (fb : Reg) (fc : Reg) : Statement (.subfS fa fb fc) := decode_fltv rfl fa fb fc

theorem mulfS (fa : Reg) (fb : Reg) (fc : Reg) : Statement (.mulfS fa fb fc) := decode_fltv rfl fa fb fc

theorem divfS (fa : Reg) (fb : Reg) (fc : Reg) : Statement (.divfS fa fb fc) := decode_fltv rfl fa fb fc

theorem cvtdgS (fa : Reg) (fb : Reg) (fc : Reg) : Statement (.cvtdgS fa fb fc) := decode_fltv rfl fa fb fc

theorem addgS (fa : Reg) (fb : Reg) (fc : Reg) : Statement (.addgS fa fb fc) := decode_fltv rfl fa fb fc

theorem subgS (fa : Reg) (fb : Reg) (fc : Reg) : Statement (.subgS fa fb fc) := decode_fltv rfl fa fb fc

theorem mulgS (fa : Reg) (fb : Reg) (fc : Reg) : Statement (.mulgS fa fb fc) := decode_fltv rfl fa fb fc

theorem divgS (fa : Reg) (fb : Reg) (fc : Reg) : Statement (.divgS fa fb fc) := decode_fltv rfl fa fb fc

theorem cmpgeqS (fa : Reg) (fb : Reg) (fc : Reg) : Statement (.cmpgeqS fa fb fc) := decode_fltv rfl fa fb fc

theorem cmpgltS (fa : Reg) (fb : Reg) (fc : Reg) : Statement (.cmpgltS fa fb fc) := decode_fltv rfl fa fb fc

theorem cmpgleS (fa : Reg) (fb : Reg) (fc : Reg) : Statement (.cmpgleS fa fb fc) := decode_fltv rfl fa fb fc

theorem cvtgfS (fa : Reg) (fb : Reg) (fc : Reg) : Statement (.cvtgfS fa fb fc) := decode_fltv rfl fa fb fc

theorem cvtgdS (fa : Reg) (fb : Reg) (fc : Reg) : Statement (.cvtgdS fa fb fc) := decode_fltv rfl fa fb fc

theorem cvtgqS (fa : Reg) (fb : Reg) (fc : Reg) : Statement (.cvtgqS fa fb fc) := decode_fltv rfl fa fb fc

theorem addfSuc (fa : Reg) (fb : Reg) (fc : Reg) : Statement (.addfSuc fa fb fc) := decode_fltv rfl fa fb fc

theorem subfSuc (fa : Reg) (fb : Reg) (fc : Reg) : Statement (.subfSuc fa fb fc) := decode_fltv rfl fa fb fc

theorem mulfSuc (fa : Reg) (fb : Reg) (fc : Reg) : Statement (.mulfSuc fa fb fc) := decode_fltv rfl fa fb fc

theorem divfSuc (fa : Reg) (fb : Reg) (fc : Reg) : Statement (.divfSuc fa fb fc) := decode_fltv rfl fa fb fc

theorem cvtdgSuc (fa : Reg) (fb : Reg) (fc : Reg) : Statement (.cvtdgSuc fa fb fc) := decode_fltv rfl fa fb fc

theorem addgSuc (fa : Reg) (fb : Reg) (fc : Reg) : Statement (.addgSuc fa fb fc) := decode_fltv rfl fa fb fc

theorem subgSuc (fa : Reg) (fb : Reg) (fc : Reg) : Statement (.subgSuc fa fb fc) := decode_fltv rfl fa fb fc

theorem mulgSuc (fa : Reg) (fb : Reg) (fc : Reg) : Statement (.mulgSuc fa fb fc) := decode_fltv rfl fa fb fc

theorem divgSuc (fa : Reg) (fb : Reg) (fc : Reg) : Statement (.divgSuc fa fb fc) := decode_fltv rfl fa fb fc

theorem cvtgfSuc (fa : Reg) (fb : Reg) (fc : Reg) : Statement (.cvtgfSuc fa fb fc) := decode_fltv rfl fa fb fc

theorem cvtgdSuc (fa : Reg) (fb : Reg) (fc : Reg) : Statement (.cvtgdSuc fa fb fc) := decode_fltv rfl fa fb fc

theorem cvtgqSvc (fa : Reg) (fb : Reg) (fc : Reg) : Statement (.cvtgqSvc fa fb fc) := decode_fltv rfl fa fb fc

theorem addfSu (fa : Reg) (fb : Reg) (fc : Reg) : Statement (.addfSu fa fb fc) := decode_fltv rfl fa fb fc

theorem subfSu (fa : Reg) (fb : Reg) (fc : Reg) : Statement (.subfSu fa fb fc) := decode_fltv rfl fa fb fc

theorem mulfSu (fa : Reg) (fb : Reg) (fc : Reg) : Statement (.mulfSu fa fb fc) := decode_fltv rfl fa fb fc

theorem divfSu (fa : Reg) (fb : Reg) (fc : Reg) : Statement (.divfSu fa fb fc) := decode_fltv rfl fa fb fc

theorem cvtdgSu (fa : Reg) (fb : Reg) (fc : Reg) : Statement (.cvtdgSu fa fb fc) := decode_fltv rfl fa fb fc

theorem addgSu (fa : Reg) (fb : Reg) (fc : Reg) : Statement (.addgSu fa fb fc) := decode_fltv rfl fa fb fc

theorem subgSu (fa : Reg) (fb : Reg) (fc : Reg) : Statement (.subgSu fa fb fc) := decode_fltv rfl fa fb fc

theorem mulgSu (fa : Reg) (fb : Reg) (fc : Reg) : Statement (.mulgSu fa fb fc) := decode_fltv rfl fa fb fc

theorem divgSu (fa : Reg) (fb : Reg) (fc : Reg) : Statement (.divgSu fa fb fc) := decode_fltv rfl fa fb fc

theorem cvtgfSu (fa : Reg) (fb : Reg) (fc : Reg) : Statement (.cvtgfSu fa fb fc) := decode_fltv rfl fa fb fc

theorem cvtgdSu (fa : Reg) (fb : Reg) (fc : Reg) : Statement (.cvtgdSu fa fb fc) := decode_fltv rfl fa fb fc

theorem cvtgqSv (fa : Reg) (fb : Reg) (fc : Reg) : Statement (.cvtgqSv fa fb fc) := decode_fltv rfl fa fb fc

theorem addsC (fa : Reg) (fb : Reg) (fc : Reg) : Statement (.addsC fa fb fc) := decode_flti rfl fa fb fc

theorem subsC (fa : Reg) (fb : Reg) (fc : Reg) : Statement (.subsC fa fb fc) := decode_flti rfl fa fb fc

theorem mulsC (fa : Reg) (fb : Reg) (fc : Reg) : Statement (.mulsC fa fb fc) := decode_flti rfl fa fb fc

theorem divsC (fa : Reg) (fb : Reg) (fc : Reg) : Statement (.divsC fa fb fc) := decode_flti rfl fa fb fc

theorem addtC (fa : Reg) (fb : Reg) (fc : Reg) : Statement (.addtC fa fb fc) := decode_flti rfl fa fb fc

theorem subtC (fa : Reg) (fb : Reg) (fc : Reg) : Statement (.subtC fa fb fc) := decode_flti rfl fa fb fc

theorem multC (fa : Reg) (fb : Reg) (fc : Reg) : Statement (.multC fa fb fc) := decode_flti rfl fa fb fc

theorem divtC (fa : Reg) (fb : Reg) (fc : Reg) : Statement (.divtC fa fb fc) := decode_flti rfl fa fb fc

theorem cvttsC (fa : Reg) (fb : Reg) (fc : Reg) : Statement (.cvttsC fa fb fc) := decode_flti rfl fa fb fc

theorem cvttqC (fa : Reg) (fb : Reg) (fc : Reg) : Statement (.cvttqC fa fb fc) := decode_flti rfl fa fb fc

theorem cvtqsC (fa : Reg) (fb : Reg) (fc : Reg) : Statement (.cvtqsC fa fb fc) := decode_flti rfl fa fb fc

theorem cvtqtC (fa : Reg) (fb : Reg) (fc : Reg) : Statement (.cvtqtC fa fb fc) := decode_flti rfl fa fb fc

theorem addsM (fa : Reg) (fb : Reg) (fc : Reg) : Statement (.addsM fa fb fc) := decode_flti rfl fa fb fc

theorem subsM (fa : Reg) (fb : Reg) (fc : Reg) : Statement (.subsM fa fb fc) := decode_flti rfl fa fb fc

theorem mulsM (fa : Reg) (fb : Reg) (fc : Reg) : Statement (.mulsM fa fb fc) := decode_flti rfl fa fb fc

theorem divsM (fa : Reg) (fb : Reg) (fc : Reg) : Statement (.divsM fa fb fc) := decode_flti rfl fa fb fc

theorem addtM (fa : Reg) (fb : Reg) (fc : Reg) : Statement (.addtM fa fb fc) := decode_flti rfl fa fb fc

theorem subtM (fa : Reg) (fb : Reg) (fc : Reg) : Statement (.subtM fa fb fc) := decode_flti rfl fa fb fc

theorem multM (fa : Reg) (fb : Reg) (fc : Reg) : Statement (.multM fa fb fc) := decode_flti rfl fa fb fc

theorem divtM (fa : Reg) (fb : Reg) (fc : Reg) : Statement (.divtM fa fb fc) := decode_flti rfl fa fb fc

theorem cvttsM (fa : Reg) (fb : Reg) (fc : Reg) : Statement (.cvttsM fa fb fc) := decode_flti rfl fa fb fc

theorem cvttqM (fa : Reg) (fb : Reg) (fc : Reg) : Statement (.cvttqM fa fb fc) := decode_flti rfl fa fb fc

theorem cvtqsM (fa : Reg) (fb : Reg) (fc : Reg) : Statement (.cvtqsM fa fb fc) := decode_flti rfl fa fb fc

theorem cvtqtM (fa : Reg) (fb : Reg) (fc : Reg) : Statement (.cvtqtM fa fb fc) := decode_flti rfl fa fb fc

theorem adds (fa : Reg) (fb : Reg) (fc : Reg) : Statement (.adds fa fb fc) := decode_flti rfl fa fb fc

theorem subs (fa : Reg) (fb : Reg) (fc : Reg) : Statement (.subs fa fb fc) := decode_flti rfl fa fb fc

theorem muls (fa : Reg) (fb : Reg) (fc : Reg) : Statement (.muls fa fb fc) := decode_flti rfl fa fb fc

theorem divs (fa : Reg) (fb : Reg) (fc : Reg) : Statement (.divs fa fb fc) := decode_flti rfl fa fb fc

theorem addt (fa : Reg) (fb : Reg) (fc : Reg) : Statement (.addt fa fb fc) := decode_flti rfl fa fb fc

theorem subt (fa : Reg) (fb : Reg) (fc : Reg) : Statement (.subt fa fb fc) := decode_flti rfl fa fb fc

theorem mult (fa : Reg) (fb : Reg) (fc : Reg) : Statement (.mult fa fb fc) := decode_flti rfl fa fb fc

theorem divt (fa : Reg) (fb : Reg) (fc : Reg) : Statement (.divt fa fb fc) := decode_flti rfl fa fb fc

theorem cmptun (fa : Reg) (fb : Reg) (fc : Reg) : Statement (.cmptun fa fb fc) := decode_flti rfl fa fb fc

theorem cmpteq (fa : Reg) (fb : Reg) (fc : Reg) : Statement (.cmpteq fa fb fc) := decode_flti rfl fa fb fc

theorem cmptlt (fa : Reg) (fb : Reg) (fc : Reg) : Statement (.cmptlt fa fb fc) := decode_flti rfl fa fb fc

theorem cmptle (fa : Reg) (fb : Reg) (fc : Reg) : Statement (.cmptle fa fb fc) := decode_flti rfl fa fb fc

theorem cvtts (fa : Reg) (fb : Reg) (fc : Reg) : Statement (.cvtts fa fb fc) := decode_flti rfl fa fb fc

theorem cvttq (fa : Reg) (fb : Reg) (fc : Reg) : Statement (.cvttq fa fb fc) := decode_flti rfl fa fb fc

theorem cvtqs (fa : Reg) (fb : Reg) (fc : Reg) : Statement (.cvtqs fa fb fc) := decode_flti rfl fa fb fc

theorem cvtqt (fa : Reg) (fb : Reg) (fc : Reg) : Statement (.cvtqt fa fb fc) := decode_flti rfl fa fb fc

theorem addsD (fa : Reg) (fb : Reg) (fc : Reg) : Statement (.addsD fa fb fc) := decode_flti rfl fa fb fc

theorem subsD (fa : Reg) (fb : Reg) (fc : Reg) : Statement (.subsD fa fb fc) := decode_flti rfl fa fb fc

theorem mulsD (fa : Reg) (fb : Reg) (fc : Reg) : Statement (.mulsD fa fb fc) := decode_flti rfl fa fb fc

theorem divsD (fa : Reg) (fb : Reg) (fc : Reg) : Statement (.divsD fa fb fc) := decode_flti rfl fa fb fc

theorem addtD (fa : Reg) (fb : Reg) (fc : Reg) : Statement (.addtD fa fb fc) := decode_flti rfl fa fb fc

theorem subtD (fa : Reg) (fb : Reg) (fc : Reg) : Statement (.subtD fa fb fc) := decode_flti rfl fa fb fc

theorem multD (fa : Reg) (fb : Reg) (fc : Reg) : Statement (.multD fa fb fc) := decode_flti rfl fa fb fc

theorem divtD (fa : Reg) (fb : Reg) (fc : Reg) : Statement (.divtD fa fb fc) := decode_flti rfl fa fb fc

theorem cvttsD (fa : Reg) (fb : Reg) (fc : Reg) : Statement (.cvttsD fa fb fc) := decode_flti rfl fa fb fc

theorem cvttqD (fa : Reg) (fb : Reg) (fc : Reg) : Statement (.cvttqD fa fb fc) := decode_flti rfl fa fb fc

theorem cvtqsD (fa : Reg) (fb : Reg) (fc : Reg) : Statement (.cvtqsD fa fb fc) := decode_flti rfl fa fb fc

theorem cvtqtD (fa : Reg) (fb : Reg) (fc : Reg) : Statement (.cvtqtD fa fb fc) := decode_flti rfl fa fb fc

theorem addsUc (fa : Reg) (fb : Reg) (fc : Reg) : Statement (.addsUc fa fb fc) := decode_flti rfl fa fb fc

theorem subsUc (fa : Reg) (fb : Reg) (fc : Reg) : Statement (.subsUc fa fb fc) := decode_flti rfl fa fb fc

theorem mulsUc (fa : Reg) (fb : Reg) (fc : Reg) : Statement (.mulsUc fa fb fc) := decode_flti rfl fa fb fc

theorem divsUc (fa : Reg) (fb : Reg) (fc : Reg) : Statement (.divsUc fa fb fc) := decode_flti rfl fa fb fc

theorem addtUc (fa : Reg) (fb : Reg) (fc : Reg) : Statement (.addtUc fa fb fc) := decode_flti rfl fa fb fc

theorem subtUc (fa : Reg) (fb : Reg) (fc : Reg) : Statement (.subtUc fa fb fc) := decode_flti rfl fa fb fc

theorem multUc (fa : Reg) (fb : Reg) (fc : Reg) : Statement (.multUc fa fb fc) := decode_flti rfl fa fb fc

theorem divtUc (fa : Reg) (fb : Reg) (fc : Reg) : Statement (.divtUc fa fb fc) := decode_flti rfl fa fb fc

theorem cvttsUc (fa : Reg) (fb : Reg) (fc : Reg) : Statement (.cvttsUc fa fb fc) := decode_flti rfl fa fb fc

theorem cvttqVc (fa : Reg) (fb : Reg) (fc : Reg) : Statement (.cvttqVc fa fb fc) := decode_flti rfl fa fb fc

theorem addsUm (fa : Reg) (fb : Reg) (fc : Reg) : Statement (.addsUm fa fb fc) := decode_flti rfl fa fb fc

theorem subsUm (fa : Reg) (fb : Reg) (fc : Reg) : Statement (.subsUm fa fb fc) := decode_flti rfl fa fb fc

theorem mulsUm (fa : Reg) (fb : Reg) (fc : Reg) : Statement (.mulsUm fa fb fc) := decode_flti rfl fa fb fc

theorem divsUm (fa : Reg) (fb : Reg) (fc : Reg) : Statement (.divsUm fa fb fc) := decode_flti rfl fa fb fc

theorem addtUm (fa : Reg) (fb : Reg) (fc : Reg) : Statement (.addtUm fa fb fc) := decode_flti rfl fa fb fc

theorem subtUm (fa : Reg) (fb : Reg) (fc : Reg) : Statement (.subtUm fa fb fc) := decode_flti rfl fa fb fc

theorem multUm (fa : Reg) (fb : Reg) (fc : Reg) : Statement (.multUm fa fb fc) := decode_flti rfl fa fb fc

theorem divtUm (fa : Reg) (fb : Reg) (fc : Reg) : Statement (.divtUm fa fb fc) := decode_flti rfl fa fb fc

theorem cvttsUm (fa : Reg) (fb : Reg) (fc : Reg) : Statement (.cvttsUm fa fb fc) := decode_flti rfl fa fb fc

theorem cvttqVm (fa : Reg) (fb : Reg) (fc : Reg) : Statement (.cvttqVm fa fb fc) := decode_flti rfl fa fb fc

theorem addsU (fa : Reg) (fb : Reg) (fc : Reg) : Statement (.addsU fa fb fc) := decode_flti rfl fa fb fc

theorem subsU (fa : Reg) (fb : Reg) (fc : Reg) : Statement (.subsU fa fb fc) := decode_flti rfl fa fb fc

theorem mulsU (fa : Reg) (fb : Reg) (fc : Reg) : Statement (.mulsU fa fb fc) := decode_flti rfl fa fb fc

theorem divsU (fa : Reg) (fb : Reg) (fc : Reg) : Statement (.divsU fa fb fc) := decode_flti rfl fa fb fc

theorem addtU (fa : Reg) (fb : Reg) (fc : Reg) : Statement (.addtU fa fb fc) := decode_flti rfl fa fb fc

theorem subtU (fa : Reg) (fb : Reg) (fc : Reg) : Statement (.subtU fa fb fc) := decode_flti rfl fa fb fc

theorem multU (fa : Reg) (fb : Reg) (fc : Reg) : Statement (.multU fa fb fc) := decode_flti rfl fa fb fc

theorem divtU (fa : Reg) (fb : Reg) (fc : Reg) : Statement (.divtU fa fb fc) := decode_flti rfl fa fb fc

theorem cvttsU (fa : Reg) (fb : Reg) (fc : Reg) : Statement (.cvttsU fa fb fc) := decode_flti rfl fa fb fc

theorem cvttqV (fa : Reg) (fb : Reg) (fc : Reg) : Statement (.cvttqV fa fb fc) := decode_flti rfl fa fb fc

theorem addsUd (fa : Reg) (fb : Reg) (fc : Reg) : Statement (.addsUd fa fb fc) := decode_flti rfl fa fb fc

theorem subsUd (fa : Reg) (fb : Reg) (fc : Reg) : Statement (.subsUd fa fb fc) := decode_flti rfl fa fb fc

theorem mulsUd (fa : Reg) (fb : Reg) (fc : Reg) : Statement (.mulsUd fa fb fc) := decode_flti rfl fa fb fc

theorem divsUd (fa : Reg) (fb : Reg) (fc : Reg) : Statement (.divsUd fa fb fc) := decode_flti rfl fa fb fc

theorem addtUd (fa : Reg) (fb : Reg) (fc : Reg) : Statement (.addtUd fa fb fc) := decode_flti rfl fa fb fc

theorem subtUd (fa : Reg) (fb : Reg) (fc : Reg) : Statement (.subtUd fa fb fc) := decode_flti rfl fa fb fc

theorem multUd (fa : Reg) (fb : Reg) (fc : Reg) : Statement (.multUd fa fb fc) := decode_flti rfl fa fb fc

theorem divtUd (fa : Reg) (fb : Reg) (fc : Reg) : Statement (.divtUd fa fb fc) := decode_flti rfl fa fb fc

theorem cvttsUd (fa : Reg) (fb : Reg) (fc : Reg) : Statement (.cvttsUd fa fb fc) := decode_flti rfl fa fb fc

theorem cvttqVd (fa : Reg) (fb : Reg) (fc : Reg) : Statement (.cvttqVd fa fb fc) := decode_flti rfl fa fb fc

theorem cvtst (fa : Reg) (fb : Reg) (fc : Reg) : Statement (.cvtst fa fb fc) := decode_flti rfl fa fb fc

theorem addsSuc (fa : Reg) (fb : Reg) (fc : Reg) : Statement (.addsSuc fa fb fc) := decode_flti rfl fa fb fc

theorem subsSuc (fa : Reg) (fb : Reg) (fc : Reg) : Statement (.subsSuc fa fb fc) := decode_flti rfl fa fb fc

theorem mulsSuc (fa : Reg) (fb : Reg) (fc : Reg) : Statement (.mulsSuc fa fb fc) := decode_flti rfl fa fb fc

theorem divsSuc (fa : Reg) (fb : Reg) (fc : Reg) : Statement (.divsSuc fa fb fc) := decode_flti rfl fa fb fc

theorem addtSuc (fa : Reg) (fb : Reg) (fc : Reg) : Statement (.addtSuc fa fb fc) := decode_flti rfl fa fb fc

theorem subtSuc (fa : Reg) (fb : Reg) (fc : Reg) : Statement (.subtSuc fa fb fc) := decode_flti rfl fa fb fc

theorem multSuc (fa : Reg) (fb : Reg) (fc : Reg) : Statement (.multSuc fa fb fc) := decode_flti rfl fa fb fc

theorem divtSuc (fa : Reg) (fb : Reg) (fc : Reg) : Statement (.divtSuc fa fb fc) := decode_flti rfl fa fb fc

theorem cvttsSuc (fa : Reg) (fb : Reg) (fc : Reg) : Statement (.cvttsSuc fa fb fc) := decode_flti rfl fa fb fc

theorem cvttqSvc (fa : Reg) (fb : Reg) (fc : Reg) : Statement (.cvttqSvc fa fb fc) := decode_flti rfl fa fb fc

theorem addsSum (fa : Reg) (fb : Reg) (fc : Reg) : Statement (.addsSum fa fb fc) := decode_flti rfl fa fb fc

theorem subsSum (fa : Reg) (fb : Reg) (fc : Reg) : Statement (.subsSum fa fb fc) := decode_flti rfl fa fb fc

theorem mulsSum (fa : Reg) (fb : Reg) (fc : Reg) : Statement (.mulsSum fa fb fc) := decode_flti rfl fa fb fc

theorem divsSum (fa : Reg) (fb : Reg) (fc : Reg) : Statement (.divsSum fa fb fc) := decode_flti rfl fa fb fc

theorem addtSum (fa : Reg) (fb : Reg) (fc : Reg) : Statement (.addtSum fa fb fc) := decode_flti rfl fa fb fc

theorem subtSum (fa : Reg) (fb : Reg) (fc : Reg) : Statement (.subtSum fa fb fc) := decode_flti rfl fa fb fc

theorem multSum (fa : Reg) (fb : Reg) (fc : Reg) : Statement (.multSum fa fb fc) := decode_flti rfl fa fb fc

theorem divtSum (fa : Reg) (fb : Reg) (fc : Reg) : Statement (.divtSum fa fb fc) := decode_flti rfl fa fb fc

theorem cvttsSum (fa : Reg) (fb : Reg) (fc : Reg) : Statement (.cvttsSum fa fb fc) := decode_flti rfl fa fb fc

theorem cvttqSvm (fa : Reg) (fb : Reg) (fc : Reg) : Statement (.cvttqSvm fa fb fc) := decode_flti rfl fa fb fc

theorem addsSu (fa : Reg) (fb : Reg) (fc : Reg) : Statement (.addsSu fa fb fc) := decode_flti rfl fa fb fc

theorem subsSu (fa : Reg) (fb : Reg) (fc : Reg) : Statement (.subsSu fa fb fc) := decode_flti rfl fa fb fc

theorem mulsSu (fa : Reg) (fb : Reg) (fc : Reg) : Statement (.mulsSu fa fb fc) := decode_flti rfl fa fb fc

theorem divsSu (fa : Reg) (fb : Reg) (fc : Reg) : Statement (.divsSu fa fb fc) := decode_flti rfl fa fb fc

theorem addtSu (fa : Reg) (fb : Reg) (fc : Reg) : Statement (.addtSu fa fb fc) := decode_flti rfl fa fb fc

theorem subtSu (fa : Reg) (fb : Reg) (fc : Reg) : Statement (.subtSu fa fb fc) := decode_flti rfl fa fb fc

theorem multSu (fa : Reg) (fb : Reg) (fc : Reg) : Statement (.multSu fa fb fc) := decode_flti rfl fa fb fc

theorem divtSu (fa : Reg) (fb : Reg) (fc : Reg) : Statement (.divtSu fa fb fc) := decode_flti rfl fa fb fc

theorem cmptunSu (fa : Reg) (fb : Reg) (fc : Reg) : Statement (.cmptunSu fa fb fc) := decode_flti rfl fa fb fc

theorem cmpteqSu (fa : Reg) (fb : Reg) (fc : Reg) : Statement (.cmpteqSu fa fb fc) := decode_flti rfl fa fb fc

theorem cmptltSu (fa : Reg) (fb : Reg) (fc : Reg) : Statement (.cmptltSu fa fb fc) := decode_flti rfl fa fb fc

theorem cmptleSu (fa : Reg) (fb : Reg) (fc : Reg) : Statement (.cmptleSu fa fb fc) := decode_flti rfl fa fb fc

theorem cvttsSu (fa : Reg) (fb : Reg) (fc : Reg) : Statement (.cvttsSu fa fb fc) := decode_flti rfl fa fb fc

theorem cvttqSv (fa : Reg) (fb : Reg) (fc : Reg) : Statement (.cvttqSv fa fb fc) := decode_flti rfl fa fb fc

theorem addsSud (fa : Reg) (fb : Reg) (fc : Reg) : Statement (.addsSud fa fb fc) := decode_flti rfl fa fb fc

theorem subsSud (fa : Reg) (fb : Reg) (fc : Reg) : Statement (.subsSud fa fb fc) := decode_flti rfl fa fb fc

theorem mulsSud (fa : Reg) (fb : Reg) (fc : Reg) : Statement (.mulsSud fa fb fc) := decode_flti rfl fa fb fc

theorem divsSud (fa : Reg) (fb : Reg) (fc : Reg) : Statement (.divsSud fa fb fc) := decode_flti rfl fa fb fc

theorem addtSud (fa : Reg) (fb : Reg) (fc : Reg) : Statement (.addtSud fa fb fc) := decode_flti rfl fa fb fc

theorem subtSud (fa : Reg) (fb : Reg) (fc : Reg) : Statement (.subtSud fa fb fc) := decode_flti rfl fa fb fc

theorem multSud (fa : Reg) (fb : Reg) (fc : Reg) : Statement (.multSud fa fb fc) := decode_flti rfl fa fb fc

theorem divtSud (fa : Reg) (fb : Reg) (fc : Reg) : Statement (.divtSud fa fb fc) := decode_flti rfl fa fb fc

theorem cvttsSud (fa : Reg) (fb : Reg) (fc : Reg) : Statement (.cvttsSud fa fb fc) := decode_flti rfl fa fb fc

theorem cvttqSvd (fa : Reg) (fb : Reg) (fc : Reg) : Statement (.cvttqSvd fa fb fc) := decode_flti rfl fa fb fc

theorem cvtstS (fa : Reg) (fb : Reg) (fc : Reg) : Statement (.cvtstS fa fb fc) := decode_flti rfl fa fb fc

theorem addsSuic (fa : Reg) (fb : Reg) (fc : Reg) : Statement (.addsSuic fa fb fc) := decode_flti rfl fa fb fc

theorem subsSuic (fa : Reg) (fb : Reg) (fc : Reg) : Statement (.subsSuic fa fb fc) := decode_flti rfl fa fb fc

theorem mulsSuic (fa : Reg) (fb : Reg) (fc : Reg) : Statement (.mulsSuic fa fb fc) := decode_flti rfl fa fb fc

theorem divsSuic (fa : Reg) (fb : Reg) (fc : Reg) : Statement (.divsSuic fa fb fc) := decode_flti rfl fa fb fc

theorem addtSuic (fa : Reg) (fb : Reg) (fc : Reg) : Statement (.addtSuic fa fb fc) := decode_flti rfl fa fb fc

theorem subtSuic (fa : Reg) (fb : Reg) (fc : Reg) : Statement (.subtSuic fa fb fc) := decode_flti rfl fa fb fc

theorem multSuic (fa : Reg) (fb : Reg) (fc : Reg) : Statement (.multSuic fa fb fc) := decode_flti rfl fa fb fc

theorem divtSuic (fa : Reg) (fb : Reg) (fc : Reg) : Statement (.divtSuic fa fb fc) := decode_flti rfl fa fb fc

theorem cvttsSuic (fa : Reg) (fb : Reg) (fc : Reg) : Statement (.cvttsSuic fa fb fc) := decode_flti rfl fa fb fc

theorem cvttqSvic (fa : Reg) (fb : Reg) (fc : Reg) : Statement (.cvttqSvic fa fb fc) := decode_flti rfl fa fb fc

theorem cvtqsSuic (fa : Reg) (fb : Reg) (fc : Reg) : Statement (.cvtqsSuic fa fb fc) := decode_flti rfl fa fb fc

theorem cvtqtSuic (fa : Reg) (fb : Reg) (fc : Reg) : Statement (.cvtqtSuic fa fb fc) := decode_flti rfl fa fb fc

theorem addsSuim (fa : Reg) (fb : Reg) (fc : Reg) : Statement (.addsSuim fa fb fc) := decode_flti rfl fa fb fc

theorem subsSuim (fa : Reg) (fb : Reg) (fc : Reg) : Statement (.subsSuim fa fb fc) := decode_flti rfl fa fb fc

theorem mulsSuim (fa : Reg) (fb : Reg) (fc : Reg) : Statement (.mulsSuim fa fb fc) := decode_flti rfl fa fb fc

theorem divsSuim (fa : Reg) (fb : Reg) (fc : Reg) : Statement (.divsSuim fa fb fc) := decode_flti rfl fa fb fc

theorem addtSuim (fa : Reg) (fb : Reg) (fc : Reg) : Statement (.addtSuim fa fb fc) := decode_flti rfl fa fb fc

theorem subtSuim (fa : Reg) (fb : Reg) (fc : Reg) : Statement (.subtSuim fa fb fc) := decode_flti rfl fa fb fc

theorem multSuim (fa : Reg) (fb : Reg) (fc : Reg) : Statement (.multSuim fa fb fc) := decode_flti rfl fa fb fc

theorem divtSuim (fa : Reg) (fb : Reg) (fc : Reg) : Statement (.divtSuim fa fb fc) := decode_flti rfl fa fb fc

theorem cvttsSuim (fa : Reg) (fb : Reg) (fc : Reg) : Statement (.cvttsSuim fa fb fc) := decode_flti rfl fa fb fc

theorem cvttqSvim (fa : Reg) (fb : Reg) (fc : Reg) : Statement (.cvttqSvim fa fb fc) := decode_flti rfl fa fb fc

theorem cvtqsSuim (fa : Reg) (fb : Reg) (fc : Reg) : Statement (.cvtqsSuim fa fb fc) := decode_flti rfl fa fb fc

theorem cvtqtSuim (fa : Reg) (fb : Reg) (fc : Reg) : Statement (.cvtqtSuim fa fb fc) := decode_flti rfl fa fb fc

theorem addsSui (fa : Reg) (fb : Reg) (fc : Reg) : Statement (.addsSui fa fb fc) := decode_flti rfl fa fb fc

theorem subsSui (fa : Reg) (fb : Reg) (fc : Reg) : Statement (.subsSui fa fb fc) := decode_flti rfl fa fb fc

theorem mulsSui (fa : Reg) (fb : Reg) (fc : Reg) : Statement (.mulsSui fa fb fc) := decode_flti rfl fa fb fc

theorem divsSui (fa : Reg) (fb : Reg) (fc : Reg) : Statement (.divsSui fa fb fc) := decode_flti rfl fa fb fc

theorem addtSui (fa : Reg) (fb : Reg) (fc : Reg) : Statement (.addtSui fa fb fc) := decode_flti rfl fa fb fc

theorem subtSui (fa : Reg) (fb : Reg) (fc : Reg) : Statement (.subtSui fa fb fc) := decode_flti rfl fa fb fc

theorem multSui (fa : Reg) (fb : Reg) (fc : Reg) : Statement (.multSui fa fb fc) := decode_flti rfl fa fb fc

theorem divtSui (fa : Reg) (fb : Reg) (fc : Reg) : Statement (.divtSui fa fb fc) := decode_flti rfl fa fb fc

theorem cvttsSui (fa : Reg) (fb : Reg) (fc : Reg) : Statement (.cvttsSui fa fb fc) := decode_flti rfl fa fb fc

theorem cvttqSvi (fa : Reg) (fb : Reg) (fc : Reg) : Statement (.cvttqSvi fa fb fc) := decode_flti rfl fa fb fc

theorem cvtqsSui (fa : Reg) (fb : Reg) (fc : Reg) : Statement (.cvtqsSui fa fb fc) := decode_flti rfl fa fb fc

theorem cvtqtSui (fa : Reg) (fb : Reg) (fc : Reg) : Statement (.cvtqtSui fa fb fc) := decode_flti rfl fa fb fc

theorem addsSuid (fa : Reg) (fb : Reg) (fc : Reg) : Statement (.addsSuid fa fb fc) := decode_flti rfl fa fb fc

theorem subsSuid (fa : Reg) (fb : Reg) (fc : Reg) : Statement (.subsSuid fa fb fc) := decode_flti rfl fa fb fc

theorem mulsSuid (fa : Reg) (fb : Reg) (fc : Reg) : Statement (.mulsSuid fa fb fc) := decode_flti rfl fa fb fc

theorem divsSuid (fa : Reg) (fb : Reg) (fc : Reg) : Statement (.divsSuid fa fb fc) := decode_flti rfl fa fb fc

theorem addtSuid (fa : Reg) (fb : Reg) (fc : Reg) : Statement (.addtSuid fa fb fc) := decode_flti rfl fa fb fc

theorem subtSuid (fa : Reg) (fb : Reg) (fc : Reg) : Statement (.subtSuid fa fb fc) := decode_flti rfl fa fb fc

theorem multSuid (fa : Reg) (fb : Reg) (fc : Reg) : Statement (.multSuid fa fb fc) := decode_flti rfl fa fb fc

theorem divtSuid (fa : Reg) (fb : Reg) (fc : Reg) : Statement (.divtSuid fa fb fc) := decode_flti rfl fa fb fc

theorem cvttsSuid (fa : Reg) (fb : Reg) (fc : Reg) : Statement (.cvttsSuid fa fb fc) := decode_flti rfl fa fb fc

theorem cvttqSvid (fa : Reg) (fb : Reg) (fc : Reg) : Statement (.cvttqSvid fa fb fc) := decode_flti rfl fa fb fc

theorem cvtqsSuid (fa : Reg) (fb : Reg) (fc : Reg) : Statement (.cvtqsSuid fa fb fc) := decode_flti rfl fa fb fc

theorem cvtqtSuid (fa : Reg) (fb : Reg) (fc : Reg) : Statement (.cvtqtSuid fa fb fc) := decode_flti rfl fa fb fc

theorem cvtlq (fa : Reg) (fb : Reg) (fc : Reg) : Statement (.cvtlq fa fb fc) := decode_fltl rfl fa fb fc

theorem cpys (fa : Reg) (fb : Reg) (fc : Reg) : Statement (.cpys fa fb fc) := decode_fltl rfl fa fb fc

theorem cpysn (fa : Reg) (fb : Reg) (fc : Reg) : Statement (.cpysn fa fb fc) := decode_fltl rfl fa fb fc

theorem cpyse (fa : Reg) (fb : Reg) (fc : Reg) : Statement (.cpyse fa fb fc) := decode_fltl rfl fa fb fc

theorem mtFpcr (fa : Reg) (fb : Reg) (fc : Reg) : Statement (.mtFpcr fa fb fc) := decode_fltl rfl fa fb fc

theorem mfFpcr (fa : Reg) (fb : Reg) (fc : Reg) : Statement (.mfFpcr fa fb fc) := decode_fltl rfl fa fb fc

theorem fcmoveq (fa : Reg) (fb : Reg) (fc : Reg) : Statement (.fcmoveq fa fb fc) := decode_fltl rfl fa fb fc

theorem fcmovne (fa : Reg) (fb : Reg) (fc : Reg) : Statement (.fcmovne fa fb fc) := decode_fltl rfl fa fb fc

theorem fcmovlt (fa : Reg) (fb : Reg) (fc : Reg) : Statement (.fcmovlt fa fb fc) := decode_fltl rfl fa fb fc

theorem fcmovge (fa : Reg) (fb : Reg) (fc : Reg) : Statement (.fcmovge fa fb fc) := decode_fltl rfl fa fb fc

theorem fcmovle (fa : Reg) (fb : Reg) (fc : Reg) : Statement (.fcmovle fa fb fc) := decode_fltl rfl fa fb fc

theorem fcmovgt (fa : Reg) (fb : Reg) (fc : Reg) : Statement (.fcmovgt fa fb fc) := decode_fltl rfl fa fb fc

theorem cvtql (fa : Reg) (fb : Reg) (fc : Reg) : Statement (.cvtql fa fb fc) := decode_fltl rfl fa fb fc

theorem cvtqlV (fa : Reg) (fb : Reg) (fc : Reg) : Statement (.cvtqlV fa fb fc) := decode_fltl rfl fa fb fc

theorem cvtqlSv (fa : Reg) (fb : Reg) (fc : Reg) : Statement (.cvtqlSv fa fb fc) := decode_fltl rfl fa fb fc

theorem trapb (ra : Reg) (rb : Reg) : Statement (.trapb ra rb) := decode_misc rfl ra rb

theorem excb (ra : Reg) (rb : Reg) : Statement (.excb ra rb) := decode_misc rfl ra rb

theorem mb (ra : Reg) (rb : Reg) : Statement (.mb ra rb) := decode_misc rfl ra rb

theorem wmb (ra : Reg) (rb : Reg) : Statement (.wmb ra rb) := decode_misc rfl ra rb

theorem fetch (ra : Reg) (rb : Reg) : Statement (.fetch ra rb) := decode_misc rfl ra rb

theorem fetchM (ra : Reg) (rb : Reg) : Statement (.fetchM ra rb) := decode_misc rfl ra rb

theorem rpcc (ra : Reg) (rb : Reg) : Statement (.rpcc ra rb) := decode_misc rfl ra rb

theorem rc (ra : Reg) (rb : Reg) : Statement (.rc ra rb) := decode_misc rfl ra rb

theorem ecb (ra : Reg) (rb : Reg) : Statement (.ecb ra rb) := decode_misc rfl ra rb

theorem rs (ra : Reg) (rb : Reg) : Statement (.rs ra rb) := decode_misc rfl ra rb

theorem wh64 (ra : Reg) (rb : Reg) : Statement (.wh64 ra rb) := decode_misc rfl ra rb

theorem hwMfpr (ra : Reg) (rb : Reg) (index : BitVec 8) (scbd : BitVec 8) : Statement (.hwMfpr ra rb index scbd) := by
  change decode (packHwIpr _ _ _ _ _) = _; delta decode; rw [opcodeOf_packHwIpr]; exact decodeHwIpr_packHwIpr .hwMfpr 0x19 ra rb index scbd

theorem hwLd (ra : Reg) (rb : Reg) (ty : BitVec 3) (len : BitVec 1) (disp : BitVec 12) : Statement (.hwLd ra rb ty len disp) := by
  change decode (packHwMem _ _ _ _ _ _) = _; delta decode; rw [opcodeOf_packHwMem]; exact decodeHwMem_packHwMem .hwLd 0x1B ra rb ty len disp

theorem hwMtpr (ra : Reg) (rb : Reg) (index : BitVec 8) (scbd : BitVec 8) : Statement (.hwMtpr ra rb index scbd) := by
  change decode (packHwIpr _ _ _ _ _) = _; delta decode; rw [opcodeOf_packHwIpr]; exact decodeHwIpr_packHwIpr .hwMtpr 0x1D ra rb index scbd

theorem hwRet (ra : Reg) (rb : Reg) (hint : BitVec 2) (stall : BitVec 1) (disp : BitVec 13) :
    Statement (.hwRet ra rb hint stall disp) := by
  change decode (packHwRet _ _ _ _ _) = _; delta decode; rw [opcodeOf_packHwRet]; exact decodeHwRet_packHwRet ra rb hint stall disp

theorem hwSt (ra : Reg) (rb : Reg) (ty : BitVec 3) (len : BitVec 1) (disp : BitVec 12) : Statement (.hwSt ra rb ty len disp) := by
  change decode (packHwMem _ _ _ _ _ _) = _; delta decode; rw [opcodeOf_packHwMem]; exact decodeHwMem_packHwMem .hwSt 0x1F ra rb ty len disp

end Sys2Proof.Laws.RoundTrip
end

