-- ==== Sys2Proof/Tests/Slice0.lean ====
section
/-! SUPPORT. Tests: ill-formed terms that are refused, one decoded word for every constructor, witnesses for the hypotheses of the
statements, and single steps whose results are calculated by hand from the rules of spec/. -/

set_option maxRecDepth 20000

namespace Sys2Proof.Tests

open Sys2Proof Sys2Proof.Machine

/-! ### Decoding (the words have A = 7, B = 21, C = 12; an odd pattern in every displacement) -/

/-- Words written from the tables of spec/30_encoding.md: CALL_PAL and the reserved opcodes (R336, R341). -/
theorem test_decode_callPal_and_reserved : ([
    (0x02A3C5B6, .callPal 0x2A3C5B6), (0x06A3C5B6, .opc01 0x2A3C5B6), (0x0AA3C5B6, .opc02 0x2A3C5B6),
    (0x0EA3C5B6, .opc03 0x2A3C5B6), (0x12A3C5B6, .opc04 0x2A3C5B6), (0x16A3C5B6, .opc05 0x2A3C5B6),
    (0x1AA3C5B6, .opc06 0x2A3C5B6), (0x1EA3C5B6, .opc07 0x2A3C5B6)] : List (BitVec 32 × Instr)).all (fun p => decide (decode p.1 = .ok p.2)) = true := by
  decide

/-- Words written from the tables of spec/30_encoding.md: the Mem format (R331). -/
theorem test_decode_memory : ([
    (0x20F58C5A, .lda 7 21 0x8C5A), (0x24F58C5A, .ldah 7 21 0x8C5A), (0x28F58C5A, .ldbu 7 21 0x8C5A),
    (0x2CF58C5A, .ldqU 7 21 0x8C5A), (0x30F58C5A, .ldwu 7 21 0x8C5A), (0x34F58C5A, .stw 7 21 0x8C5A),
    (0x38F58C5A, .stb 7 21 0x8C5A), (0x3CF58C5A, .stqU 7 21 0x8C5A), (0x80F58C5A, .ldf 7 21 0x8C5A),
    (0x84F58C5A, .ldg 7 21 0x8C5A), (0x88F58C5A, .lds 7 21 0x8C5A), (0x8CF58C5A, .ldt 7 21 0x8C5A),
    (0x90F58C5A, .stf 7 21 0x8C5A), (0x94F58C5A, .stg 7 21 0x8C5A), (0x98F58C5A, .sts 7 21 0x8C5A),
    (0x9CF58C5A, .stt 7 21 0x8C5A), (0xA0F58C5A, .ldl 7 21 0x8C5A), (0xA4F58C5A, .ldq 7 21 0x8C5A),
    (0xA8F58C5A, .ldlL 7 21 0x8C5A), (0xACF58C5A, .ldqL 7 21 0x8C5A), (0xB0F58C5A, .stl 7 21 0x8C5A),
    (0xB4F58C5A, .stq 7 21 0x8C5A), (0xB8F58C5A, .stlC 7 21 0x8C5A), (0xBCF58C5A, .stqC 7 21 0x8C5A)] : List (BitVec 32 × Instr)).all (fun p => decide (decode p.1 = .ok p.2)) = true := by
  decide

/-- Words written from the tables of spec/30_encoding.md: the Bra and Mbr formats (R332). -/
theorem test_decode_branches : ([
    (0xC0FA3C5B, .br 7 0x1A3C5B), (0xC4FA3C5B, .fbeq 7 0x1A3C5B), (0xC8FA3C5B, .fblt 7 0x1A3C5B),
    (0xCCFA3C5B, .fble 7 0x1A3C5B), (0xD0FA3C5B, .bsr 7 0x1A3C5B), (0xD4FA3C5B, .fbne 7 0x1A3C5B),
    (0xD8FA3C5B, .fbge 7 0x1A3C5B), (0xDCFA3C5B, .fbgt 7 0x1A3C5B), (0xE0FA3C5B, .blbc 7 0x1A3C5B),
    (0xE4FA3C5B, .beq 7 0x1A3C5B), (0xE8FA3C5B, .blt 7 0x1A3C5B), (0xECFA3C5B, .ble 7 0x1A3C5B), (0xF0FA3C5B, .blbs 7 0x1A3C5B),
    (0xF4FA3C5B, .bne 7 0x1A3C5B), (0xF8FA3C5B, .bge 7 0x1A3C5B), (0xFCFA3C5B, .bgt 7 0x1A3C5B), (0x68F52C5A, .jmp 7 21 0x2C5A),
    (0x68F56C5A, .jsr 7 21 0x2C5A), (0x68F5AC5A, .ret 7 21 0x2C5A), (0x68F5EC5A, .jsrCoroutine 7 21 0x2C5A)] : List (BitVec 32 × Instr)).all (fun p => decide (decode p.1 = .ok p.2)) = true := by
  decide

/-- Words written from the tables of spec/30_encoding.md: the Opr format (R333, Table A-2). -/
theorem test_decode_integerOperates_1 : ([
    (0x40F5000C, .addl 7 (.reg 21) 12), (0x40F5004C, .s4addl 7 (.reg 21) 12), (0x40F5012C, .subl 7 (.reg 21) 12),
    (0x40F5016C, .s4subl 7 (.reg 21) 12), (0x40F501EC, .cmpbge 7 (.reg 21) 12), (0x40F5024C, .s8addl 7 (.reg 21) 12),
    (0x40F5036C, .s8subl 7 (.reg 21) 12), (0x40F503AC, .cmpult 7 (.reg 21) 12), (0x40F5040C, .addq 7 (.reg 21) 12),
    (0x40F6D44C, .s4addq 7 (.lit 0xB6) 12), (0x40F5052C, .subq 7 (.reg 21) 12), (0x40F6D56C, .s4subq 7 (.lit 0xB6) 12),
    (0x40F505AC, .cmpeq 7 (.reg 21) 12), (0x40F5064C, .s8addq 7 (.reg 21) 12), (0x40F5076C, .s8subq 7 (.reg 21) 12),
    (0x40F6D7AC, .cmpule 7 (.lit 0xB6) 12), (0x40F6D80C, .addlV 7 (.lit 0xB6) 12), (0x40F6D92C, .sublV 7 (.lit 0xB6) 12),
    (0x40F509AC, .cmplt 7 (.reg 21) 12), (0x40F50C0C, .addqV 7 (.reg 21) 12), (0x40F50D2C, .subqV 7 (.reg 21) 12),
    (0x40F6DDAC, .cmple 7 (.lit 0xB6) 12), (0x44F5000C, .and 7 (.reg 21) 12), (0x44F5010C, .bic 7 (.reg 21) 12),
    (0x44F5028C, .cmovlbs 7 (.reg 21) 12), (0x44F6D2CC, .cmovlbc 7 (.lit 0xB6) 12), (0x44F5040C, .bis 7 (.reg 21) 12),
    (0x44F5048C, .cmoveq 7 (.reg 21) 12), (0x44F504CC, .cmovne 7 (.reg 21) 12), (0x44F6D50C, .ornot 7 (.lit 0xB6) 12),
    (0x44F6D80C, .xor 7 (.lit 0xB6) 12), (0x44F5088C, .cmovlt 7 (.reg 21) 12), (0x44F6D8CC, .cmovge 7 (.lit 0xB6) 12),
    (0x44F5090C, .eqv 7 (.reg 21) 12), (0x44F6DC2C, .amask 7 (.lit 0xB6) 12), (0x44F6DC8C, .cmovle 7 (.lit 0xB6) 12),
    (0x44F50CCC, .cmovgt 7 (.reg 21) 12), (0x44F50D8C, .implver 7 (.reg 21) 12), (0x48F5004C, .mskbl 7 (.reg 21) 12),
    (0x48F500CC, .extbl 7 (.reg 21) 12), (0x48F5016C, .insbl 7 (.reg 21) 12), (0x48F5024C, .mskwl 7 (.reg 21) 12),
    (0x48F6D2CC, .extwl 7 (.lit 0xB6) 12)] : List (BitVec 32 × Instr)).all (fun p => decide (decode p.1 = .ok p.2)) = true := by
  decide

/-- Words written from the tables of spec/30_encoding.md: the Opr format (R333, Table A-2). -/
theorem test_decode_integerOperates_2 : ([
    (0x48F5036C, .inswl 7 (.reg 21) 12), (0x48F6D44C, .mskll 7 (.lit 0xB6) 12), (0x48F504CC, .extll 7 (.reg 21) 12),
    (0x48F6D56C, .insll 7 (.lit 0xB6) 12), (0x48F5060C, .zap 7 (.reg 21) 12), (0x48F6D62C, .zapnot 7 (.lit 0xB6) 12),
    (0x48F5064C, .mskql 7 (.reg 21) 12), (0x48F6D68C, .srl 7 (.lit 0xB6) 12), (0x48F506CC, .extql 7 (.reg 21) 12),
    (0x48F5072C, .sll 7 (.reg 21) 12), (0x48F5076C, .insql 7 (.reg 21) 12), (0x48F5078C, .sra 7 (.reg 21) 12),
    (0x48F6DA4C, .mskwh 7 (.lit 0xB6) 12), (0x48F50AEC, .inswh 7 (.reg 21) 12), (0x48F50B4C, .extwh 7 (.reg 21) 12),
    (0x48F50C4C, .msklh 7 (.reg 21) 12), (0x48F6DCEC, .inslh 7 (.lit 0xB6) 12), (0x48F6DD4C, .extlh 7 (.lit 0xB6) 12),
    (0x48F50E4C, .mskqh 7 (.reg 21) 12), (0x48F50EEC, .insqh 7 (.reg 21) 12), (0x48F50F4C, .extqh 7 (.reg 21) 12),
    (0x4CF5000C, .mull 7 (.reg 21) 12), (0x4CF5040C, .mulq 7 (.reg 21) 12), (0x4CF5060C, .umulh 7 (.reg 21) 12),
    (0x4CF6D80C, .mullV 7 (.lit 0xB6) 12), (0x4CF50C0C, .mulqV 7 (.reg 21) 12), (0x70F5000C, .sextb 7 (.reg 21) 12),
    (0x70F6D02C, .sextw 7 (.lit 0xB6) 12), (0x70F5060C, .ctpop 7 (.reg 21) 12), (0x70F6D62C, .perr 7 (.lit 0xB6) 12),
    (0x70F5064C, .ctlz 7 (.reg 21) 12), (0x70F5066C, .cttz 7 (.reg 21) 12), (0x70F6D68C, .unpkbw 7 (.lit 0xB6) 12),
    (0x70F506AC, .unpkbl 7 (.reg 21) 12), (0x70F506CC, .pkwb 7 (.reg 21) 12), (0x70F6D6EC, .pklb 7 (.lit 0xB6) 12),
    (0x70F5070C, .minsb8 7 (.reg 21) 12), (0x70F5072C, .minsw4 7 (.reg 21) 12), (0x70F6D74C, .minub8 7 (.lit 0xB6) 12),
    (0x70F5076C, .minuw4 7 (.reg 21) 12), (0x70F5078C, .maxub8 7 (.reg 21) 12), (0x70F6D7AC, .maxuw4 7 (.lit 0xB6) 12),
    (0x70F507CC, .maxsb8 7 (.reg 21) 12), (0x70F507EC, .maxsw4 7 (.reg 21) 12)] : List (BitVec 32 × Instr)).all (fun p => decide (decode p.1 = .ok p.2)) = true := by
  decide

/-- Words written from the tables of spec/30_encoding.md: ITOFx and FTOIx (R334). -/
theorem test_decode_registerMoves : ([
    (0x70F50E0C, .ftoit 7 21 12), (0x70F50F0C, .ftois 7 21 12), (0x50F5008C, .itofs 7 21 12), (0x50F5028C, .itoff 7 21 12),
    (0x50F5048C, .itoft 7 21 12)] : List (BitVec 32 × Instr)).all (fun p => decide (decode p.1 = .ok p.2)) = true := by
  decide

/-- Words written from the tables of spec/30_encoding.md: opcode 14 (R334). -/
theorem test_decode_sqrt_1 : ([
    (0x50F5014C, .sqrtfC 7 21 12), (0x50F5016C, .sqrtsC 7 21 12), (0x50F5054C, .sqrtgC 7 21 12), (0x50F5056C, .sqrttC 7 21 12),
    (0x50F5096C, .sqrtsM 7 21 12), (0x50F50D6C, .sqrttM 7 21 12), (0x50F5114C, .sqrtf 7 21 12), (0x50F5116C, .sqrts 7 21 12),
    (0x50F5154C, .sqrtg 7 21 12), (0x50F5156C, .sqrtt 7 21 12), (0x50F5196C, .sqrtsD 7 21 12), (0x50F51D6C, .sqrttD 7 21 12),
    (0x50F5214C, .sqrtfUc 7 21 12), (0x50F5216C, .sqrtsUc 7 21 12), (0x50F5254C, .sqrtgUc 7 21 12),
    (0x50F5256C, .sqrttUc 7 21 12), (0x50F5296C, .sqrtsUm 7 21 12), (0x50F52D6C, .sqrttUm 7 21 12),
    (0x50F5314C, .sqrtfU 7 21 12), (0x50F5316C, .sqrtsU 7 21 12), (0x50F5354C, .sqrtgU 7 21 12), (0x50F5356C, .sqrttU 7 21 12),
    (0x50F5396C, .sqrtsUd 7 21 12), (0x50F53D6C, .sqrttUd 7 21 12)] : List (BitVec 32 × Instr)).all (fun p => decide (decode p.1 = .ok p.2)) = true := by
  decide

/-- Words written from the tables of spec/30_encoding.md: opcode 14 (R334). -/
theorem test_decode_sqrt_2 : ([
    (0x50F5814C, .sqrtfSc 7 21 12), (0x50F5854C, .sqrtgSc 7 21 12), (0x50F5914C, .sqrtfS 7 21 12),
    (0x50F5954C, .sqrtgS 7 21 12), (0x50F5A14C, .sqrtfSuc 7 21 12), (0x50F5A16C, .sqrtsSuc 7 21 12),
    (0x50F5A54C, .sqrtgSuc 7 21 12), (0x50F5A56C, .sqrttSuc 7 21 12), (0x50F5A96C, .sqrtsSum 7 21 12),
    (0x50F5AD6C, .sqrttSum 7 21 12), (0x50F5B14C, .sqrtfSu 7 21 12), (0x50F5B16C, .sqrtsSu 7 21 12),
    (0x50F5B54C, .sqrtgSu 7 21 12), (0x50F5B56C, .sqrttSu 7 21 12), (0x50F5B96C, .sqrtsSud 7 21 12),
    (0x50F5BD6C, .sqrttSud 7 21 12), (0x50F5E16C, .sqrtsSuic 7 21 12), (0x50F5E56C, .sqrttSuic 7 21 12),
    (0x50F5E96C, .sqrtsSuim 7 21 12), (0x50F5ED6C, .sqrttSuim 7 21 12), (0x50F5F16C, .sqrtsSui 7 21 12),
    (0x50F5F56C, .sqrttSui 7 21 12), (0x50F5F96C, .sqrtsSuid 7 21 12), (0x50F5FD6C, .sqrttSuid 7 21 12)] : List (BitVec 32 × Instr)).all (fun p => decide (decode p.1 = .ok p.2)) = true := by
  decide

/-- Words written from the tables of spec/30_encoding.md: opcode 15 (R334, Table A-5). -/
theorem test_decode_vax_1 : ([
    (0x54F5000C, .addfC 7 21 12), (0x54F5002C, .subfC 7 21 12), (0x54F5004C, .mulfC 7 21 12), (0x54F5006C, .divfC 7 21 12),
    (0x54F503CC, .cvtdgC 7 21 12), (0x54F5040C, .addgC 7 21 12), (0x54F5042C, .subgC 7 21 12), (0x54F5044C, .mulgC 7 21 12),
    (0x54F5046C, .divgC 7 21 12), (0x54F5058C, .cvtgfC 7 21 12), (0x54F505AC, .cvtgdC 7 21 12), (0x54F505EC, .cvtgqC 7 21 12),
    (0x54F5078C, .cvtqfC 7 21 12), (0x54F507CC, .cvtqgC 7 21 12), (0x54F5100C, .addf 7 21 12), (0x54F5102C, .subf 7 21 12),
    (0x54F5104C, .mulf 7 21 12), (0x54F5106C, .divf 7 21 12), (0x54F513CC, .cvtdg 7 21 12), (0x54F5140C, .addg 7 21 12),
    (0x54F5142C, .subg 7 21 12), (0x54F5144C, .mulg 7 21 12), (0x54F5146C, .divg 7 21 12), (0x54F514AC, .cmpgeq 7 21 12),
    (0x54F514CC, .cmpglt 7 21 12), (0x54F514EC, .cmpgle 7 21 12), (0x54F5158C, .cvtgf 7 21 12), (0x54F515AC, .cvtgd 7 21 12),
    (0x54F515EC, .cvtgq 7 21 12), (0x54F5178C, .cvtqf 7 21 12), (0x54F517CC, .cvtqg 7 21 12), (0x54F5200C, .addfUc 7 21 12),
    (0x54F5202C, .subfUc 7 21 12), (0x54F5204C, .mulfUc 7 21 12), (0x54F5206C, .divfUc 7 21 12)] : List (BitVec 32 × Instr)).all (fun p => decide (decode p.1 = .ok p.2)) = true := by
  decide

/-- Words written from the tables of spec/30_encoding.md: opcode 15 (R334, Table A-5). -/
theorem test_decode_vax_2 : ([
    (0x54F523CC, .cvtdgUc 7 21 12), (0x54F5240C, .addgUc 7 21 12), (0x54F5242C, .subgUc 7 21 12), (0x54F5244C, .mulgUc 7 21 12),
    (0x54F5246C, .divgUc 7 21 12), (0x54F5258C, .cvtgfUc 7 21 12), (0x54F525AC, .cvtgdUc 7 21 12),
    (0x54F525EC, .cvtgqVc 7 21 12), (0x54F5300C, .addfU 7 21 12), (0x54F5302C, .subfU 7 21 12), (0x54F5304C, .mulfU 7 21 12),
    (0x54F5306C, .divfU 7 21 12), (0x54F533CC, .cvtdgU 7 21 12), (0x54F5340C, .addgU 7 21 12), (0x54F5342C, .subgU 7 21 12),
    (0x54F5344C, .mulgU 7 21 12), (0x54F5346C, .divgU 7 21 12), (0x54F5358C, .cvtgfU 7 21 12), (0x54F535AC, .cvtgdU 7 21 12),
    (0x54F535EC, .cvtgqV 7 21 12), (0x54F5800C, .addfSc 7 21 12), (0x54F5802C, .subfSc 7 21 12), (0x54F5804C, .mulfSc 7 21 12),
    (0x54F5806C, .divfSc 7 21 12), (0x54F583CC, .cvtdgSc 7 21 12), (0x54F5840C, .addgSc 7 21 12), (0x54F5842C, .subgSc 7 21 12),
    (0x54F5844C, .mulgSc 7 21 12), (0x54F5846C, .divgSc 7 21 12), (0x54F5858C, .cvtgfSc 7 21 12),
    (0x54F585AC, .cvtgdSc 7 21 12), (0x54F585EC, .cvtgqSc 7 21 12), (0x54F5900C, .addfS 7 21 12), (0x54F5902C, .subfS 7 21 12),
    (0x54F5904C, .mulfS 7 21 12)] : List (BitVec 32 × Instr)).all (fun p => decide (decode p.1 = .ok p.2)) = true := by
  decide

/-- Words written from the tables of spec/30_encoding.md: opcode 15 (R334, Table A-5). -/
theorem test_decode_vax_3 : ([
    (0x54F5906C, .divfS 7 21 12), (0x54F593CC, .cvtdgS 7 21 12), (0x54F5940C, .addgS 7 21 12), (0x54F5942C, .subgS 7 21 12),
    (0x54F5944C, .mulgS 7 21 12), (0x54F5946C, .divgS 7 21 12), (0x54F594AC, .cmpgeqS 7 21 12), (0x54F594CC, .cmpgltS 7 21 12),
    (0x54F594EC, .cmpgleS 7 21 12), (0x54F5958C, .cvtgfS 7 21 12), (0x54F595AC, .cvtgdS 7 21 12), (0x54F595EC, .cvtgqS 7 21 12),
    (0x54F5A00C, .addfSuc 7 21 12), (0x54F5A02C, .subfSuc 7 21 12), (0x54F5A04C, .mulfSuc 7 21 12),
    (0x54F5A06C, .divfSuc 7 21 12), (0x54F5A3CC, .cvtdgSuc 7 21 12), (0x54F5A40C, .addgSuc 7 21 12),
    (0x54F5A42C, .subgSuc 7 21 12), (0x54F5A44C, .mulgSuc 7 21 12), (0x54F5A46C, .divgSuc 7 21 12),
    (0x54F5A58C, .cvtgfSuc 7 21 12), (0x54F5A5AC, .cvtgdSuc 7 21 12), (0x54F5A5EC, .cvtgqSvc 7 21 12),
    (0x54F5B00C, .addfSu 7 21 12), (0x54F5B02C, .subfSu 7 21 12), (0x54F5B04C, .mulfSu 7 21 12), (0x54F5B06C, .divfSu 7 21 12),
    (0x54F5B3CC, .cvtdgSu 7 21 12), (0x54F5B40C, .addgSu 7 21 12), (0x54F5B42C, .subgSu 7 21 12), (0x54F5B44C, .mulgSu 7 21 12),
    (0x54F5B46C, .divgSu 7 21 12), (0x54F5B58C, .cvtgfSu 7 21 12), (0x54F5B5AC, .cvtgdSu 7 21 12),
    (0x54F5B5EC, .cvtgqSv 7 21 12)] : List (BitVec 32 × Instr)).all (fun p => decide (decode p.1 = .ok p.2)) = true := by
  decide

/-- Words written from the tables of spec/30_encoding.md: opcode 16 (R334, Table A-6). -/
theorem test_decode_ieee_1 : ([
    (0x58F5000C, .addsC 7 21 12), (0x58F5002C, .subsC 7 21 12), (0x58F5004C, .mulsC 7 21 12), (0x58F5006C, .divsC 7 21 12),
    (0x58F5040C, .addtC 7 21 12), (0x58F5042C, .subtC 7 21 12), (0x58F5044C, .multC 7 21 12), (0x58F5046C, .divtC 7 21 12),
    (0x58F5058C, .cvttsC 7 21 12), (0x58F505EC, .cvttqC 7 21 12), (0x58F5078C, .cvtqsC 7 21 12), (0x58F507CC, .cvtqtC 7 21 12),
    (0x58F5080C, .addsM 7 21 12), (0x58F5082C, .subsM 7 21 12), (0x58F5084C, .mulsM 7 21 12), (0x58F5086C, .divsM 7 21 12),
    (0x58F50C0C, .addtM 7 21 12), (0x58F50C2C, .subtM 7 21 12), (0x58F50C4C, .multM 7 21 12), (0x58F50C6C, .divtM 7 21 12),
    (0x58F50D8C, .cvttsM 7 21 12), (0x58F50DEC, .cvttqM 7 21 12), (0x58F50F8C, .cvtqsM 7 21 12), (0x58F50FCC, .cvtqtM 7 21 12),
    (0x58F5100C, .adds 7 21 12), (0x58F5102C, .subs 7 21 12), (0x58F5104C, .muls 7 21 12), (0x58F5106C, .divs 7 21 12),
    (0x58F5140C, .addt 7 21 12), (0x58F5142C, .subt 7 21 12), (0x58F5144C, .mult 7 21 12), (0x58F5146C, .divt 7 21 12),
    (0x58F5148C, .cmptun 7 21 12), (0x58F514AC, .cmpteq 7 21 12), (0x58F514CC, .cmptlt 7 21 12), (0x58F514EC, .cmptle 7 21 12),
    (0x58F5158C, .cvtts 7 21 12)] : List (BitVec 32 × Instr)).all (fun p => decide (decode p.1 = .ok p.2)) = true := by
  decide

/-- Words written from the tables of spec/30_encoding.md: opcode 16 (R334, Table A-6). -/
theorem test_decode_ieee_2 : ([
    (0x58F515EC, .cvttq 7 21 12), (0x58F5178C, .cvtqs 7 21 12), (0x58F517CC, .cvtqt 7 21 12), (0x58F5180C, .addsD 7 21 12),
    (0x58F5182C, .subsD 7 21 12), (0x58F5184C, .mulsD 7 21 12), (0x58F5186C, .divsD 7 21 12), (0x58F51C0C, .addtD 7 21 12),
    (0x58F51C2C, .subtD 7 21 12), (0x58F51C4C, .multD 7 21 12), (0x58F51C6C, .divtD 7 21 12), (0x58F51D8C, .cvttsD 7 21 12),
    (0x58F51DEC, .cvttqD 7 21 12), (0x58F51F8C, .cvtqsD 7 21 12), (0x58F51FCC, .cvtqtD 7 21 12), (0x58F5200C, .addsUc 7 21 12),
    (0x58F5202C, .subsUc 7 21 12), (0x58F5204C, .mulsUc 7 21 12), (0x58F5206C, .divsUc 7 21 12), (0x58F5240C, .addtUc 7 21 12),
    (0x58F5242C, .subtUc 7 21 12), (0x58F5244C, .multUc 7 21 12), (0x58F5246C, .divtUc 7 21 12), (0x58F5258C, .cvttsUc 7 21 12),
    (0x58F525EC, .cvttqVc 7 21 12), (0x58F5280C, .addsUm 7 21 12), (0x58F5282C, .subsUm 7 21 12), (0x58F5284C, .mulsUm 7 21 12),
    (0x58F5286C, .divsUm 7 21 12), (0x58F52C0C, .addtUm 7 21 12), (0x58F52C2C, .subtUm 7 21 12), (0x58F52C4C, .multUm 7 21 12),
    (0x58F52C6C, .divtUm 7 21 12), (0x58F52D8C, .cvttsUm 7 21 12), (0x58F52DEC, .cvttqVm 7 21 12), (0x58F5300C, .addsU 7 21 12),
    (0x58F5302C, .subsU 7 21 12)] : List (BitVec 32 × Instr)).all (fun p => decide (decode p.1 = .ok p.2)) = true := by
  decide

/-- Words written from the tables of spec/30_encoding.md: opcode 16 (R334, Table A-6). -/
theorem test_decode_ieee_3 : ([
    (0x58F5304C, .mulsU 7 21 12), (0x58F5306C, .divsU 7 21 12), (0x58F5340C, .addtU 7 21 12), (0x58F5342C, .subtU 7 21 12),
    (0x58F5344C, .multU 7 21 12), (0x58F5346C, .divtU 7 21 12), (0x58F5358C, .cvttsU 7 21 12), (0x58F535EC, .cvttqV 7 21 12),
    (0x58F5380C, .addsUd 7 21 12), (0x58F5382C, .subsUd 7 21 12), (0x58F5384C, .mulsUd 7 21 12), (0x58F5386C, .divsUd 7 21 12),
    (0x58F53C0C, .addtUd 7 21 12), (0x58F53C2C, .subtUd 7 21 12), (0x58F53C4C, .multUd 7 21 12), (0x58F53C6C, .divtUd 7 21 12),
    (0x58F53D8C, .cvttsUd 7 21 12), (0x58F53DEC, .cvttqVd 7 21 12), (0x58F5558C, .cvtst 7 21 12),
    (0x58F5A00C, .addsSuc 7 21 12), (0x58F5A02C, .subsSuc 7 21 12), (0x58F5A04C, .mulsSuc 7 21 12),
    (0x58F5A06C, .divsSuc 7 21 12), (0x58F5A40C, .addtSuc 7 21 12), (0x58F5A42C, .subtSuc 7 21 12),
    (0x58F5A44C, .multSuc 7 21 12), (0x58F5A46C, .divtSuc 7 21 12), (0x58F5A58C, .cvttsSuc 7 21 12),
    (0x58F5A5EC, .cvttqSvc 7 21 12), (0x58F5A80C, .addsSum 7 21 12), (0x58F5A82C, .subsSum 7 21 12),
    (0x58F5A84C, .mulsSum 7 21 12), (0x58F5A86C, .divsSum 7 21 12), (0x58F5AC0C, .addtSum 7 21 12),
    (0x58F5AC2C, .subtSum 7 21 12), (0x58F5AC4C, .multSum 7 21 12), (0x58F5AC6C, .divtSum 7 21 12)] : List (BitVec 32 × Instr)).all (fun p => decide (decode p.1 = .ok p.2)) = true := by
  decide

/-- Words written from the tables of spec/30_encoding.md: opcode 16 (R334, Table A-6). -/
theorem test_decode_ieee_4 : ([
    (0x58F5AD8C, .cvttsSum 7 21 12), (0x58F5ADEC, .cvttqSvm 7 21 12), (0x58F5B00C, .addsSu 7 21 12),
    (0x58F5B02C, .subsSu 7 21 12), (0x58F5B04C, .mulsSu 7 21 12), (0x58F5B06C, .divsSu 7 21 12), (0x58F5B40C, .addtSu 7 21 12),
    (0x58F5B42C, .subtSu 7 21 12), (0x58F5B44C, .multSu 7 21 12), (0x58F5B46C, .divtSu 7 21 12),
    (0x58F5B48C, .cmptunSu 7 21 12), (0x58F5B4AC, .cmpteqSu 7 21 12), (0x58F5B4CC, .cmptltSu 7 21 12),
    (0x58F5B4EC, .cmptleSu 7 21 12), (0x58F5B58C, .cvttsSu 7 21 12), (0x58F5B5EC, .cvttqSv 7 21 12),
    (0x58F5B80C, .addsSud 7 21 12), (0x58F5B82C, .subsSud 7 21 12), (0x58F5B84C, .mulsSud 7 21 12),
    (0x58F5B86C, .divsSud 7 21 12), (0x58F5BC0C, .addtSud 7 21 12), (0x58F5BC2C, .subtSud 7 21 12),
    (0x58F5BC4C, .multSud 7 21 12), (0x58F5BC6C, .divtSud 7 21 12), (0x58F5BD8C, .cvttsSud 7 21 12),
    (0x58F5BDEC, .cvttqSvd 7 21 12), (0x58F5D58C, .cvtstS 7 21 12), (0x58F5E00C, .addsSuic 7 21 12),
    (0x58F5E02C, .subsSuic 7 21 12), (0x58F5E04C, .mulsSuic 7 21 12), (0x58F5E06C, .divsSuic 7 21 12),
    (0x58F5E40C, .addtSuic 7 21 12), (0x58F5E42C, .subtSuic 7 21 12), (0x58F5E44C, .multSuic 7 21 12),
    (0x58F5E46C, .divtSuic 7 21 12), (0x58F5E58C, .cvttsSuic 7 21 12), (0x58F5E5EC, .cvttqSvic 7 21 12)] : List (BitVec 32 × Instr)).all (fun p => decide (decode p.1 = .ok p.2)) = true := by
  decide

/-- Words written from the tables of spec/30_encoding.md: opcode 16 (R334, Table A-6). -/
theorem test_decode_ieee_5 : ([
    (0x58F5E78C, .cvtqsSuic 7 21 12), (0x58F5E7CC, .cvtqtSuic 7 21 12), (0x58F5E80C, .addsSuim 7 21 12),
    (0x58F5E82C, .subsSuim 7 21 12), (0x58F5E84C, .mulsSuim 7 21 12), (0x58F5E86C, .divsSuim 7 21 12),
    (0x58F5EC0C, .addtSuim 7 21 12), (0x58F5EC2C, .subtSuim 7 21 12), (0x58F5EC4C, .multSuim 7 21 12),
    (0x58F5EC6C, .divtSuim 7 21 12), (0x58F5ED8C, .cvttsSuim 7 21 12), (0x58F5EDEC, .cvttqSvim 7 21 12),
    (0x58F5EF8C, .cvtqsSuim 7 21 12), (0x58F5EFCC, .cvtqtSuim 7 21 12), (0x58F5F00C, .addsSui 7 21 12),
    (0x58F5F02C, .subsSui 7 21 12), (0x58F5F04C, .mulsSui 7 21 12), (0x58F5F06C, .divsSui 7 21 12),
    (0x58F5F40C, .addtSui 7 21 12), (0x58F5F42C, .subtSui 7 21 12), (0x58F5F44C, .multSui 7 21 12),
    (0x58F5F46C, .divtSui 7 21 12), (0x58F5F58C, .cvttsSui 7 21 12), (0x58F5F5EC, .cvttqSvi 7 21 12),
    (0x58F5F78C, .cvtqsSui 7 21 12), (0x58F5F7CC, .cvtqtSui 7 21 12), (0x58F5F80C, .addsSuid 7 21 12),
    (0x58F5F82C, .subsSuid 7 21 12), (0x58F5F84C, .mulsSuid 7 21 12), (0x58F5F86C, .divsSuid 7 21 12),
    (0x58F5FC0C, .addtSuid 7 21 12), (0x58F5FC2C, .subtSuid 7 21 12), (0x58F5FC4C, .multSuid 7 21 12),
    (0x58F5FC6C, .divtSuid 7 21 12), (0x58F5FD8C, .cvttsSuid 7 21 12), (0x58F5FDEC, .cvttqSvid 7 21 12),
    (0x58F5FF8C, .cvtqsSuid 7 21 12), (0x58F5FFCC, .cvtqtSuid 7 21 12)] : List (BitVec 32 × Instr)).all (fun p => decide (decode p.1 = .ok p.2)) = true := by
  decide

/-- Words written from the tables of spec/30_encoding.md: opcode 17 (R334). -/
theorem test_decode_independent : ([
    (0x5CF5020C, .cvtlq 7 21 12), (0x5CF5040C, .cpys 7 21 12), (0x5CF5042C, .cpysn 7 21 12), (0x5CF5044C, .cpyse 7 21 12),
    (0x5CF5048C, .mtFpcr 7 21 12), (0x5CF504AC, .mfFpcr 7 21 12), (0x5CF5054C, .fcmoveq 7 21 12),
    (0x5CF5056C, .fcmovne 7 21 12), (0x5CF5058C, .fcmovlt 7 21 12), (0x5CF505AC, .fcmovge 7 21 12),
    (0x5CF505CC, .fcmovle 7 21 12), (0x5CF505EC, .fcmovgt 7 21 12), (0x5CF5060C, .cvtql 7 21 12), (0x5CF5260C, .cvtqlV 7 21 12),
    (0x5CF5A60C, .cvtqlSv 7 21 12)] : List (BitVec 32 × Instr)).all (fun p => decide (decode p.1 = .ok p.2)) = true := by
  decide

/-- Words written from the tables of spec/30_encoding.md: the Mfc format (R331). -/
theorem test_decode_miscellaneous : ([
    (0x60F50000, .trapb 7 21), (0x60F50400, .excb 7 21), (0x60F54000, .mb 7 21), (0x60F54400, .wmb 7 21),
    (0x60F58000, .fetch 7 21), (0x60F5A000, .fetchM 7 21), (0x60F5C000, .rpcc 7 21), (0x60F5E000, .rc 7 21),
    (0x60F5E800, .ecb 7 21), (0x60F5F000, .rs 7 21), (0x60F5F800, .wh64 7 21)] : List (BitVec 32 × Instr)).all (fun p => decide (decode p.1 = .ok p.2)) = true := by
  decide

/-- Words written from the tables of spec/30_encoding.md: the five PAL-reserved opcodes (R335). -/
theorem test_decode_palReserved : ([
    (0x64F5C35A, .hwMfpr 7 21 0xC3 0x5A), (0x6CF55C5A, .hwLd 7 21 2 1 0xC5A), (0x74F5C35A, .hwMtpr 7 21 0xC3 0x5A),
    (0x7BF5BC5A, .hwRet 31 21 2 1 0x1C5A), (0x7CF55C5A, .hwSt 7 21 2 1 0xC5A)] : List (BitVec 32 × Instr)).all (fun p => decide (decode p.1 = .ok p.2)) = true := by
  decide

/-- Words that are no instruction: R342 and R341 (d), (e), with their reasons. -/
theorem test_decode_rejects : (decode 0x40220023 = .error (.unlisted 0x10)) ∧ (decode 0x54220083 = .error (.unlisted 0x15)) ∧
    (decode 0x50220023 = .error .opcdec) ∧ (decode 0x58220203 = .error .opcdec) ∧ (decode 0x70220043 = .error .opcdec) := by
  decide

/-! ### Ill-formed terms -/

/-- The refusal that an outcome is. -/
def refusal (o : Out) : Option Refusal :=
  match o with
  | .refused r => some r
  | _ => none

/-- HW_RET with RA = 7 (D29). -/
theorem test_illFormed_hwRet : (Instr.hwRet 7 21 2 1 0).wellFormed = false ∧
    refusal (exec (.hwRet 7 21 2 1 0) State.reset) = some .hwRetRa := by decide

/-- HW_LD TYPE 011 is not in Table 6-3. -/
theorem test_illFormed_hwLd : (Instr.hwLd 7 21 3 1 0).wellFormed = false ∧
    refusal (exec (.hwLd 7 21 3 1 0) State.reset) = some (.unusedAccessType 3) := by decide

/-- HW_ST TYPEs 011, 100, 101 and 111 are not in Table 6-4. -/
theorem test_illFormed_hwSt : ([3, 4, 5, 7] : List (BitVec 3)).all (fun ty => !(Instr.hwSt 7 21 ty 1 0).wellFormed
    && decide (refusal (exec (.hwSt 7 21 ty 1 0) State.reset) = some (.unusedAccessType ty))) = true := by decide

/-! ### States of the tests -/

/-- After reset with R1, R2 and R3. -/
def regs (a b c : Word) : State :=
  { State.reset with intRegs := ((State.reset.intRegs.set 1 a).set 2 b).set 3 c }

/-- After reset with F1 and F2, and the FPCR. -/
def fregs (a b fpcr : Word) : State :=
  { State.reset with fpRegs := (State.reset.fpRegs.set 1 a).set 2 b, fpcr := fpcr }

/-- Kernel mode out of PALmode, the two lower Dstream and Istream superpages on (R302), R2 in the first of them, R4 in I/O space and R5 in
the region that only a TB can map; physical memory holds one quadword at 0x1008. -/
def kernel : State :=
  { State.reset with
    palMode := false
    itbInit := true
    pc := 0xFFFFFFFF80000780
    mCtl := 0x6
    iCtl := 0x1E
    intRegs := ((((State.reset.intRegs.set 1 0x1122334455667788).set 2 0xFFFFFFFF80001000).set 4 0xFFFFFD0000000000).set 5
      0x2000).set 6 0x0001000000000000
    mem := State.reset.mem.write 0x1008 8 0x8877665544332211 }

/-- The same in user mode. -/
def user : State := { kernel with ierCm := 0x18 }

/-- A DTB entry for the page of 0x2000, readable by the kernel and the user, writable by the kernel. -/
def page : DtbEntry :=
  { valid := true, tag := 1, asn := 0, asm := false, gh := 0, pfn := 5, re := 0b1001, we := 0b0001, fOnRead := false, fOnWrite := false }

/-- The kernel with that entry in both banks. -/
def mapped : State := { kernel with dtb0 := kernel.dtb0.set 3 page, dtb1 := kernel.dtb1.set 7 page }

/-- What an outcome leaves, if it is a next state. -/
def after {α : Type} (o : Out) (f : State → α) : Option α :=
  match o with
  | .next t => some (f t)
  | _ => none

/-! ### Integer instructions, results calculated by hand -/

theorem test_addl : after (exec (.addl 1 (.reg 2) 3) (regs 0x7FFFFFFF 1 0)) (readInt · 3) = some 0xFFFFFFFF80000000 := by decide
theorem test_addl_v : after (exec (.addlV 1 (.reg 2) 3) (regs 0x7FFFFFFF 1 0)) (fun t => (readInt t 3, t.pc, t.excAddr, t.excSum.iov))
    = some (0xFFFFFFFF80000000, 0x600, 0x785, true) := by decide
theorem test_addl_v_fits : after (exec (.addlV 1 (.reg 2) 3) (regs 0x7FFFFFFF 0 0)) (fun t => (readInt t 3, t.pc)) = some (0x7FFFFFFF, 0x784) := by
  decide
theorem test_addq : after (exec (.addq 1 (.lit 0xFF) 3) (regs 0xFFFFFFFFFFFFFFFF 0 0)) (readInt · 3) = some 0xFE := by decide
theorem test_addq_v : after (exec (.addqV 1 (.reg 2) 3) (regs 0x7FFFFFFFFFFFFFFF 1 0)) (·.pc) = some 0x600 := by decide
theorem test_s4addl : after (exec (.s4addl 1 (.reg 2) 3) (regs 0x20000000 5 0)) (readInt · 3) = some 0xFFFFFFFF80000005 := by decide
theorem test_s8addl : after (exec (.s8addl 1 (.reg 2) 3) (regs 3 5 0)) (readInt · 3) = some 29 := by decide
theorem test_s4addq : after (exec (.s4addq 1 (.reg 2) 3) (regs 0x4000000000000001 5 0)) (readInt · 3) = some 9 := by decide
theorem test_s8addq : after (exec (.s8addq 1 (.reg 2) 3) (regs 3 5 0)) (readInt · 3) = some 29 := by decide
theorem test_subl : after (exec (.subl 1 (.reg 2) 3) (regs 0 1 0)) (readInt · 3) = some 0xFFFFFFFFFFFFFFFF := by decide
theorem test_subl_v : after (exec (.sublV 1 (.reg 2) 3) (regs 0xFFFFFFFF80000000 1 0)) (fun t => (readInt t 3, t.pc)) = some (0x7FFFFFFF, 0x600) := by
  decide
theorem test_subq : after (exec (.subq 1 (.reg 2) 3) (regs 5 7 0)) (readInt · 3) = some 0xFFFFFFFFFFFFFFFE := by decide
theorem test_subq_v : after (exec (.subqV 1 (.reg 2) 3) (regs 0x8000000000000000 1 0)) (fun t => (readInt t 3, t.pc))
    = some (0x7FFFFFFFFFFFFFFF, 0x600) := by decide
theorem test_s4subl : after (exec (.s4subl 1 (.reg 2) 3) (regs 3 5 0)) (readInt · 3) = some 7 := by decide
theorem test_s8subl : after (exec (.s8subl 1 (.reg 2) 3) (regs 3 25 0)) (readInt · 3) = some 0xFFFFFFFFFFFFFFFF := by decide
theorem test_s4subq : after (exec (.s4subq 1 (.reg 2) 3) (regs 3 5 0)) (readInt · 3) = some 7 := by decide
theorem test_s8subq : after (exec (.s8subq 1 (.reg 2) 3) (regs 3 5 0)) (readInt · 3) = some 19 := by decide
theorem test_cmpeq : after (exec (.cmpeq 1 (.reg 2) 3) (regs 5 5 9)) (readInt · 3) = some 1 := by decide
theorem test_cmplt : after (exec (.cmplt 1 (.reg 2) 3) (regs 0xFFFFFFFFFFFFFFFF 0 9)) (readInt · 3) = some 1 := by decide
theorem test_cmple : after (exec (.cmple 1 (.reg 2) 3) (regs 5 5 9)) (readInt · 3) = some 1 := by decide
theorem test_cmpult : after (exec (.cmpult 1 (.reg 2) 3) (regs 0xFFFFFFFFFFFFFFFF 0 9)) (readInt · 3) = some 0 := by decide
theorem test_cmpule : after (exec (.cmpule 1 (.reg 2) 3) (regs 4 5 9)) (readInt · 3) = some 1 := by decide
theorem test_cmpbge : after (exec (.cmpbge 1 (.reg 2) 3) (regs 0x0102030405060708 0x0201030504070608 0)) (readInt · 3)
    = some 0b01101011 := by decide
theorem test_mull : after (exec (.mull 1 (.reg 2) 3) (regs 0x10000 0x8000 0)) (readInt · 3) = some 0xFFFFFFFF80000000 := by decide
theorem test_mull_v : after (exec (.mullV 1 (.reg 2) 3) (regs 0x10000 0x8000 0)) (·.pc) = some 0x600 := by decide
theorem test_mulq : after (exec (.mulq 1 (.reg 2) 3) (regs 0x100000000 0x100000003 0)) (readInt · 3) = some 0x300000000 := by decide
theorem test_mulq_v : after (exec (.mulqV 1 (.reg 2) 3) (regs 0x100000000 0x80000000 0)) (·.pc) = some 0x600 := by decide
theorem test_umulh : after (exec (.umulh 1 (.reg 2) 3) (regs 0xFFFFFFFFFFFFFFFF 0xFFFFFFFFFFFFFFFF 0)) (readInt · 3)
    = some 0xFFFFFFFFFFFFFFFE := by decide
theorem test_and_bic : after (exec (.and 1 (.reg 2) 3) (regs 0b1100 0b1010 0)) (readInt · 3) = some 0b1000 ∧
    after (exec (.bic 1 (.reg 2) 3) (regs 0b1100 0b1010 0)) (readInt · 3) = some 0b0100 := by decide
theorem test_bis_ornot : after (exec (.bis 1 (.reg 2) 3) (regs 0b1100 0b1010 0)) (readInt · 3) = some 0b1110 ∧
    after (exec (.ornot 1 (.reg 2) 3) (regs 0b1100 0b1010 0)) (readInt · 3) = some 0xFFFFFFFFFFFFFFFD := by decide
theorem test_xor_eqv : after (exec (.xor 1 (.reg 2) 3) (regs 0b1100 0b1010 0)) (readInt · 3) = some 0b0110 ∧
    after (exec (.eqv 1 (.reg 2) 3) (regs 0b1100 0b1010 0)) (readInt · 3) = some 0xFFFFFFFFFFFFFFF9 := by decide
theorem test_amask_implver : after (exec (.amask 1 (.reg 2) 3) (regs 0 0x3FF 0)) (readInt · 3) = some 0xF8 ∧
    after (exec (.implver 31 (.lit 1) 3) (regs 0 0 0)) (readInt · 3) = some 2 := by decide
theorem test_shifts : after (exec (.sll 1 (.reg 2) 3) (regs 0x8000000000000001 65 0)) (readInt · 3) = some 2 ∧
    after (exec (.srl 1 (.lit 63) 3) (regs 0x8000000000000000 0 0)) (readInt · 3) = some 1 ∧
    after (exec (.sra 1 (.lit 63) 3) (regs 0x8000000000000000 0 0)) (readInt · 3) = some 0xFFFFFFFFFFFFFFFF := by decide
theorem test_cmov_taken : after (exec (.cmoveq 1 (.reg 2) 3) (regs 0 7 9)) (readInt · 3) = some 7 ∧
    after (exec (.cmovlt 1 (.reg 2) 3) (regs 0x8000000000000000 7 9)) (readInt · 3) = some 7 ∧
    after (exec (.cmovlbs 1 (.reg 2) 3) (regs 3 7 9)) (readInt · 3) = some 7 ∧
    after (exec (.cmovle 1 (.reg 2) 3) (regs 0 7 9)) (readInt · 3) = some 7 := by decide
theorem test_cmov_kept : after (exec (.cmovne 1 (.reg 2) 3) (regs 0 7 9)) (readInt · 3) = some 9 ∧
    after (exec (.cmovge 1 (.reg 2) 3) (regs 0x8000000000000000 7 9)) (readInt · 3) = some 9 ∧
    after (exec (.cmovlbc 1 (.reg 2) 3) (regs 3 7 9)) (readInt · 3) = some 9 ∧
    after (exec (.cmovgt 1 (.reg 2) 3) (regs 0 7 9)) (readInt · 3) = some 9 := by decide
theorem test_ext_low : after (exec (.extwl 1 (.reg 2) 3) (regs 0x8877665544332211 3 0)) (readInt · 3) = some 0x5544 ∧
    after (exec (.extql 1 (.lit 7) 3) (regs 0x8877665544332211 0 0)) (readInt · 3) = some 0x88 ∧
    after (exec (.extbl 1 (.lit 7) 3) (regs 0x8877665544332211 0 0)) (readInt · 3) = some 0x88 := by decide
theorem test_ext_high : after (exec (.extqh 1 (.reg 2) 3) (regs 0x8877665544332211 3 0)) (readInt · 3) = some 0x3322110000000000 ∧
    after (exec (.extlh 1 (.reg 2) 3) (regs 0x8877665544332211 6 0)) (readInt · 3) = some 0x22110000 := by decide
theorem test_ins : after (exec (.insll 1 (.reg 2) 3) (regs 0x8877665544332211 6 0)) (readInt · 3) = some 0x2211000000000000 ∧
    after (exec (.inslh 1 (.reg 2) 3) (regs 0x8877665544332211 6 0)) (readInt · 3) = some 0x4433 := by decide
theorem test_msk : after (exec (.mskll 1 (.reg 2) 3) (regs 0x8877665544332211 6 0)) (readInt · 3) = some 0x0000665544332211 ∧
    after (exec (.msklh 1 (.reg 2) 3) (regs 0x8877665544332211 6 0)) (readInt · 3) = some 0x8877665544330000 := by decide
theorem test_zap : after (exec (.zap 1 (.lit 0x81) 3) (regs 0x8877665544332211 0 0)) (readInt · 3) = some 0x0077665544332200 ∧
    after (exec (.zapnot 1 (.lit 0x81) 3) (regs 0x8877665544332211 0 0)) (readInt · 3) = some 0x8800000000000011 := by decide
/-- VA_CTL[B_ENDIAN] inverts the byte offset (R520). -/
theorem test_extbl_bigEndian : after (exec (.extbl 1 (.lit 0) 3) { regs 0x8877665544332211 0 0 with vaCtl := 1 }) (readInt · 3) = some 0x88 := by
  decide
theorem test_sext : after (exec (.sextb 31 (.reg 2) 3) (regs 0 0x180 0)) (readInt · 3) = some 0xFFFFFFFFFFFFFF80 ∧
    after (exec (.sextw 31 (.reg 2) 3) (regs 0 0x17FFF 0)) (readInt · 3) = some 0x7FFF := by decide
theorem test_counts : after (exec (.ctpop 31 (.reg 2) 3) (regs 0 0xF0F0 0)) (readInt · 3) = some 8 ∧
    after (exec (.ctlz 31 (.reg 2) 3) (regs 0 1 0)) (readInt · 3) = some 63 ∧
    after (exec (.cttz 31 (.reg 2) 3) (regs 0 0 0)) (readInt · 3) = some 64 := by decide
theorem test_perr : after (exec (.perr 1 (.reg 2) 3) (regs 0x01FF 0xFF00 0)) (readInt · 3) = some 0x1FD := by decide
theorem test_pack : after (exec (.pkwb 31 (.reg 2) 3) (regs 0 0x8877665544332211 0)) (readInt · 3) = some 0x77553311 ∧
    after (exec (.pklb 31 (.reg 2) 3) (regs 0 0x8877665544332211 0)) (readInt · 3) = some 0x5511 ∧
    after (exec (.unpkbw 31 (.reg 2) 3) (regs 0 0x44332211 0)) (readInt · 3) = some 0x0044003300220011 ∧
    after (exec (.unpkbl 31 (.reg 2) 3) (regs 0 0x44332211 0)) (readInt · 3) = some 0x0000002200000011 := by decide
theorem test_minmax_bytes : after (exec (.minsb8 1 (.reg 2) 3) (regs 0x80 0x01 0)) (readInt · 3) = some 0x80 ∧
    after (exec (.maxsb8 1 (.reg 2) 3) (regs 0x80 0x01 0)) (readInt · 3) = some 0x01 ∧
    after (exec (.minub8 1 (.reg 2) 3) (regs 0x80 0x01 0)) (readInt · 3) = some 0x01 ∧
    after (exec (.maxub8 1 (.reg 2) 3) (regs 0x80 0x01 0)) (readInt · 3) = some 0x80 := by decide
theorem test_minmax_words : after (exec (.minsw4 1 (.reg 2) 3) (regs 0x8000 0x0001 0)) (readInt · 3) = some 0x8000 ∧
    after (exec (.maxsw4 1 (.reg 2) 3) (regs 0x8000 0x0001 0)) (readInt · 3) = some 0x0001 ∧
    after (exec (.minuw4 1 (.reg 2) 3) (regs 0x8000 0x0001 0)) (readInt · 3) = some 0x0001 ∧
    after (exec (.maxuw4 1 (.reg 2) 3) (regs 0x8000 0x0001 0)) (readInt · 3) = some 0x8000 := by decide
theorem test_lda_ldah : after (exec (.lda 3 2 0xFFFF) (regs 0 5 0)) (readInt · 3) = some 4 ∧
    after (exec (.ldah 3 31 0x8000) (regs 0 0 0)) (readInt · 3) = some 0xFFFFFFFF80000000 := by decide
/-- R31 reads zero and discards (R31). -/
theorem test_r31 : after (exec (.addq 31 (.reg 2) 31) (regs 0 5 0)) (fun t => (readInt t 31, t.intRegs == (regs 0 5 0).intRegs)) = some (0, true) := by
  decide
/-- With SDE[1] the PALshadow register R4 hides the native one (R34). -/
theorem test_shadow : after (exec (.lda 4 31 7) { State.reset with iCtl := 0x86 }) (fun t => (readInt t 4, t.intRegs[4], t.shadow[0])) = some (7, 0, 7) := by
  decide

/-! ### Control flow -/

theorem test_branches : after (exec (.beq 1 0x1FFFFF) (regs 0 0 0)) (·.pc) = some 0x780 ∧ after (exec (.bne 1 4) (regs 0 0 0)) (·.pc) = some 0x784 ∧
    after (exec (.blt 1 4) (regs 0x8000000000000000 0 0)) (·.pc) = some 0x794 ∧ after (exec (.bge 1 4) (regs 0 0 0)) (·.pc) = some 0x794 ∧
    after (exec (.ble 1 4) (regs 1 0 0)) (·.pc) = some 0x784 ∧ after (exec (.bgt 1 4) (regs 1 0 0)) (·.pc) = some 0x794 ∧
    after (exec (.blbc 1 4) (regs 1 0 0)) (·.pc) = some 0x784 ∧ after (exec (.blbs 1 4) (regs 1 0 0)) (·.pc) = some 0x794 := by decide
theorem test_br_bsr : after (exec (.br 31 2) State.reset) (·.pc) = some 0x78C ∧
    after (exec (.bsr 26 0x1FFFFE) State.reset) (fun t => (t.pc, readInt t 26)) = some (0x77C, 0x784) := by decide
/-- The target is read before the link is written. -/
theorem test_jsr_same_register : after (exec (.jsr 2 2 0) (regs 0 0x1003 0)) (fun t => (t.pc, readInt t 2)) = some (0x1000, 0x784) := by decide
theorem test_jumps : after (exec (.jmp 31 2 0) (regs 0 0x1000 0)) (·.pc) = some 0x1000 ∧ after (exec (.ret 31 2 0) (regs 0 0x1000 0)) (·.pc) = some 0x1000 ∧
    after (exec (.jsrCoroutine 3 2 0) (regs 0 0x1000 0)) (fun t => (t.pc, readInt t 3)) = some (0x1000, 0x784) := by decide
theorem test_fbranches : after (exec (.fbeq 1 4) (fregs 0x8000000000000000 0 0)) (·.pc) = some 0x794 ∧
    after (exec (.fblt 1 4) (fregs 0x8000000000000000 0 0)) (·.pc) = some 0x784 ∧
    after (exec (.fble 1 4) (fregs 0xBFF0000000000000 0 0)) (·.pc) = some 0x794 ∧
    after (exec (.fbne 1 4) (fregs 0x3FF0000000000000 0 0)) (·.pc) = some 0x794 ∧
    after (exec (.fbge 1 4) (fregs 0xBFF0000000000000 0 0)) (·.pc) = some 0x784 ∧
    after (exec (.fbgt 1 4) (fregs 0x3FF0000000000000 0 0)) (·.pc) = some 0x794 := by decide
/-- FEN with the unit disabled (R835). -/
theorem test_fen : after (exec (.fbeq 1 4) { State.reset with pctx := 0 }) (fun t => (t.pc, t.excAddr)) = some (0x200, 0x781) := by decide

/-! ### Memory -/

theorem test_loads : after (exec (.ldq 3 2 8) kernel) (readInt · 3) = some 0x8877665544332211 ∧
    after (exec (.ldl 3 2 12) kernel) (readInt · 3) = some 0xFFFFFFFF88776655 ∧ after (exec (.ldwu 3 2 14) kernel) (readInt · 3) = some 0x8877 ∧
    after (exec (.ldbu 3 2 15) kernel) (readInt · 3) = some 0x88 ∧ after (exec (.ldqU 3 2 11) kernel) (readInt · 3) = some 0x8877665544332211 := by decide
theorem test_stores : after (exec (.stq 1 2 16) kernel) (fun t => t.mem.read 0x1010 8) = some 0x1122334455667788 ∧
    after (exec (.stl 1 2 12) kernel) (fun t => t.mem.read 0x1008 8) = some 0x5566778844332211 ∧
    after (exec (.stw 1 2 8) kernel) (fun t => t.mem.read 0x1008 8) = some 0x8877665544337788 ∧
    after (exec (.stb 1 2 9) kernel) (fun t => t.mem.read 0x1008 8) = some 0x8877665544338811 ∧
    after (exec (.stqU 1 2 11) kernel) (fun t => t.mem.read 0x1008 8) = some 0x1122334455667788 := by decide
/-- VA_CTL[B_ENDIAN] inverts PA[2:0] for bytes and PA[2] for longwords (R223). -/
theorem test_loads_bigEndian : after (exec (.ldbu 3 2 8) { kernel with vaCtl := 1 }) (readInt · 3) = some 0x88 ∧
    after (exec (.ldl 3 2 8) { kernel with vaCtl := 1 }) (readInt · 3) = some 0xFFFFFFFF88776655 := by decide
theorem test_lock_kept : after (exec (.ldqL 3 2 8) kernel) (fun t => after (exec (.stqC 1 2 16) t) fun u => (readInt u 1, u.mem.read 0x1010 8, u.lockFlag))
    = some (some (1, 0x1122334455667788, false)) := by decide
theorem test_lock_lost : after (exec (.ldlL 3 2 8) kernel) (fun t => after (exec (.stlC 1 2 8) { t with lockFlag := false }) fun u =>
    (readInt u 1, u.mem.read 0x1008 8)) = some (some (0, 0x8877665544332211)) := by decide
/-- UNALIGN: entry, EXC_ADDR, VA and MM_STAT = opcode 29 in [9:4] (R169, R840). -/
theorem test_unalign : after (exec (.ldq 3 2 9) kernel) (fun t => (t.pc, t.excAddr, t.va, t.mmStat)) =
    some (0x280, 0xFFFFFFFF80000780, 0xFFFFFFFF80001009, 0x290) := by decide
theorem test_dtb_miss : after (exec (.stq 3 5 0) kernel) (fun t => (t.pc, t.va, t.mmStat)) = some (0x300, 0x2000, 0x2D1) := by decide
/-- A superpage reference out of kernel mode: ACV (R302). -/
theorem test_dfault : after (exec (.ldl 3 2 0) user) (fun t => (t.pc, t.mmStat)) = some (0x380, 0x282) := by decide
theorem test_mapped : after (exec (.stq 1 5 8) mapped) (fun t => t.mem.read 0xA008 8) = some 0x1122334455667788 := by decide
theorem test_io : after (exec (.stl 1 4 0) kernel) (fun t => (t.mem == kernel.mem, t.ioTrace)) = some (true, [.write 0xF0000000000 4 0x55667788]) ∧
    after (exec (.ldl 3 4 0) kernel) (·.ioTrace) = some [.read 0xF0000000000 4] := by decide

/-! ### Floating point -/

theorem test_lds_sts : after (exec (.lds 3 2 8) kernel) (readFp · 3) = some 0x4086644220000000 ∧
    after (exec (.sts 3 2 16) { kernel with fpRegs := kernel.fpRegs.set 3 0x3FF0000000000000 }) (fun t => t.mem.read 0x1010 8) = some 0x3F800000 := by decide
theorem test_ldf_stf : after (exec (.ldf 3 2 8) kernel) (readFp · 3) = some 0x3C42288660000000 ∧
    after (exec (.stf 3 2 16) { kernel with fpRegs := kernel.fpRegs.set 3 0x4010000000000000 }) (fun t => t.mem.read 0x1010 8) = some 0x4080 := by decide
theorem test_ldg_stg : after (exec (.ldg 3 2 8) kernel) (readFp · 3) = some 0x2211443366558877 ∧
    after (exec (.stg 3 2 16) { kernel with fpRegs := kernel.fpRegs.set 3 0x1122334455667788 }) (fun t => t.mem.read 0x1010 8) = some 0x7788556633441122 := by
  decide
theorem test_ldt_stt : after (exec (.ldt 3 2 8) kernel) (readFp · 3) = some 0x8877665544332211 ∧
    after (exec (.stt 3 2 8) { kernel with fpRegs := kernel.fpRegs.set 3 1 }) (fun t => t.mem.read 0x1008 8) = some 1 := by decide
/-- 1 + 2^-53 is a tie: to even 1, towards plus infinity the next number; INE is detected and its status bit is clear, so ARITH. -/
theorem test_addt : after (exec (.addt 1 2 3) (fregs 0x3FF0000000000000 0x3CA0000000000000 0)) (fun t => (readFp t 3, t.pc, t.excSum.setIne))
    = some (0x3FF0000000000000, 0x600, true) ∧
    after (exec (.addtD 1 2 3) (fregs 0x3FF0000000000000 0x3CA0000000000000 0x0D00000000000000)) (fun t => (readFp t 3, t.pc))
    = some (0x3FF0000000000001, 0x784) := by decide
theorem test_subs_mult_divt : after (exec (.subs 1 2 3) (fregs 0x3FF0000000000000 0x3FF8000000000000 0)) (readFp · 3) = some 0xBFE0000000000000 ∧
    after (exec (.mult 1 2 3) (fregs 0x3FF8000000000000 0xC000000000000000 0)) (readFp · 3) = some 0xC008000000000000 ∧
    after (exec (.divtC 1 2 3) (fregs 0x3FF0000000000000 0x4008000000000000 0)) (readFp · 3) = some 0x3FD5555555555555 := by decide
/-- Division by zero: infinity and DZE, reported without /S (R606). -/
theorem test_divt_zero : after (exec (.divt 1 2 3) (fregs 0x3FF0000000000000 0 0)) (fun t => (readFp t 3, t.pc, t.excSum.dze, t.excSum.setDze))
    = some (0x7FF0000000000000, 0x600, true, true) := by decide
theorem test_sqrtt : after (exec (.sqrtt 31 2 3) (fregs 0 0x4000000000000000 0x0100000000000000)) (readFp · 3) = some 0x3FF6A09E667F3BCD := by decide
theorem test_cvt_ieee : after (exec (.cvtts 31 2 3) (fregs 0 0x3FF0000010000001 0x0100000000000000)) (readFp · 3) = some 0x3FF0000020000000 ∧
    after (exec (.cvttqC 31 2 3) (fregs 0 0xC00C000000000000 0x0100000000000000)) (readFp · 3) = some 0xFFFFFFFFFFFFFFFD ∧
    after (exec (.cvtqt 31 2 3) (fregs 0 0xFFFFFFFFFFFFFFFF 0)) (readFp · 3) = some 0xBFF0000000000000 ∧
    after (exec (.cvtst 31 2 3) (fregs 0 0x3FF0000020000000 0)) (readFp · 3) = some 0x3FF0000020000000 := by decide
theorem test_compares_ieee : after (exec (.cmpteq 1 2 3) (fregs 0 0x8000000000000000 0)) (readFp · 3) = some 0x4000000000000000 ∧
    after (exec (.cmptlt 1 2 3) (fregs 0xFFF0000000000000 0 0)) (readFp · 3) = some 0x4000000000000000 ∧
    after (exec (.cmptun 1 2 3) (fregs 0x7FF8000000000000 0 0)) (readFp · 3) = some 0x4000000000000000 ∧
    after (exec (.cmptle 1 2 3) (fregs 0x3FF0000000000000 0 0)) (readFp · 3) = some 0 := by decide
/-- VAX 1.0 is 0x4010...: 1 + 1 = 2; chopped 1/3; true zero for underflow. -/
theorem test_vax : after (exec (.addg 1 2 3) (fregs 0x4010000000000000 0x4010000000000000 0)) (readFp · 3) = some 0x4020000000000000 ∧
    after (exec (.divfC 1 2 3) (fregs 0x4010000000000000 0x4028000000000000 0)) (readFp · 3) = some 0x3FF5555540000000 ∧
    after (exec (.mulg 1 2 3) (fregs 0x0010000000000000 0x0010000000000000 0x0080000000000000)) (readFp · 3) = some 0 ∧
    after (exec (.cmpglt 1 2 3) (fregs 0xC010000000000000 0 0)) (readFp · 3) = some 0x4000000000000000 := by decide
theorem test_cvt_vax : after (exec (.cvtgq 31 2 3) (fregs 0 0x4028000000000000 0)) (readFp · 3) = some 3 ∧
    after (exec (.cvtqf 31 2 3) (fregs 0 3 0)) (readFp · 3) = some 0x4028000000000000 ∧
    after (exec (.cvtgd 31 2 3) (fregs 0 0x4010000000000000 0)) (readFp · 3) = some 0x4080000000000000 ∧
    after (exec (.cvtdg 31 2 3) (fregs 0 0x4080000000000000 0)) (readFp · 3) = some 0x4010000000000000 := by decide
theorem test_copies : after (exec (.cpys 1 2 3) (fregs 0x8000000000000000 0x3FF0000000000000 0)) (readFp · 3) = some 0xBFF0000000000000 ∧
    after (exec (.cpysn 1 2 3) (fregs 0x8000000000000000 0x3FF0000000000000 0)) (readFp · 3) = some 0x3FF0000000000000 ∧
    after (exec (.cpyse 1 2 3) (fregs 0xC010000000000000 0x3FF8000000000000 0)) (readFp · 3) = some 0xC018000000000000 ∧
    after (exec (.fcmovge 1 2 3) (fregs 0x8000000000000000 5 0)) (readFp · 3) = some 5 := by decide
theorem test_moves : after (exec (.itofs 1 31 3) (regs 0x3F800000 0 0)) (readFp · 3) = some 0x3FF0000000000000 ∧
    after (exec (.ftois 1 31 3) (fregs 0xBFF0000000000000 0 0)) (readInt · 3) = some 0xFFFFFFFFBF800000 ∧
    after (exec (.cvtql 31 2 3) (fregs 0 0x80000001 0)) (fun t => (readFp t 3, t.pc)) = some (0x8000000020000000, 0x600) ∧
    after (exec (.cvtlq 31 2 3) (fregs 0 0x8000000020000000 0)) (readFp · 3) = some 0xFFFFFFFF80000001 := by decide
/-- MT_FPCR keeps FPCR[63:48] and traps outside PALmode (R846). -/
theorem test_mt_fpcr : after (exec (.mtFpcr 1 1 1) (fregs 0x0C01FFFFFFFFFFFF 0 0)) (fun t => (t.fpcr, t.pc)) = some (0x0C01000000000000, 0x784) ∧
    after (exec (.mtFpcr 1 1 1) { fregs 0x0C00000000000000 0 0 with palMode := false }) (fun t => (t.fpcr, t.pc, t.excAddr))
    = some (0x0C00000000000000, 0x700, 0x784) := by decide

/-! ### Miscellaneous and PALcode instructions -/

theorem test_misc : after (exec (.rpcc 3 31) { State.reset with cc := 0x1234 }) (readInt · 3) = some 0x1234 ∧
    after (exec (.rs 3 31) { State.reset with intrFlag := false }) (fun t => (readInt t 3, t.intrFlag)) = some (0, true) ∧
    after (exec (.rc 3 31) { State.reset with intrFlag := true }) (fun t => (readInt t 3, t.intrFlag)) = some (1, false) ∧
    after (exec (.mb 31 31) State.reset) (·.pc) = some 0x784 ∧
    after (exec (.mb 31 31) { State.reset with ackHeld := true }) (fun t => (t.pc, t.waiting)) = some (0x780, true) := by decide
/-- CALL_PAL 83 from 0xFFFFFFFF80000780 enters at 0x30C0 with the link in R23; CALL_PAL 40 takes OPCDEC (R781). -/
theorem test_callPal : after (exec (.callPal 0x83) kernel) (fun t => (t.pc, t.palMode, readInt t 23)) = some (0x30C0, true, 0xFFFFFFFF80000784) ∧
    after (exec (.callPal 0x40) kernel) (fun t => (t.pc, t.excAddr)) = some (0x400, 0xFFFFFFFF80000780) := by decide
theorem test_hwRet : after (exec (.hwRet 31 2 2 1 0) { regs 0 0x2001 0 with icFlush := true, icache := [⟨false, 0, true, 0, true, 0, []⟩] })
    (fun t => (t.pc, t.palMode, t.icache, t.icFlush)) = some (0x2000, true, [], false) := by decide
theorem test_hwMtpr_hwMfpr : after (exec (.hwMtpr 31 2 0x10 0) (regs 0 0xFFFFFFFFFFFFFFFF 0)) (fun t =>
    after (exec (.hwMfpr 3 31 0x10 0) t) (readInt · 3)) = some (some 0x00000FFFFFFF8000) := by decide
theorem test_hwLd_hwSt : after (exec (.hwSt 2 1 0 1 8) (regs 0x1000 0x8877665544332211 0)) (fun t =>
    after (exec (.hwLd 3 1 0 0 0xC) t) (readInt · 3)) = some (some 0xFFFFFFFF88776655) := by decide
/-- Out of PALmode without HWE the PAL-reserved opcodes take OPCDEC (R790). -/
theorem test_palReserved : after (exec (.hwMfpr 3 31 0x10 0) kernel) (·.pc) = some 0x400 ∧
    after (exec (.hwMfpr 3 31 0x10 0) { kernel with iCtl := 0x101E }) (·.pc) = some 0xFFFFFFFF80000784 := by decide

/-! ### Witnesses: for every statement with hypotheses, a state and operands that meet them together, at the boundary values -/

/-- The references of the tests, and where they go. -/
def at8 : Word := 0xFFFFFFFF80001008
def inIo : Word := 0xFFFFFD0000000000

/-- EveryStepKeepsTheStateSound: a sound state from which a step completes (the interrupt pins change). -/
theorem witness_everyStep : Sound { State.reset with env := [.irq 1] } ∧
    ∃ t, step { State.reset with env := [.irq 1] } = .next t :=
  ⟨by constructor <;> decide, _, rfl⟩

/-- Two DTB entries for the page of the tests, in both banks. -/
def twice : State :=
  { kernel with
    dtb0 := [page, page]
    dtb1 := [page, page] }

/-- StepRunsTheDecodedInstruction, with ECB's address translated, missed, matched twice, denied and in I/O space, with an empty schedule and with `run` at its head: memory holds CALL_PAL 0 at 0x780. -/
theorem witness_stepRuns : (∃ s t : State, s.env = [] ∧ s.asleep = false ∧ mchkPending s = false ∧ interruptPending s = false ∧
      fetch s = .word 0 t ∧ decode 0 = .ok (.callPal 0)) ∧
    (∃ s t : State, s.env = [.run] ∧ s.asleep = false ∧ mchkPending s = false ∧ interruptPending s = false ∧
      fetch { s with env := [] } = .word 0 t) ∧ decode 0x63E2E800 = .ok (.ecb 31 2) ∧
    translateData kernel (evictRef kernel at8) = .ok 0x1008 ∧ translateData kernel (evictRef kernel inIo) = .ok 0xF0000000000 ∧
    translateData user (evictRef user at8) = .error (.violation true false false) ∧
    translateData kernel (evictRef kernel 0x2000) = .error .miss ∧
    translateData twice (evictRef twice 0x2000) = .error (.stop .multipleTbMatch) :=
  ⟨⟨State.reset, _, rfl, rfl, rfl, rfl, rfl, by decide⟩, ⟨{ State.reset with env := [.run] }, _, rfl, rfl, rfl, rfl, rfl⟩, by decide, rfl, rfl, rfl, rfl, rfl⟩

/-- TimeBetweenInstructions: a counter that stands and one that counts. -/
theorem witness_time : State.reset.ccEna = false ∧ ({ State.reset with ccEna := true } : State).ccEna = true := by decide

/-- InterruptsAndMachineChecksAreTakenBeforeTheFetch: both machine-check latches, an enabled pin, and PALmode. -/
theorem witness_interrupts : (kernel.env = [] ∧ kernel.asleep = false ∧ kernel.palMode = false ∧ kernel.mchkDReq = false ∧
      kernel.mchkIReq = false) ∧ ({ kernel with mchkDReq := true } : State).mchkDReq = true ∧
    ({ kernel with mchkIReq := true } : State).mchkIReq = true ∧
    isum { kernel with irqPins := 0x20, ierCm := 0x4000000000 } ≠ 0 ∧ State.reset.palMode = true := by decide

/-- IsumCollectsTheEnabledRequests: the last pin, the first software request, and the supervisor AST in user mode. -/
theorem witness_isum : (isum { kernel with irqPins := 0x20, ierCm := 0x4000000000 }).getLsbD 38 = true ∧
    (isum { kernel with sirr := 0x4000, ierCm := 0x4000 }).getLsbD 14 = true ∧
    (isum { kernel with pctx := 0x1FE0, ierCm := 0x2018 }) = 0x618 ∧
    (isum { kernel with pctx := 0x1FE0, ierCm := 0x2008 }) = 0x18 := by decide

/-- A native state whose pc only the ITB can map. -/
def native (itb : List TbEntry) (va : Word) (jump : Bool) : State :=
  { kernel with iCtl := 0x6, ierCm := 0x18, itb := itb, pc := va, viaJump := jump }

/-- An ITB entry for page 1 that only the kernel may fetch from. -/
def codePage : TbEntry := { valid := true, tag := 1, asn := 0, asm := false, gh := 0, pfn := 5, re := 1 }

/-- FetchReadsTheIcacheThenMemory: no block, and a block that hits. -/
theorem witness_fetchReads : (State.reset.palMode = true ∧ signOk (State.reset.iCtl.getLsbD 15) State.reset.pc = true ∧
      State.reset.icache.find? (icacheHits State.reset State.reset.pc) = none ∧ inIoSpace (State.reset.pc.setWidth 44) = false ∧
      absent State.reset (State.reset.pc.setWidth 44) = false) ∧
    (∀ b : IcacheBlock, b = ⟨false, 30, true, 0, true, 0, []⟩ →
      ({ State.reset with icache := [b] } : State).icache.find? (icacheHits State.reset State.reset.pc) = some b) ∧
    (kernel.palMode = false ∧ kernel.itbInit = true ∧ currentMode kernel = 0 ∧
      superpage (kernel.iCtl.extractLsb' 3 3) kernel.pc = some 0x780 ∧ kernel.iCtl.extractLsb' 1 2 ≠ 0#2) ∧
    ({ codePage with re := 8 } : TbEntry).re.getLsbD (currentMode (native [{ codePage with re := 8 }] 0x2000 false)).toNat = true := by
  refine ⟨by decide, ?_, by decide, by decide⟩
  rintro b rfl
  decide

/-- FetchFaults: no entry, one entry without the enable, a pc that fails the sign check in sequence and through a jump. -/
theorem witness_fetchFaults : (∀ l ∈ [[], [codePage]], (native l 0x2000 false).palMode = false ∧ (native l 0x2000 false).itbInit = true ∧
      signOk ((native l 0x2000 false).iCtl.getLsbD 15) (native l 0x2000 false).pc = true ∧
      (native l 0x2000 false).icache.find? (icacheHits (native l 0x2000 false) 0x2000) = none ∧
      superpage ((native l 0x2000 false).iCtl.extractLsb' 3 3) 0x2000 = none ∧
      (native l 0x2000 false).itb.filter (fun e => tbHits e (currentAsn (native l 0x2000 false)) 0x2000) = l) ∧
    codePage.re.getLsbD (currentMode (native [codePage] 0x2000 false)).toNat = false ∧
    ∀ j, signOk ((native [] 0x0000040000000000 j).iCtl.getLsbD 15) (native [] 0x0000040000000000 j).pc = false ∧
      (native [] 0x0000040000000000 j).viaJump = j := by decide

/-- FetchFaults: a block that hits and denies user mode, and a superpage in user mode. -/
theorem witness_fetchDenied : (∀ s : State, s = { native [] 0x2000 false with icache := [⟨false, 0x80, false, 0, true, 1, []⟩] } →
      s.icache.find? (icacheHits s s.pc) = some ⟨false, 0x80, false, 0, true, 1, []⟩ ∧ (1#4).getLsbD (currentMode s).toNat = false) ∧
    (user.icache.find? (icacheHits user user.pc) = none ∧ superpage (user.iCtl.extractLsb' 3 3) user.pc = some 0x780 ∧ currentMode user ≠ 0) := by
  refine ⟨?_, by decide⟩
  rintro s rfl
  decide

/-- A PALmode state at an address of block 0x780, whose words there are given, and after the block before it. -/
def inBlock (pc : Word) (words : List (BitVec 32)) (before : List FetchBlock) : State :=
  { State.reset with pc := pc, icache := [⟨false, 30, true, 0, true, 0, words⟩], blocks := before }

/-- The fetch block that R1042 excepts (D.42). -/
def delayedReturn : List (BitVec 32) := [0x4CC03406, 0x4CC03406, 0x77E62744, 0x7BF7A000]

/-- RestrictedFetchBlocks: fetched and decoded words in blocks of each kind: a locked HW_LD in the fourth place and a plain one; a
floating word and a HW_MTPR together, and each without the other; a HW_MTPR with a trappable word in its block, with one in the previous
block, in the block of R1042 with a clean and with a trappable one before it, and behind and before a HW_RET with STALL; and a LDA. -/
theorem witness_restricted : palLegal (inBlock 0x780 [] []) = true ∧ palLegal kernel = false ∧
    ([(0x78C, 0x6C223000, .hwLd 1 2 1 1 0, [0, 0, 0, 0x6C223000], []), (0x78C, 0x6C221000, .hwLd 1 2 0 1 0, [0, 0, 0, 0x6C221000], []),
      (0x780, 0x77FF0310, .hwMtpr 31 31 3 0x10, [0x77FF0310, 0x58221403], []), (0x784, 0x58221403, .addt 1 2 3, [0x77FF0310, 0x58221403], []),
      (0x784, 0x58221403, .addt 1 2 3, [0, 0x58221403, 0, 0], []), (0x780, 0x77FF0310, .hwMtpr 31 31 3 0x10, [0x77FF0310, 0, 0, 0], []),
      (0x780, 0x77FF0310, .hwMtpr 31 31 3 0x10, [0x77FF0310, 0xA0220004, 0, 0], []),
      (0x780, 0x77FF0310, .hwMtpr 31 31 3 0x10, [0x77FF0310, 0, 0, 0], [⟨0x77, true, [0xA0220004]⟩]),
      (0x788, 0x77E62744, .hwMtpr 31 6 0x27 0x44, delayedReturn, []),
      (0x788, 0x77E62744, .hwMtpr 31 6 0x27 0x44, delayedReturn, [⟨0x77, true, [0xA0220004]⟩]),
      (0x780, 0x77E62744, .hwMtpr 31 6 0x27 0x44, [0x77E62744, 0x7BF7A000, 0, 0], []), (0x780, 0x203F0005, .lda 1 31 5, [0x203F0005], [])]
      : List (Word × BitVec 32 × Instr × List (BitVec 32) × List FetchBlock)).all (fun p =>
        (match fetch (inBlock p.1 p.2.2.2.1 p.2.2.2.2) with | .word w t => w == p.2.1 && palLegal t | _ => false)
          && decide (decode p.2.1 = .ok p.2.2.1)) = true ∧
    isFpRestricted 0x58221403 = true ∧ isTrappable (beginInstr (inBlock 0x780 [0x77FF0310, 0xA0220004, 0, 0] [])) 0xA0220004 = true ∧
    previousWords (beginInstr (inBlock 0x780 [0x77FF0310] [⟨0x77, true, [0xA0220004]⟩])) = [0xA0220004] ∧
    (previousWords (beginInstr (inBlock 0x788 delayedReturn []))) = [] ∧ isDelayedReturn delayedReturn = true := by decide

/-- EncodeInvertsDecode: a register form with its ignored bits set, and a literal form. -/
theorem witness_encodeInverts : decode 0x4022E003 = .ok (.addl 1 (.reg 2) 3) ∧ decode 0x4020B003 = .ok (.addl 1 (.lit 5) 3) := by decide

/-- WordsThatAreNotInstructions: fetched words that are OPCDEC and unlisted, with an empty schedule and with `run` at its head. -/
theorem witness_notInstructions : decode 0x50220023 = .error .opcdec ∧ decode 0x40220023 = .error (.unlisted 0x10) ∧
    (∃ t, fetch { State.reset with icache := [⟨false, 30, true, 0, true, 0, [0x50220023]⟩] } = .word 0x50220023 t) ∧
    (∃ t, fetch { State.reset with icache := [⟨false, 30, true, 0, true, 0, [0x40220023]⟩] } = .word 0x40220023 t) ∧
    ∃ s t : State, s.env = [.run] ∧ s.asleep = false ∧ mchkPending s = false ∧ interruptPending s = false ∧
      fetch { s with env := [] } = .word 0x50220023 t :=
  ⟨by decide, by decide, ⟨_, rfl⟩, ⟨_, rfl⟩,
    ⟨{ State.reset with icache := [⟨false, 30, true, 0, true, 0, [0x50220023]⟩], env := [.run] }, _, rfl, rfl, rfl, rfl, rfl⟩⟩

/-- ReservedAndPrivilegedOpcodesTakeOpcdec: each of the five opcodes; the kernel without HWE, and a user with it. -/
theorem witness_privileged : ([.hwMfpr 1 2 3 4, .hwLd 1 2 0 0 0, .hwMtpr 1 2 3 4, .hwRet 31 2 0 0 0, .hwSt 1 2 0 0 0] : List Instr).all
      (fun i => ([0x19#6, 0x1B#6, 0x1D#6, 0x1E#6, 0x1F#6]).contains ((encode i).extractLsb' 26 6)) = true ∧
    kernel.palMode = false ∧ kernel.iCtl.getLsbD 12 = false ∧ ({ user with iCtl := 0x1006 } : State).palMode = false ∧
    currentMode { user with iCtl := 0x1006 } ≠ 0 := by decide

/-- RegisterNumbers: the first and last shadow registers, and the first and last others. -/
theorem witness_registers : State.reset.palMode = true ∧ ({ State.reset with iCtl := 0x86 } : State).iCtl.getLsbD 7 = true ∧
    (4#5 : Reg).toNat = (if (0 : Fin 8).val < 4 then 4 + (0 : Fin 8).val else 16 + (0 : Fin 8).val) ∧
    (23#5 : Reg).toNat = (if (7 : Fin 8).val < 4 then 4 + (7 : Fin 8).val else 16 + (7 : Fin 8).val) ∧
    (State.reset.palMode && State.reset.iCtl.getLsbD 7) = false ∧ (30#5 : Reg).toNat ∉ [4, 5, 6, 7, 20, 21, 22, 23] ∧
    (30#5 : Reg).toNat = (30 : Fin 31).val ∧ (0#5 : Reg).toNat = (0 : Fin 31).val := by decide

/-- OverflowFormsWriteThenTrap: ADDL/V at the largest longword and one above it, and ADDQ/V at the largest quadword. -/
theorem witness_overflow : ((regs 0x7FFFFFFF 0 0).intRegs[1] = 0x7FFFFFFF ∧ (0x7FFFFFFF + 0 : Int) < 2 ^ (32 - 1)) ∧
    ¬((0x7FFFFFFF + 1 : Int) < 2 ^ (32 - 1)) ∧ ¬((0x7FFFFFFFFFFFFFFF + 1 : Int) < 2 ^ (64 - 1)) ∧ (3 : Reg) ≠ 31 ∧
    ((readInt (regs 0x7FFFFFFF 1 0) 1).setWidth 32).toInt + ((operandValue (regs 0x7FFFFFFF 1 0) (.reg 2)).setWidth 32).toInt = 0x80000000 := by
  decide

/-- IntegerLoads, IntegerStores, LoadLockedAndStoreConditional and UnalignedQuadwordAccesses: a quadword of memory, and one of I/O
space, reached by a load and by a store; a lock that holds, one that was lost, and one on another block; a prefetch of the block 80
instructions before, and one to its alias in I/O space. -/
theorem witness_memory : (effAddr kernel 2 8 = at8 ∧ at8.toNat % 8 = 0 ∧ Reaches kernel (loadRef kernel 0x29 3 at8) 0x1008 ∧
      Reaches kernel (storeRef kernel 0x2D 3 at8) 0x1008 ∧ Reaches kernel (loadRef kernel 0x2B 3 at8) 0x1008 ∧
      Reaches kernel (storeRef kernel 0x2F 3 at8) 0x1008 ∧ Reaches kernel (loadRef kernel 0x0B 3 at8) 0x1008 ∧
      Reaches kernel (storeRef kernel 0x0F 3 at8) 0x1008 ∧ kernel.mem.wf = true) ∧
    (effAddr kernel 4 0 = inIo ∧ Reaches kernel (loadRef kernel 0x28 3 inIo) 0xF0000000000 ∧
      Reaches kernel (storeRef kernel 0x2E 3 inIo) 0xF0000000000 ∧ inIoSpace 0xF0000000000 = true) ∧
    (∀ s : State, s = { kernel with lockFlag := true, lockBlock := 0x40 } → s.lockFlag = true ∧
      (0x1008 : PhysAddr).extractLsb' 6 38 = s.lockBlock ∧ platformGrants s 0x40 = true ∧ absent s 0x1008 = false ∧ inIoSpace 0x1008 = false) ∧
    (∀ s : State, s = { kernel with lockFlag := true, lockBlock := 0x40, ackHeld := true, writeMany := 0x400000 } →
      s.ackHeld = true ∧ dirtyAckInternal s 0x40 = false ∧ s.lockFlag = true) ∧
    (∀ s : State, s = { kernel with lockBlock := 0x40, lockWatch := ⟨80, true, true⟩ } →
      Reaches s (storeRef s 0x2F 3 at8) 0x1008 ∧ s.lockWatch.stolen = true ∧ s.lockWatch.prefetched = true) ∧
    kernel.lockFlag = false ∧ (0x1008 : PhysAddr).extractLsb' 6 38 ≠ 0x41 ∧
    (∀ s : State, s = { kernel with prefetches := [⟨0x40, 80⟩] } →
      (s.prefetches.any fun q => q.block == (0x1008 : PhysAddr).extractLsb' 6 38 && decide (q.age ≤ 80)) = true) ∧
    ((0x80000001008 : PhysAddr).extractLsb' 6 37).setWidth 38 = 0x40#38 ∧ kernel.waiting = false ∧
    (∀ s : State, s = { kernel with cached := [⟨0x40, true, none⟩, ⟨0x41, false, some []⟩] } →
      (s.cached.find? fun c => c.block == 0x40#38) = some ⟨0x40, true, none⟩ ∧
      (s.cached.find? fun c => c.block == 0x41#38) = some ⟨0x41, false, some []⟩) := by
  refine ⟨⟨by decide, by decide, ?_, ?_, ?_, ?_, ?_, ?_, by decide⟩, ⟨by decide, ?_, ?_, by decide⟩, ?_, ?_, ?_, by decide, by decide, ?_,
    by decide, by decide, ?_⟩
  all_goals first | exact ⟨rfl, rfl⟩ | (rintro s rfl; decide) | (rintro s rfl; exact ⟨⟨rfl, rfl⟩, rfl, rfl⟩)

/-- DataReferenceFaults: an address that is not aligned; an aligned one without an entry; one that user mode may not use; a
load to F31 with the floating unit disabled. -/
theorem witness_faults : (effAddr kernel 2 9).toNat % 8 ≠ 0 ∧ (effAddr kernel 5 0).toNat % 8 = 0 ∧
    translateData kernel (loadRef kernel 0x29 3 0x2000) = .error .miss ∧ translateData kernel (storeRef kernel 0x2D 3 0x2000) = .error .miss ∧
    translateData user (loadRef user 0x29 3 at8) = .error (.violation true false false) ∧
    translateData user (storeRef user 0x27 3 at8) = .error (.violation true false false) ∧
    translateData kernel (loadRef kernel 0x0B 3 0x2000) = .error .miss ∧
    translateData user (loadRef user 0x0B 3 at8) = .error (.violation true false false) ∧ fpEnabled kernel = true ∧ fpEnabled user = true ∧
    (∀ s : State, s = { kernel with pctx := 0 } → fpEnabled s = false ∧ (effAddr s 2 9).toNat % 8 ≠ 0 ∧
      translateData s (loadRef s 0x23 31 0x2000) = .error .miss) :=
  ⟨by decide, by decide, rfl, rfl, rfl, rfl, rfl, rfl, rfl, rfl, by rintro s rfl; exact ⟨rfl, by decide, rfl⟩⟩

/-- DataTranslation: an address that is no sign extension; the three superpages; no entry; one entry in each bank, permitted and not. -/
theorem witness_translation : ((0x0000040000000000 : Word) ≠ ((0x0000040000000000 : Word).setWidth 43).signExtend 64) ∧
    at8 = (at8.setWidth 43).signExtend 64 ∧ kernel.mCtl.getLsbD 1 = true ∧ (at8.extractLsb' 30 18).toNat = 0x3FFFE ∧
    kernel.mCtl.getLsbD 2 = true ∧ (inIo.extractLsb' 41 7).toNat = 0x7E ∧
    (∀ v : Word, v = 0xFFFF800000001000 → v = (v.setWidth 48).signExtend 64 ∧ (v.extractLsb' 46 2).toNat = 2) ∧
    (∀ e ∈ kernel.dtb0, ¬EntryMatches e.toTbEntry kernel.dtbAsn0 0x2000) ∧ (∀ e ∈ kernel.dtb1, ¬EntryMatches e.toTbEntry kernel.dtbAsn1 0x2000) ∧
    mapped.dtb0[3]? = some page ∧ mapped.dtb1[7]? = some page ∧ EntryMatches page.toTbEntry 0 0x2000 ∧
    ((List.range 128).all fun i => i == 3 || !decide (EntryMatches (mapped.dtb0.getD i page).toTbEntry 0 0x2000)) = true ∧
    ((List.range 128).all fun i => i == 7 || !decide (EntryMatches (mapped.dtb1.getD i page).toTbEntry 0 0x2000)) = true ∧
    page.re.getLsbD 0 = true ∧ page.we.getLsbD 3 = false := by
  refine ⟨by decide, by decide, by decide, by decide, by decide, by decide, ?_, by decide, by decide, by decide, by decide, by decide, by decide,
    by decide, by decide, by decide⟩
  rintro v rfl
  decide

/-- ByteOrderAndTheMemoryOfBytes: a canonical memory with bytes in it, and both byte orders. -/
theorem witness_byteOrder : kernel.mem.wf = true ∧ kernel.mem.cells.length = 8 ∧ kernel.vaCtl.getLsbD 0 = false ∧
    ({ kernel with vaCtl := 1 } : State).vaCtl.getLsbD 0 = true := by decide

/-- `n` Dirty blocks of one PA[12:6], the newest first. -/
def crowd (n : Nat) : List CachedBlock := (List.range n).map fun i => ⟨BitVec.ofNat 38 (0x40 + 0x80 * i), false, some [0, 0, 0, 0, 0, 0, 0, 0]⟩

/-- LockIsLostToOtherAgents: a store of another agent to a byte of memory that exists; Transition3 on a Dirty block and on a shared one;
initialisation mode off and on, with a Dirty block; seven and eight rivals without Bcache; one in a Bcache of 1MB and none in one of 2MB,
locked and not. -/
theorem witness_lockIsLost : absent { kernel with env := [.remoteWrite 0x1008 7] } ((0x1008 : BitVec 43).setWidth 44) = false ∧
    ({ kernel with env := [.remoteWrite 0x1008 7] } : State).mem.wf = true ∧
    (∀ s : State, s = { kernel with env := [.probe 0x40 .transition3], cached := [⟨0x40, false, some [0, 0, 0, 0, 0, 0, 0, 0]⟩] } →
      s.env = [.probe 0x40 .transition3] ∧
      s.cached.find? (fun c => c.block == 0x40#38) = some ⟨0x40, false, some [0, 0, 0, 0, 0, 0, 0, 0]⟩) ∧
    (∀ s : State, s = { kernel with env := [.probe 0x40 .transition3], cached := [⟨0x40, true, none⟩] } →
      s.cached.find? (fun c => c.block == 0x40#38) = some ⟨0x40, true, none⟩) ∧
    initMode kernel = false ∧ initMode { kernel with writeMany := 2 } = true ∧
    (∀ s : State, s = { kernel with env := [.victim 0x40], cached := crowd 1, writeMany := 2 } → s.mem.wf = true ∧
      writtenOver s 0x40 = some [0, 0, 0, 0, 0, 0, 0, 0]) ∧
    (∀ n, n = 7 ∨ n = 8 → ((crowd (n + 1)).tail.filter fun d => d.block.toNat % 2 ^ 7 == 0x40).length = n) ∧
    (∀ c d : CachedBlock, c.block = 0x40 → d.block = 0x4040 → (d.block.toNat % 2 ^ 14 == c.block.toNat % 2 ^ 14) = true ∧
      (d.block.toNat % 2 ^ 15 == c.block.toNat % 2 ^ 15) = false ∧
      isLocked { kernel with lockFlag := true, lockBlock := d.block } d.block = true ∧ isLocked kernel d.block = false) := by
  refine ⟨by decide, by decide, ?_, ?_, by decide, by decide, ?_, ?_, ?_⟩
  · rintro s rfl; decide
  · rintro s rfl; decide
  · rintro s rfl; decide
  · rintro n (rfl | rfl) <;> decide
  · rintro c d hc hd; rw [hc, hd]; decide

/-- FloatingBranches, FloatingMoves, FpcrAccess, FloatingLoadsAndStores: the unit on and off, in and out of PALmode; LDS
to F31 of memory that exists and of absent memory, in conservative mode and not. -/
theorem witness_floating : fpEnabled State.reset = true ∧ State.reset.palMode = true ∧ fpEnabled kernel = true ∧ kernel.palMode = false ∧
    fpEnabled { kernel with pctx := 0 } = false ∧ (effAddr kernel 2 8).toNat % 8 = 0 ∧
    Reaches kernel (loadRef kernel 0x23 3 at8) 0x1008 ∧ Reaches kernel (loadRef kernel 0x20 31 at8) 0x1008 ∧
    Reaches kernel (storeRef kernel 0x27 3 at8) 0x1008 ∧ kernel.mem.wf = true ∧
    Reaches kernel (loadRef kernel 0x22 31 at8) 0x1008 ∧ absentBlock kernel 0x40 = false ∧
    absentBlock { kernel with memMap := [(0x40, 1)] } 0x40 = true ∧ kernel.mCtl.extractLsb' 4 2 = 0#2 ∧
    ({ kernel with mCtl := 0x16 } : State).mCtl.extractLsb' 4 2 = 1#2 :=
  ⟨rfl, rfl, rfl, rfl, rfl, by decide, ⟨rfl, rfl⟩, ⟨rfl, rfl⟩, ⟨rfl, rfl⟩, by decide, ⟨rfl, rfl⟩, rfl, rfl, by decide, by decide⟩

/-- IeeeFloatingOperates and VaxFloatingOperates: a result that traps and one that does not, with the unit on and off. -/
theorem witness_fpOutcome : fpTraps (fregs 0 0 0) ieeeNone { noConds with dze := true } = true ∧
    fpTraps (fregs 0 0 0) ieeeNone noConds = false ∧ fpEnabled (fregs 0 0 0) = true ∧ fpEnabled { fregs 0 0 0 with pctx := 0 } = false ∧
    (ieeeDiv .t (ieeeCtx (fregs 0 0 0) ieeeNone .normal) 0x3FF0000000000000 0).conds = { noConds with dze := true } ∧
    (vaxAdd .g (vaxRounding .normal) 0x4010000000000000 0).conds = noConds := by decide

/-- FloatingTrapRule: an IEEE instruction with /S, and a disable bit that is set. -/
theorem witness_trapRule : ieeeSu.ieee = true ∧ ieeeSu.s = true ∧ (fregs 0 0 0x0004000000000000).fpcr.getLsbD 50 = true ∧
    (fpTrapSum (fregs 0 0 0x0004000000000000) ieeeSu 3 { noConds with dze := true }).dze = false ∧
    (fpTrapSum (fregs 0 0 0x0004000000000000) ieeeNone 3 { noConds with dze := true }).dze = true := by decide

/-- IeeeArithmeticIsCorrectlyRounded: finite operands, also S images, at both ends of the range; a positive one; a zero sum. -/
theorem witness_ieee : ([0x0010000000000000, 0x7FEFFFFFFFFFFFFF, 0x3810000000000000, 0x47EFFFFFE0000000, 0xBFF0000000000000] : List Word).all
      (fun v => decide (ieeeClass v = .finite)) = true ∧ isSImage 0x3810000000000000 = true ∧ isSImage 0x47EFFFFFE0000000 = true ∧
    (0x3810000000000000 : Word).getLsbD 63 = false ∧ Rounding.plus ≠ .nearestAway ∧ (1 : Word) ≠ 0 := by decide

theorem witness_ieee_zero : (ieeeNumber 0x3FF0000000000000 : ℝ) + ieeeNumber 0xBFF0000000000000 = 0 ∧
    (ieeeNumber 0x3FF0000000000000 : ℝ) + ieeeNumber 0x3FF0000000000000 ≠ 0 := by
  have h : ieeeNumber 0x3FF0000000000000 = 1 := by
    have h1 : (0x3FF0000000000000 : Word).getLsbD 63 = false := by decide
    have h2 : ((0x3FF0000000000000 : Word).extractLsb' 0 52).toNat = 0 := by decide
    have h3 : ((0x3FF0000000000000 : Word).extractLsb' 52 11).toNat = 1023 := by decide
    rw [ieeeNumber, if_neg (by decide), h1, h2, h3]; norm_num
  have h' : ieeeNumber 0xBFF0000000000000 = -1 := by
    have h1 : (0xBFF0000000000000 : Word).getLsbD 63 = true := by decide
    have h2 : ((0xBFF0000000000000 : Word).extractLsb' 0 52).toNat = 0 := by decide
    have h3 : ((0xBFF0000000000000 : Word).extractLsb' 52 11).toNat = 1023 := by decide
    rw [ieeeNumber, if_neg (by decide), h1, h2, h3]; norm_num
  rw [h, h']; norm_num

/-- VaxArithmeticIsCorrectlyRounded: usable operands at both ends, zero, and a reserved operand. -/
theorem witness_vax : ([0, 0x0010000000000000, 0x7FFFFFFFFFFFFFFF, 0xC010000000000000] : List Word).all (fun v => decide (vaxClass .g v ≠ .bad)) = true ∧
    vaxClass .g 0x8000000000000000 = .bad ∧ vaxClass .d 0x4080000000000000 ≠ .bad ∧ vaxClass .d 0x8000000000000000 = .bad ∧
    (0xC010000000000000 : Word).getLsbD 63 = true ∧ (0x7FFFFFFFFFFFFFFF : Word).getLsbD 63 = false := by decide

/-- FloatingComparesAndIntegerConversions: a number, a zero, an infinity and a NaN. -/
theorem witness_compares : ([0, 0x8000000000000000, 0x7FF0000000000000, 0x3FF0000000000000] : List Word).all
      (fun v => !isNaN v && !isDenormal v) = true ∧ ieeeClass 0x3FF0000000000000 = .finite ∧ ieeeClass 0x8000000000000000 = .zero ∧
    ieeeClass 0xFFF0000000000000 = .inf ∧ isNaN 0x7FF0000000000001 = true ∧ vaxClass .g 0x4010000000000000 ≠ .bad := by decide

/-- IeeeSpecialOperands: denormals, both NaNs, infinities and zeros, as S images too. -/
theorem witness_special : ([0x0000000020000000, 0x800FFFFFE0000000] : List Word).all (fun v => isDenormal v && isSImage v) = true ∧
    isNaN 0x7FF8000000000000 = true ∧ isSNaN 0x7FF4000000000000 = true ∧ isSImage 0x7FF4000000000000 = true ∧
    isDenormal 0x7FF4000000000000 = false ∧ ieeeClass 0x7FF0000000000000 = .inf ∧ isSImage 0xFFF0000000000000 = true ∧
    ieeeClass 0x8000000000000000 = .zero ∧ (0xFFF0000000000000 : Word).getLsbD 63 = true ∧
    ({ mode := .minus, dnz := true } : IeeeCtx).dnz = true ∧ ({ mode := .minus, dnz := false } : IeeeCtx).dnz = false := by decide

/-- ErrorEventsAndTagParity: detectors off and on; a load, LDQ_U, a load to F31, a floating store and three virtual types of HW_LD and HW_ST
that meet an armed tag error. -/
theorem witness_errors : State.reset.dcCtl.getLsbD 7 = false ∧ ({ State.reset with dcCtl := 0xC3 } : State).dcCtl.getLsbD 7 = true ∧
    (∀ s : State, s = { kernel with tagErr := true, dcCtl := 0x43 } → translateData s (loadRef s 0x29 3 at8) = .ok 0x1008 ∧
      at8.toNat % 8 = 0 ∧ s.tagErr = true ∧ s.dcCtl.getLsbD 6 = true ∧ translateData s (loadRef s 0x0B 3 at8) = .ok 0x1008 ∧
      translateData s (loadRef s 0x22 31 at8) = .ok 0x1008 ∧ translateData s (storeRef s 0x27 3 at8) = .ok 0x1008) ∧
    (∀ s : State, s = { State.reset with tagErr := true, dcCtl := 0x43, mCtl := 0x2 } → palLegal s = true ∧
      translateData s ⟨at8, 0x1B, 3, false, true, true, s.dtbAltMode, false⟩ = .ok 0x1008 ∧
      translateData s ⟨at8, 0x1F, 3, true, false, true, currentMode s, false⟩ = .ok 0x1008 ∧
      translateData s ⟨at8, 0x1B, 3, false, true, false, 0, true⟩ = .ok 0x1008) := by
  refine ⟨by decide, by decide, ?_, ?_⟩
  · rintro s rfl; exact ⟨rfl, by decide, rfl, rfl, rfl, rfl, rfl⟩
  · rintro s rfl; exact ⟨by decide, rfl, rfl, rfl⟩

/-- PerformanceCounters: counter 0 on in both modes, at the last value before it wraps, and a stopped one. -/
theorem witness_counters : (∀ s : State, s = { State.reset with iCtl := 0xC0007 } → pctr0Enabled s = true ∧ pctr1Enabled s = true ∧
      s.pctr.sl0 = false) ∧
    (∀ s : State, s = { State.reset with iCtl := 0x40007, pctr := { State.reset.pctr with sl0 := true, pctr0 := 0xFFFFF } } →
      pctr0Enabled s = true ∧ s.pctr.sl0 = true ∧ s.pmStopped = false ∧ s.waiting = false ∧ 2 ^ 20 ≤ s.pctr.pctr0.toNat + 1) ∧
    ({ State.reset with pmStopped := true } : State).pmStopped = true ∧ (some (0x4022E003 : BitVec 32)).any isPctrWrite = false := by
  refine ⟨?_, ?_, by decide, by decide⟩ <;> (rintro s rfl; decide)

/-- MiscellaneousInstructions: MB with and without its acknowledgement, and WH64 on an address without an entry, without permission, in I/O space, with the hint disabled, and enabled. -/
theorem witness_wh64 : translateData kernel (writeHintRef kernel 0x2000) = .error .miss ∧
    translateData user (writeHintRef user at8) = .error (.violation true false false) ∧
    translateData kernel (writeHintRef kernel inIo) = .ok 0xF0000000000 ∧ inIoSpace 0xF0000000000 = true ∧
    translateData kernel (writeHintRef kernel at8) = .ok 0x1008 ∧ kernel.writeMany.getLsbD 18 = false ∧ kernel.mem.wf = true ∧
    ({ kernel with writeMany := 0x40000 } : State).writeMany.getLsbD 18 = true ∧ kernel.ackHeld = false ∧
    ({ kernel with ackHeld := true } : State).ackHeld = true :=
  ⟨rfl, rfl, rfl, rfl, rfl, rfl, by decide, by decide, rfl, rfl⟩

/-- CallPal: the ends of the two ranges in kernel and user mode, and the functions between and above them. -/
theorem witness_callPal : currentMode kernel = 0 ∧ currentMode user ≠ 0 ∧ (0x3F : BitVec 26).toNat ≤ 0x3F ∧ 0x80 ≤ (0x80 : BitVec 26).toNat ∧
    (0xBF : BitVec 26).toNat ≤ 0xBF ∧ ¬((0x40 : BitVec 26).toNat ≤ 0x3F ∨ (0x80 ≤ (0x40 : BitVec 26).toNat ∧ (0x40 : BitVec 26).toNat ≤ 0xBF)) ∧
    ¬((0x7F : BitVec 26).toNat ≤ 0x3F ∨ (0x80 ≤ (0x7F : BitVec 26).toNat ∧ (0x7F : BitVec 26).toNat ≤ 0xBF)) ∧
    ¬((0xC0 : BitVec 26).toNat ≤ 0x3F ∨ (0x80 ≤ (0xC0 : BitVec 26).toNat ∧ (0xC0 : BitVec 26).toNat ≤ 0xBF)) := by decide

/-- HwRet, HwMfpr, HwMtprRegisters, HwMtprTranslationBuffers: PALmode, and the kernel with HWE. -/
theorem witness_palLegal : palLegal State.reset = true ∧ palLegal { kernel with iCtl := 0x101E } = true ∧
    ({ kernel with iCtl := 0x101E } : State).palMode = false ∧ (7 : Reg) ≠ 31 ∧ within iCtlMask State.reset.iCtl = true := by decide

/-- HwMfpr: the three layouts of VA_FORM and IVA_FORM. -/
theorem witness_hwMfpr : State.reset.vaCtl.getLsbD 1 = false ∧ State.reset.vaCtl.getLsbD 2 = false ∧
    ({ State.reset with vaCtl := 2 } : State).vaCtl.getLsbD 1 = true ∧ ({ State.reset with vaCtl := 4 } : State).vaCtl.getLsbD 2 = true ∧
    0x40 ≤ (0x40 : BitVec 8).toNat ∧ (0x7F : BitVec 8).toNat ≤ 0x7F := by decide

/-- HwMtprRegisters: values of each kind for I_CTL and DC_CTL, and an index that names no register. -/
theorem witness_hwMtpr : (2 : Word).extractLsb' 1 2 ≠ 0#2 ∧ (1 : Word).extractLsb' 1 2 = 0#2 ∧ (3 : Word).getLsbD 2 = false ∧
    (3 : Word).extractLsb' 0 2 ≠ 0#2 ∧ (4 : Word).getLsbD 2 = true ∧ (0 : Word).extractLsb' 0 2 = 0#2 ∧
    (0x7F : BitVec 8).extractLsb' 6 2 = 1#2 ∧ (0xFF : BitVec 8).extractLsb' 6 2 ≠ 1#2 ∧ (0x05 : BitVec 8).extractLsb' 6 2 ≠ 1#2 ∧
    (pctr0Enabled State.reset = false ∧ 2 ^ 20 - 16 < ((0xFFFF1 <<< 28 : Word).extractLsb' 28 20).toNat ∧
      ¬2 ^ 20 - 16 < ((0xFFFF0 <<< 28 : Word).extractLsb' 28 20).toNat) ∧
    (∀ s : State, s = { State.reset with iCtl := 0x40007, pctr := { State.reset.pctr with pctr0 := 0xFFFF1 } } →
      pctr0Enabled s = true ∧ pctr0Enabled { s with iCtl := 6 } = false ∧ 2 ^ 20 - 16 < s.pctr.pctr0.toNat) := by
  refine ⟨by decide, by decide, by decide, by decide, by decide, by decide, by decide, by decide, by decide, by decide, ?_⟩
  rintro s rfl
  decide

/-- HwMtprTranslationBuffers: an entry of each bank that matches the tag in its holding register, and a bank without one; an
acknowledgement that is withheld with I_CTL[TB_MB_EN] set. -/
theorem witness_tbFill : EntryMatches page.toTbEntry 0 ((1 : BitVec 35).setWidth 64 <<< 13) ∧ page ∈ mapped.dtb0 ∧
    (∀ e ∈ kernel.dtb0, ¬EntryMatches e.toTbEntry kernel.dtbAsn0 (kernel.dtbTag0.setWidth 64 <<< 13)) ∧
    (State.reset.ackHeld && State.reset.iCtl.getLsbD 22) = false ∧
    ∀ s : State, s = { State.reset with ackHeld := true, iCtl := 0x400006 } → (s.ackHeld && s.iCtl.getLsbD 22) = true := by
  refine ⟨by decide, by decide, by decide, by decide, ?_⟩
  rintro s rfl
  decide

/-- HwLoadAndStore: virtual references that reach memory, miss and are denied, in the current and in the alternate mode. -/
theorem witness_hwLoadStore : (State.reset.tagErr && State.reset.dcCtl.getLsbD 6) = false ∧ palLegal { user with palMode := true } = true ∧
    Reaches { user with palMode := true } { ea := at8, opcode := 0x1B, reg := 3, write := false, checkRead := true, checkWrite := true, mode := 0, vpte := false }
      0x1008 ∧
    translateData { user with palMode := true } { ea := 0x2000, opcode := 0x1B, reg := 3, write := false, checkRead := true, checkWrite := false, mode := 0, vpte := true } = .error .miss ∧
    translateData { user with palMode := true } { ea := at8, opcode := 0x1F, reg := 3, write := true, checkRead := false, checkWrite := true, mode := 3, vpte := false } = .error (.violation true false false) :=
  ⟨rfl, rfl, ⟨rfl, rfl⟩, rfl, rfl⟩

/-- An SROM image of one Icache block, at 0x780; its first instruction is LDA R1, 5(R31). -/
def oneBlock : SromImage :=
  { lines := [⟨0x780, [0x203F0005, 0, 0, 0]⟩, ⟨0x790, [0, 0, 0, 0]⟩, ⟨0x7A0, [0, 0, 0, 0]⟩, ⟨0x7B0, [0, 0, 0, 0]⟩]
    writeOnce := { State.reset.writeOnce with enableProbeCheck := true } }

/-- ResetsAndWakeUp: asleep with and without an enabled request, fault reset before and after the first write of SLEEP, and a written block. -/
theorem witness_resets : (({ kernel with asleep := true } : State).asleep = true ∧ isum { kernel with asleep := true } = 0) ∧
    isum { kernel with asleep := true, irqPins := 1, ierCm := 0x200000000 } ≠ 0 ∧ kernel.sleepArmed = false ∧
    ({ kernel with sleepArmed := true } : State).sleepArmed = true ∧ (State.powerUp (some oneBlock) []).srom = some oneBlock ∧
    (warmReset (State.powerUp (some oneBlock) [])).icache.length = 1 ∧
    (∀ s : State, s = { kernel with cached := [⟨0x40, false, some [0, 0, 0, 0, 0, 0, 0, 0]⟩] } →
      s.mem.wf = true ∧ (s.cached.Pairwise fun b c => b.block ≠ c.block) ∧ (∀ c ∈ s.cached, (0x1008 : Nat) / 64 = c.block.toNat)) := by
  refine ⟨by decide, by decide, by decide, by decide, by decide, by decide, ?_⟩
  rintro s rfl
  decide

/-! ### Steps -/

/-- The first instruction after reset runs from where `withFetchWord` puts it: LDA R1, 5(R31). -/
theorem test_step_runs : after (step (State.reset.withFetchWord 32 0x203F0005)) (fun t => (readInt t 1, t.pc, t.palMode)) = some (5, 0x784, true) := by
  decide

/-- The first instruction of an SROM image runs from the Icache (R940, R944). -/
theorem test_step_srom : after (step (State.powerUp (some oneBlock) [])) (fun t => (readInt t 1, t.pc, t.writeOnce.enableProbeCheck)) =
    some (5, 0x784, true) := by decide

/-- R1014, R1029, R1039: ADDT beside HW_MTPR; HW_LDQ/L in the fourth place; LDL beside HW_MTPR, and in the block before it. -/
theorem test_step_restricted : refusal (step (inBlock 0x780 [0x77FF0310, 0x58221403, 0, 0] [])) = some .mixedFetchBlock ∧
    refusal (step (inBlock 0x78C [0, 0, 0, 0x6C223000] [])) = some .lockedLoadFourth ∧
    refusal (step (inBlock 0x780 [0x77FF0310, 0xA0220004, 0, 0] [])) = some .trappableWithMtpr ∧
    refusal (step (inBlock 0x780 [0x77FF0310, 0, 0, 0] [⟨0x77, true, [0xA0220004, 0, 0, 0]⟩])) = some .trappableWithMtpr ∧
    refusal (step (inBlock 0x788 delayedReturn [⟨0x77, true, [0xA0220004, 0, 0, 0]⟩])) = some .trappableWithMtpr ∧
    refusal (step (inBlock 0x780 [0x77FF0310, 0x04000000, 0, 0] [])) = some .trappableWithMtpr ∧
    refusal (step (inBlock 0x780 [0x77FF0310, 0, 0, 0] [⟨0x77, true, [0x5FE20603, 0, 0, 0]⟩])) = some .trappableWithMtpr := by decide

/-- Listings of spec/94_source_listings.md that run: D.42, D.26 (IC_FLUSH, BNE R31, HW_RET/STALL; and its end, I_CTL beside
HW_RET/STALL), D.1 (MULQ/V R31; the C_DATA loop). -/
theorem test_step_listings : ([delayedReturn, [0x47FF041F, 0x47FF041F, 0x77E41110, 0x7BE5A000], [0x47FF041F, 0x47FF041F, 0x77FF1310, 0xF7FFFFFF, 0x7BE6A000],
      [0x47E03400, 0x4FFF0C00, 0x77FF1410, 0x47E03400], [0x47FF041F, 0x47FF041F, 0x77E12B40, 0xE4000002]] : List (List (BitVec 32))).all
      (fun l => (refusal (step (inBlock 0x788 l []))).isNone) = true := by decide

/-- R665, R666: CVTQF and CVTQG in the block before a HW_MTPR do not stop it, and CVTQS does. -/
theorem test_step_noException :
    refusal (step (inBlock 0x780 [0x77FF0310, 0, 0, 0] [⟨0x77, true, [0x57E21783, 0x57E207C3, 0, 0]⟩])) = none ∧
    refusal (step (inBlock 0x780 [0x77FF0310, 0, 0, 0] [⟨0x77, true, [0x5BE21783, 0, 0, 0]⟩])) = some .trappableWithMtpr := by decide

/-- DFAULT of an armed Dcache tag error, and none with DCTAG_PAR_EN clear (R902, R915). -/
theorem test_tagParity : after (exec (.ldq 3 2 8) { kernel with tagErr := true, dcCtl := 0x43 }) (fun t => (t.pc, t.mmStat, t.tagErr)) =
      some (0x380, 0x690, false) ∧
    after (exec (.ldq 3 2 8) { kernel with tagErr := true }) (readInt · 3) = some 0x8877665544332211 := by decide

/-- R1028, R871: a value within 16 of overflow is refused for a counter that does not count, and 2^20 - 16 is not. -/
theorem test_pctrNearOverflow :
    (match exec (.hwMtpr 31 2 0x14 0) (regs 0 0x000FFFF1000000 0) with | .fault r => some r | _ => none) = none ∧
    (match exec (.hwMtpr 31 2 0x14 0) (regs 0 0x0000FFFF10000000 0) with | .fault r => some r | _ => none) = some .counterNearOverflow ∧
    after (exec (.hwMtpr 31 2 0x14 0) (regs 0 0x0000FFFF00000000 0)) (fun t => (t.pctr.pctr0, t.pc0Req)) = some (0xFFFF0, false) := by decide

/-- A native kernel with an enabled pin enters at PAL_BASE + 0x680 (R850). -/
theorem test_step_interrupt : after (step { kernel with irqPins := 1, ierCm := 0x200000000 }) (fun t => (t.pc, t.excAddr)) =
    some (0x680, 0xFFFFFFFF80000780) := by decide

/-- A fetch without an ITB entry enters at PAL_BASE + 0x580 (R837). -/
theorem test_step_itbMiss : after (step (native [] 0x2000 false)) (fun t => (t.pc, t.excAddr)) = some (0x580, 0x2000) := by decide

/-- R245: with TB_MB_EN a write of DTB_PTE0 waits while the acknowledgement is withheld, and writes once it is not. -/
theorem test_tbBarrier :
    after (exec (.hwMtpr 31 2 0x21 0) { regs 0 7 0 with ackHeld := true, iCtl := 0x400006 }) (fun t => (t.waiting, t.dtbPte0)) =
      some (true, 0) ∧
    after (exec (.hwMtpr 31 2 0x21 0) { regs 0 7 0 with iCtl := 0x400006 }) (fun t => (t.waiting, t.dtbPte0)) = some (false, 7) := by decide

/-- R255: a prefetch 80 instructions before a LDx_L of its block counts, one 81 before does not; R232: one to I/O space is of PA[42:6]. -/
theorem test_prefetchBeforeLock :
    after (exec (.ldqL 3 2 8) { kernel with prefetches := [⟨0x40, 80⟩] }) (·.lockWatch.prefetched) = some true ∧
    after (exec (.ldqL 3 2 8) { kernel with prefetches := [⟨0x40, 81⟩, ⟨0x41, 0⟩] }) (·.lockWatch.prefetched) = some false ∧
    (notePrefetch kernel 0x80000001008).prefetches = [⟨0x40, 0⟩] := by decide

/-- R948: data that a store has left in the caches are lost at the wake-up, and are not once an ECB has written them back (R730). -/
theorem test_wakeUpLosesDirtyData :
    after (exec (.stq 1 2 8) kernel) (fun t => (t.mem.read 0x1008 8, (mainMemory t).read 0x1008 8,
      after (evictAfter 0x63E2E800 t (.next t)) fun u => (mainMemory u).read 0x1008 8)) =
      some (0x1122334455667788, 0x8877665544332211, some 0x1122334455667788) := by decide

/-- R953: an ECB in initialisation mode, where WrVictimBlk is squashed, loses what a store has left in the caches before. -/
theorem test_evictInInitMode :
    after (exec (.stq 1 2 8) kernel) (fun t =>
      after (evictAfter 0x63E2E800 t (.next { t with writeMany := 2 })) fun u => (u.mem.read 0x1008 8, u.cached)) =
      some (some (0x8877665544332211, [])) := by decide

/-- R304, A23: ECB of an address that two DTB entries match stops. -/
theorem test_ecbTwoMatches :
    (match evictAfter 0x63E2E800 { twice with intRegs := kernel.intRegs.set 2 0x2000 } (.next kernel) with | .fault f => some f | _ => none) =
      some .multipleTbMatch := by decide

/-- R183, R8: a block of one index displaces another from a Bcache of 1MB, by writing it back, and not from one of 2MB; without Bcache
the ninth of one PA[12:6] displaces one of eight; a locked block stays (R253 (d)). -/
theorem test_makeRoom :
    ((makeRoom { kernel with writeMany := 1, cached := [⟨0x4040, false, some []⟩, ⟨0x40, false, some []⟩] }).cached.map (·.block)) = [0x4040] ∧
    (makeRoom { kernel with writeMany := 5, cached := [⟨0x4040, false, some []⟩, ⟨0x40, false, some []⟩] }).cached.length = 2 ∧
    (makeRoom { kernel with cached := crowd 8 }).cached.length = 8 ∧ (victims { kernel with cached := crowd 9 }).length = 8 ∧
    (victims { kernel with cached := crowd 9, lockFlag := true, lockBlock := 0xC0 }).length = 7 := by decide

/-- R252, R183: with SET_DIRTY_ENABLE = 111 and a refusal a store-conditional to a Clean block fails, and one to a Dirty block succeeds,
though acknowledgements are withheld. -/
theorem test_stcToDirtyBlock :
    after (exec (.stqC 1 2 8) { kernel with lockFlag := true, lockBlock := 0x40, writeMany := 0x3400000, stcGrant := false })
      (fun t => readInt t 1) = some 0 ∧
    after (exec (.stqC 1 2 8) { kernel with
        lockFlag := true, lockBlock := 0x40, writeMany := 0x3400000, stcGrant := false, ackHeld := true,
        cached := [⟨0x40, false, some [0, 0, 0, 0, 0, 0, 0, 0]⟩] })
      (fun t => (readInt t 1, t.waiting)) = some (1, false) := by decide
end Sys2Proof.Tests
end

/-! # Settling the family spec/40_int_memory.md: LDA and LDAH -/

section

namespace Sys2Proof.Machine

/-! ### The two address sums, as integers -/

theorem effAddr_eq_ofInt (s : State) (rb : Reg) (disp : BitVec 16) :
    effAddr s rb disp = BitVec.ofInt 64 ((readInt s rb).toInt + 1 * disp.toInt) := by
  rw [Int.one_mul, BitVec.ofInt_add, BitVec.ofInt_toInt]
  rfl

/-- LDAH shifts the displacement after its sign extension (R382), so the shift is a product that loses no sign. -/
theorem signExtend_shiftLeft_eq_ofInt (disp : BitVec 16) :
    disp.signExtend 64 <<< 16 = BitVec.ofInt 64 (65536 * disp.toInt) := by
  rw [BitVec.shiftLeft_eq_mul_twoPow, Int.mul_comm, BitVec.ofInt_mul]
  rfl

theorem readInt_add_shifted_eq_ofInt (s : State) (rb : Reg) (disp : BitVec 16) :
    readInt s rb + (disp.signExtend 64 <<< 16) = BitVec.ofInt 64 ((readInt s rb).toInt + 65536 * disp.toInt) := by
  rw [BitVec.ofInt_add, BitVec.ofInt_toInt, signExtend_shiftLeft_eq_ofInt]

/-! ### What the two instructions do -/

theorem exec_lda (ra rb : Reg) (disp : BitVec 16) (s : State) :
    exec (.lda ra rb disp) s = .next (advance (writeInt s ra (effAddr s rb disp))) := rfl

theorem exec_ldah (ra rb : Reg) (disp : BitVec 16) (s : State) :
    exec (.ldah ra rb disp) s = .next (advance (writeInt s ra (readInt s rb + (disp.signExtend 64 <<< 16)))) := rfl

theorem completes_lda (ra rb : Reg) (disp : BitVec 16) (s : State) :
    Completes (exec (.lda ra rb disp) s)
      (WroteInt s ra (BitVec.ofInt 64 ((readInt s rb).toInt + 1 * disp.toInt))) := by
  rw [exec_lda, ← effAddr_eq_ofInt]
  exact completes_next (wroteInt_advance s ra _)

theorem completes_ldah (ra rb : Reg) (disp : BitVec 16) (s : State) :
    Completes (exec (.ldah ra rb disp) s)
      (WroteInt s ra (BitVec.ofInt 64 ((readInt s rb).toInt + 65536 * disp.toInt))) := by
  rw [exec_ldah, ← readInt_add_shifted_eq_ofInt]
  exact completes_next (wroteInt_advance s ra _)

/-- Settles O28: one case for each instruction of the list, its opcode read off the packed word. -/
theorem loadAddress : Obligations.LoadAddress := by
  unfold Obligations.LoadAddress
  intro p hp ra rb disp s
  obtain rfl | rfl : p = (.lda, 0x08, 1) ∨ p = (.ldah, 0x09, 65536) := by simpa using hp
  · exact ⟨opcode_packMem rfl (by norm_num), completes_lda ra rb disp s⟩
  · exact ⟨opcode_packMem rfl (by norm_num), completes_ldah ra rb disp s⟩

end Sys2Proof.Machine
end

/-! # Settling the family spec/42_int_arith.md: sums, compares and products -/

section

namespace Sys2Proof.Machine

/-! ### The arithmetic of quadwords, as integers -/

theorem ofInt_sub_eq (x y : Int) : BitVec.ofInt 64 (x - y) = BitVec.ofInt 64 x - BitVec.ofInt 64 y := by
  rw [Int.sub_eq_add_neg, BitVec.ofInt_add, BitVec.ofInt_neg, ← BitVec.sub_eq_add_neg]

theorem add_eq_ofInt (a b : Word) : a + b = BitVec.ofInt 64 (a.toInt + b.toInt) := by
  rw [BitVec.ofInt_add, BitVec.ofInt_toInt, BitVec.ofInt_toInt]

theorem sub_eq_ofInt (a b : Word) : a - b = BitVec.ofInt 64 (a.toInt - b.toInt) := by
  rw [ofInt_sub_eq, BitVec.ofInt_toInt, BitVec.ofInt_toInt]

theorem mul_eq_ofInt (a b : Word) : a * b = BitVec.ofInt 64 (a.toInt * b.toInt) := by
  rw [BitVec.ofInt_mul, BitVec.ofInt_toInt, BitVec.ofInt_toInt]

theorem twoPow_eq_ofInt (k : Nat) : BitVec.twoPow 64 k = BitVec.ofInt 64 (2 ^ k) := by
  apply BitVec.eq_of_toNat_eq
  rw [BitVec.toNat_twoPow, BitVec.toNat_ofInt]
  norm_cast

/-- The scaling by 4 or 8 of the S4 and S8 forms is a shift by 2 or 3. -/
theorem shiftLeft_eq_ofInt {k : Nat} {n : Int} (h : n = 2 ^ k) (a : Word) : a <<< k = BitVec.ofInt 64 (n * a.toInt) := by
  rw [BitVec.shiftLeft_eq_mul_twoPow, BitVec.mul_comm, BitVec.ofInt_mul, BitVec.ofInt_toInt, h, twoPow_eq_ofInt]

theorem scaledAdd_eq_ofInt {k : Nat} {n : Int} (h : n = 2 ^ k) (a b : Word) :
    a <<< k + b = BitVec.ofInt 64 (n * a.toInt + b.toInt) := by
  rw [BitVec.ofInt_add, BitVec.ofInt_toInt, shiftLeft_eq_ofInt h]

theorem scaledSub_eq_ofInt {k : Nat} {n : Int} (h : n = 2 ^ k) (a b : Word) :
    a <<< k - b = BitVec.ofInt 64 (n * a.toInt - b.toInt) := by
  rw [ofInt_sub_eq, BitVec.ofInt_toInt, shiftLeft_eq_ofInt h]

/-! ### The longword of a result -/

/-- 2^32 divides 2^64, so the low longword of a quadword result is the exact result modulo 2^32. -/
theorem longOf_ofInt (x : Int) : longOf (BitVec.ofInt 64 x) = BitVec.ofInt 32 x := by
  apply BitVec.eq_of_toNat_eq
  rw [longOf, BitVec.extractLsb'_toNat, BitVec.toNat_ofInt, BitVec.toNat_ofInt, Nat.shiftRight_zero]
  omega

theorem sextLong_of_eq_ofInt {v : Word} {x : Int} (h : v = BitVec.ofInt 64 x) : sextLong v = (BitVec.ofInt 32 x).signExtend 64 := by
  rw [h, sextLong, longOf_ofInt]

/-! ### Truth values, the high half of a product, and one bit for each byte -/

theorem truth_eq_ite {b c : Bool} (h : b = c) : truth b = if c then 1 else 0 := by
  rw [h, truth]

theorem toNat_setWidth_mul_setWidth (a b : Word) : (a.setWidth 128 * b.setWidth 128).toNat = a.toNat * b.toNat := by
  have hlt : a.toNat * b.toNat < 2 ^ 64 * 2 ^ 64 := Nat.mul_lt_mul'' a.isLt b.isLt
  rw [BitVec.toNat_mul, BitVec.toNat_setWidth_of_le (by norm_num), BitVec.toNat_setWidth_of_le (by norm_num)]
  exact Nat.mod_eq_of_lt (by omega)

theorem mulHigh_eq_ofNat (a b : Word) : mulHigh a b = BitVec.ofNat 64 (a.toNat * b.toNat / 2 ^ 64) := by
  apply BitVec.eq_of_toNat_eq
  rw [mulHigh, BitVec.extractLsb'_toNat, toNat_setWidth_mul_setWidth, Nat.shiftRight_eq_div_pow, BitVec.toNat_ofNat]

theorem getLsbD_ofBool (b : Bool) (i : Nat) : (ofBool b).getLsbD i = (decide (i = 0) && b) := by
  cases b <;> simp [ofBool, BitVec.getLsbD_one]

theorem getLsbD_packBits {l : List Bool} {i : Nat} (hi : i < 64) : (packBits l).getLsbD i = l.getD i false := by
  induction l generalizing i with
  | nil => simp [packBits]
  | cons b l ih =>
    cases i with
    | zero => simp only [packBits, BitVec.getLsbD_or, BitVec.getLsbD_shiftLeft, getLsbD_ofBool]; simp
    | succ i =>
      simp only [packBits, BitVec.getLsbD_or, BitVec.getLsbD_shiftLeft, getLsbD_ofBool, Nat.add_sub_cancel, ih (Nat.lt_of_succ_lt hi)]
      simp [hi]

theorem getLsbD_compareBytes (a b : Word) {i : Nat} (hi : i < 8) :
    (compareBytes a b).getLsbD i = decide ((byteOf b i).toNat ≤ (byteOf a i).toNat) := by
  rw [compareBytes, getLsbD_packBits (by omega)]
  simp [List.getD_eq_getElem?_getD, hi, BitVec.ule]

theorem getLsbD_compareBytes_high (a b : Word) {i : Nat} (hi : 8 ≤ i) : (compareBytes a b).getLsbD i = false := by
  by_cases h : i < 64
  · rw [compareBytes, getLsbD_packBits h]
    simp [hi]
  · exact BitVec.getLsbD_of_ge _ _ (by omega)

/-! ### What an integer operate does -/

theorem completes_intResult (rc : Reg) (v : Word) (s : State) : Completes (intResult rc v s) (WroteInt s rc v) :=
  completes_next (wroteInt_advance s rc v)

/-- For a constructor the first and the third hypothesis are `rfl`: its row in the encoder and its arm of `exec`. The last one carries
the content, that the word the model computes is the word its rule states. -/
theorem oprCode_and_completes {i : Instr} {op f : Nat} {ra : Reg} {rb : Operand} {rc : Reg} {s : State} {v w : Word}
    (henc : encode i = packOpr (BitVec.ofNat 6 op) (BitVec.ofNat 7 f) ra rb rc) (hcode : op < 2 ^ 6 ∧ f < 2 ^ 7)
    (hexec : exec i s = intResult rc v s) (hv : v = w) : OprCode i op f ∧ Completes (exec i s) (WroteInt s rc w) := by
  refine ⟨oprCode_pack henc hcode.1 hcode.2, ?_⟩
  rw [hexec, hv]
  exact completes_intResult rc w s

/-- Settles O18: six quadword forms, by the integer each sum stands for, and the longword of each. -/
theorem addAndSubtract : Obligations.AddAndSubtract := by
  unfold Obligations.AddAndSubtract
  simp only [List.forall_mem_cons, List.not_mem_nil, false_imp_iff, implies_true, and_true]
  have four : (4 : Int) = 2 ^ 2 := by norm_num
  have eight : (8 : Int) = 2 ^ 3 := by norm_num
  refine ⟨⟨?addq, ?s4addq, ?s8addq, ?subq, ?s4subq, ?s8subq⟩, ?addl, ?s4addl, ?s8addl, ?subl, ?s4subl, ?s8subl⟩ <;> intro ra rb rc s
  case addq => exact oprCode_and_completes rfl (by norm_num) rfl (add_eq_ofInt _ _)
  case s4addq => exact oprCode_and_completes rfl (by norm_num) rfl (scaledAdd_eq_ofInt four _ _)
  case s8addq => exact oprCode_and_completes rfl (by norm_num) rfl (scaledAdd_eq_ofInt eight _ _)
  case subq => exact oprCode_and_completes rfl (by norm_num) rfl (sub_eq_ofInt _ _)
  case s4subq => exact oprCode_and_completes rfl (by norm_num) rfl (scaledSub_eq_ofInt four _ _)
  case s8subq => exact oprCode_and_completes rfl (by norm_num) rfl (scaledSub_eq_ofInt eight _ _)
  case addl => exact oprCode_and_completes rfl (by norm_num) rfl (sextLong_of_eq_ofInt (add_eq_ofInt _ _))
  case s4addl => exact oprCode_and_completes rfl (by norm_num) rfl (sextLong_of_eq_ofInt (scaledAdd_eq_ofInt four _ _))
  case s8addl => exact oprCode_and_completes rfl (by norm_num) rfl (sextLong_of_eq_ofInt (scaledAdd_eq_ofInt eight _ _))
  case subl => exact oprCode_and_completes rfl (by norm_num) rfl (sextLong_of_eq_ofInt (sub_eq_ofInt _ _))
  case s4subl => exact oprCode_and_completes rfl (by norm_num) rfl (sextLong_of_eq_ofInt (scaledSub_eq_ofInt four _ _))
  case s8subl => exact oprCode_and_completes rfl (by norm_num) rfl (sextLong_of_eq_ofInt (scaledSub_eq_ofInt eight _ _))

theorem cmpbge_spec (ra : Reg) (rb : Operand) (rc : Reg) (s : State) :
    OprCode (.cmpbge ra rb rc) 0x10 0x0F ∧
      Completes (exec (.cmpbge ra rb rc) s) (WroteInt s rc (compareBytes (readInt s ra) (operandValue s rb))) :=
  oprCode_and_completes rfl (by norm_num) rfl rfl

/-- Settles O19: the five compares by what their bit-vector comparisons mean, CMPBGE bit by bit, the products as integers. -/
theorem comparesAndMultiplies : Obligations.ComparesAndMultiplies := by
  unfold Obligations.ComparesAndMultiplies
  simp only [List.forall_mem_cons, List.not_mem_nil, false_imp_iff, implies_true, and_true]
  refine ⟨⟨⟨?cmpeq, ?cmplt, ?cmple, ?cmpult, ?cmpule⟩, ?cmpbge⟩, ?mull, ?mulq, ?umulh⟩ <;> intro ra rb rc s
  case cmpeq => exact oprCode_and_completes rfl (by norm_num) rfl (truth_eq_ite (beq_eq_decide _ _))
  case cmplt => exact oprCode_and_completes rfl (by norm_num) rfl (truth_eq_ite BitVec.slt_eq_decide)
  case cmple => exact oprCode_and_completes rfl (by norm_num) rfl (truth_eq_ite BitVec.sle_eq_decide)
  case cmpult => exact oprCode_and_completes rfl (by norm_num) rfl (truth_eq_ite BitVec.ult_eq_decide)
  case cmpule => exact oprCode_and_completes rfl (by norm_num) rfl (truth_eq_ite BitVec.ule_eq_decide)
  case cmpbge =>
    obtain ⟨hcode, t, hexec, hwrote⟩ := cmpbge_spec ra rb rc s
    exact ⟨hcode, t, hexec, _, hwrote, fun _ => getLsbD_compareBytes_high _ _, fun _ => getLsbD_compareBytes _ _⟩
  case mull => exact oprCode_and_completes rfl (by norm_num) rfl (sextLong_of_eq_ofInt (mul_eq_ofInt _ _))
  case mulq => exact oprCode_and_completes rfl (by norm_num) rfl (mul_eq_ofInt _ _)
  case umulh => exact oprCode_and_completes rfl (by norm_num) rfl (mulHigh_eq_ofNat _ _)

end Sys2Proof.Machine
end

/-! # Settling the family spec/43_int_logical_shift.md: logical operations, shifts and conditional moves -/

section

namespace Sys2Proof.Machine

/-! ### The bits of a complement, the feature mask and the shift count -/

theorem getLsbD_complement (b : Word) {i : Nat} (hi : i < 64) : (~~~b).getLsbD i = !b.getLsbD i := by
  rw [BitVec.getLsbD_not, decide_eq_true hi, Bool.true_and]

/-- EQV is the exclusive or with the complement (R486), so its bits say whether the two bits agree. -/
theorem getLsbD_xor_complement (a b : Word) {i : Nat} (hi : i < 64) :
    (a ^^^ ~~~b).getLsbD i = (a.getLsbD i == b.getLsbD i) := by
  rw [BitVec.getLsbD_xor, getLsbD_complement b hi]
  cases a.getLsbD i <;> cases b.getLsbD i <;> rfl

theorem getLsbD_featureMask {i : Nat} (hi : i < 64) : featureMask.getLsbD i = decide (i ∈ [0, 1, 2, 8, 9]) := by
  have bits : ∀ k : Fin 64, featureMask.getLsbD k = decide (k.val ∈ [0, 1, 2, 8, 9]) := by decide
  exact bits ⟨i, hi⟩

theorem getLsbD_and_not_featureMask (b : Word) {i : Nat} (hi : i < 64) :
    (b &&& ~~~featureMask).getLsbD i = (b.getLsbD i && !decide (i ∈ [0, 1, 2, 8, 9])) := by
  rw [BitVec.getLsbD_and, getLsbD_complement _ hi, getLsbD_featureMask hi]

theorem shiftCount_eq_mod (v : Word) : shiftCount v = v.toNat % 64 := by
  rw [shiftCount, BitVec.extractLsb'_toNat, Nat.shiftRight_zero]

/-! ### The shifts, as products and quotients by a power of two -/

theorem shiftLeft_eq_ofNat (a : Word) (n : Nat) : a <<< n = BitVec.ofNat 64 (a.toNat * 2 ^ n) := by
  apply BitVec.eq_of_toNat_eq
  rw [BitVec.toNat_shiftLeft, Nat.shiftLeft_eq, BitVec.toNat_ofNat]

theorem ushiftRight_eq_ofNat (a : Word) (n : Nat) : a >>> n = BitVec.ofNat 64 (a.toNat / 2 ^ n) := by
  rw [← Nat.shiftRight_eq_div_pow, ← BitVec.toNat_ushiftRight, BitVec.ofNat_toNat, BitVec.setWidth_eq]

/-- The arithmetic shift rounds down, as the quotient of integers by a positive number does (R507). -/
theorem sshiftRight_eq_ofInt (a : Word) (n : Nat) : a.sshiftRight n = BitVec.ofInt 64 (a.toInt / 2 ^ n) := by
  have hquot : (a.sshiftRight n).toInt = a.toInt / 2 ^ n := by
    rw [BitVec.toInt_sshiftRight, Int.shiftRight_eq_div_pow]
    norm_cast
  rw [← hquot, BitVec.ofInt_toInt]

/-! ### The tests of a register value, as tests of the signed number -/

theorem isZero_eq_decide (a : Word) : isZero a = decide (a.toInt = 0) := by
  have hzero : (0 : Word).toInt = 0 := BitVec.toInt_zero
  rw [isZero, beq_eq_decide, decide_eq_decide, ← BitVec.toInt_inj, hzero]

theorem isNegative_eq_decide (a : Word) : isNegative a = decide (a.toInt < 0) := by
  rw [← BitVec.msb_eq_toInt, BitVec.msb_eq_getLsbD_last, isNegative]

theorem not_isZero_eq_decide (a : Word) : (!isZero a) = decide (a.toInt ≠ 0) := by
  rw [isZero_eq_decide, decide_not]

theorem not_isNegative_eq_decide (a : Word) : (!isNegative a) = decide (0 ≤ a.toInt) := by
  rw [isNegative_eq_decide, ← decide_not, decide_eq_decide, not_lt]

theorem isNegative_or_isZero_eq_decide (a : Word) : (isNegative a || isZero a) = decide (a.toInt ≤ 0) := by
  rw [isNegative_eq_decide, isZero_eq_decide, ← Bool.decide_or, decide_eq_decide, le_iff_lt_or_eq]

theorem not_isNegative_and_not_isZero_eq_decide (a : Word) : (!isNegative a && !isZero a) = decide (0 < a.toInt) := by
  rw [← Bool.not_or, isNegative_or_isZero_eq_decide, ← decide_not, decide_eq_decide, not_le]

/-! ### What a logical operation, a shift and a conditional move do -/

/-- An operate instruction whose result is stated bit by bit; for a constructor the first and the third hypothesis are `rfl`. -/
theorem oprCode_and_completes_bits {i : Instr} {op f : Nat} {ra : Reg} {rb : Operand} {rc : Reg} {s : State} {v : Word}
    {bit : Nat → Bool} (henc : encode i = packOpr (BitVec.ofNat 6 op) (BitVec.ofNat 7 f) ra rb rc)
    (hcode : op < 2 ^ 6 ∧ f < 2 ^ 7) (hexec : exec i s = intResult rc v s) (hbit : ∀ k, k < 64 → v.getLsbD k = bit k) :
    OprCode i op f ∧
      Completes (exec i s) fun t => ∃ v, WroteInt s rc v t ∧ ∀ k, k < 64 → v.getLsbD k = bit k := by
  obtain ⟨hop, t, hnext, hwrote⟩ := oprCode_and_completes henc hcode hexec rfl
  exact ⟨hop, t, hnext, v, hwrote, hbit⟩

/-- The three shifts differ in the word they write for the count; the count is Rbv[5:0] in each. -/
theorem oprCode_and_completes_shift {i : Instr} {op f : Nat} {ra : Reg} {rb : Operand} {rc : Reg} {s : State} {b : Word}
    {shift result : Nat → Word} (henc : encode i = packOpr (BitVec.ofNat 6 op) (BitVec.ofNat 7 f) ra rb rc)
    (hcode : op < 2 ^ 6 ∧ f < 2 ^ 7) (hexec : exec i s = intResult rc (shift (shiftCount b)) s)
    (hshift : ∀ n, shift n = result n) :
    OprCode i op f ∧ Completes (exec i s) (WroteInt s rc (result (b.toNat % 64))) := by
  refine oprCode_and_completes henc hcode hexec ?_
  rw [hshift, shiftCount_eq_mod]

/-- A move that is not made leaves Rc, hidden registers included, as it was (R490). -/
theorem completes_condMove (c : Bool) (rc : Reg) (v : Word) (s : State) :
    Completes (condMove c rc v s) fun t => if c then WroteInt s rc v t else OnlyPc s (s.pc + 4) t := by
  cases c with
  | true => exact completes_next (wroteInt_advance s rc v)
  | false => exact completes_next (P := OnlyPc s (s.pc + 4)) rfl

/-- The last hypothesis says that the test the model makes is the condition of the instruction's rule. -/
theorem oprCode_and_completes_condMove {i : Instr} {op f : Nat} {ra : Reg} {rb : Operand} {rc : Reg} {s : State} {v : Word}
    {c d : Bool} (henc : encode i = packOpr (BitVec.ofNat 6 op) (BitVec.ofNat 7 f) ra rb rc)
    (hcode : op < 2 ^ 6 ∧ f < 2 ^ 7) (hexec : exec i s = condMove c rc v s) (hcond : c = d) :
    OprCode i op f ∧
      Completes (exec i s) fun t => if d then WroteInt s rc v t else OnlyPc s (s.pc + 4) t := by
  refine ⟨oprCode_pack henc hcode.1 hcode.2, ?_⟩
  rw [hexec, hcond]
  exact completes_condMove d rc v s

/-- Settles O21: each logical operation by its bits, each shift by the power of two it multiplies or divides by. -/
theorem logicalOperationsAndShifts : Obligations.LogicalOperationsAndShifts := by
  unfold Obligations.LogicalOperationsAndShifts
  simp only [List.forall_mem_cons, List.not_mem_nil, false_imp_iff, implies_true, and_true]
  refine ⟨⟨?and, ?bic, ?bis, ?ornot, ?xor, ?eqv⟩, ?amask, ?implver, ?sll, ?srl, ?sra⟩ <;> intro ra rb rc s
  case and => exact oprCode_and_completes_bits rfl (by norm_num) rfl fun _ _ => BitVec.getLsbD_and
  case bic =>
    refine oprCode_and_completes_bits rfl (by norm_num) rfl fun i hi => ?_
    rw [BitVec.getLsbD_and, getLsbD_complement _ hi]
  case bis => exact oprCode_and_completes_bits rfl (by norm_num) rfl fun _ _ => BitVec.getLsbD_or
  case ornot =>
    refine oprCode_and_completes_bits rfl (by norm_num) rfl fun i hi => ?_
    rw [BitVec.getLsbD_or, getLsbD_complement _ hi]
  case xor => exact oprCode_and_completes_bits rfl (by norm_num) rfl fun _ _ => BitVec.getLsbD_xor
  case eqv => exact oprCode_and_completes_bits rfl (by norm_num) rfl fun _ => getLsbD_xor_complement _ _
  case amask => exact oprCode_and_completes_bits rfl (by norm_num) rfl fun _ => getLsbD_and_not_featureMask _
  case implver => exact oprCode_and_completes rfl (by norm_num) rfl rfl
  case sll => exact oprCode_and_completes_shift rfl (by norm_num) rfl (shiftLeft_eq_ofNat _)
  case srl => exact oprCode_and_completes_shift rfl (by norm_num) rfl (ushiftRight_eq_ofNat _)
  case sra => exact oprCode_and_completes_shift rfl (by norm_num) rfl (sshiftRight_eq_ofInt _)

/-- Settles O22: one case for each CMOVx, by what its test says of the signed number in Ra. -/
theorem conditionalMoves : Obligations.ConditionalMoves := by
  unfold Obligations.ConditionalMoves
  simp only [List.forall_mem_cons, List.not_mem_nil, false_imp_iff, implies_true, and_true]
  refine ⟨?lbs, ?lbc, ?eq, ?ne, ?lt, ?ge, ?le, ?gt⟩ <;> intro ra rb rc s
  case lbs => exact oprCode_and_completes_condMove rfl (by norm_num) rfl rfl
  case lbc => exact oprCode_and_completes_condMove rfl (by norm_num) rfl rfl
  case eq => exact oprCode_and_completes_condMove rfl (by norm_num) rfl (isZero_eq_decide _)
  case ne => exact oprCode_and_completes_condMove rfl (by norm_num) rfl (not_isZero_eq_decide _)
  case lt => exact oprCode_and_completes_condMove rfl (by norm_num) rfl (isNegative_eq_decide _)
  case ge => exact oprCode_and_completes_condMove rfl (by norm_num) rfl (not_isNegative_eq_decide _)
  case le => exact oprCode_and_completes_condMove rfl (by norm_num) rfl (isNegative_or_isZero_eq_decide _)
  case gt => exact oprCode_and_completes_condMove rfl (by norm_num) rfl (not_isNegative_and_not_isZero_eq_decide _)

end Sys2Proof.Machine
end

/-! # Settling the family spec/44_byte_manip.md: extracts, inserts, masks and zaps -/

section

namespace Sys2Proof.Machine

/-! ### The byte offset -/

/-- Inverting the three bits of Rbv[2:0] counts down from 7 (R520). -/
theorem byteOffset_eq_offsetOf (s : State) (b : Word) : byteOffset s b = offsetOf s b := by
  have hlow : (b.extractLsb' 0 3).toNat = b.toNat % 8 := BitVec.extractLsb'_toNat ..
  unfold byteOffset offsetOf
  cases bigEndian s with
  | false => exact hlow
  | true =>
    rw [if_pos rfl, if_pos rfl, BitVec.toNat_not, hlow]

theorem byteOffset_lt (s : State) (b : Word) : byteOffset s b < 8 := BitVec.isLt _

/-! ### The bytes of a word -/

theorem getLsbD_byteOf (v : Word) (i : Nat) {j : Nat} (hj : j < 8) : (byteOf v i).getLsbD j = v.getLsbD (8 * i + j) := by
  rw [byteOf, BitVec.getLsbD_extractLsb', decide_eq_true hj, Bool.true_and]

theorem byteOf_of_ge (v : Word) {i : Nat} (hi : 8 ≤ i) : byteOf v i = 0 := by
  apply BitVec.eq_of_getLsbD_eq
  intro j hj
  rw [getLsbD_byteOf v i hj, BitVec.getLsbD_of_ge v _ (by omega)]
  exact BitVec.getLsbD_zero.symm

theorem byteOf_or (v w : Word) (i : Nat) : byteOf (v ||| w) i = byteOf v i ||| byteOf w i := BitVec.extractLsb'_or

theorem byteOf_complement (v : Word) {i : Nat} (hi : i < 8) : byteOf (~~~v) i = ~~~byteOf v i := by
  apply BitVec.eq_of_getLsbD_eq
  intro j hj
  rw [getLsbD_byteOf _ _ hj, BitVec.getLsbD_not, BitVec.getLsbD_not, getLsbD_byteOf _ _ hj, decide_eq_true hj,
    decide_eq_true (show 8 * i + j < 64 by omega)]

theorem byteOf_setWidth (b : BitVec 8) (i : Nat) : byteOf (b.setWidth 64) i = if i = 0 then b else 0 := by
  apply BitVec.eq_of_getLsbD_eq
  intro j hj
  rw [getLsbD_byteOf _ _ hj, BitVec.getLsbD_setWidth]
  split
  case isTrue h => simp [h, show j < 64 by omega]
  case isFalse h => simp [BitVec.getLsbD_of_ge b (8 * i + j) (by omega)]

/-- A shift to the right by whole bytes renumbers the bytes; the ones shifted in are zero, as bytes beyond byte 7 are. -/
theorem byteOf_ushiftRight (v : Word) (n i : Nat) : byteOf (v >>> (8 * n)) i = byteOf v (n + i) := by
  apply BitVec.eq_of_getLsbD_eq
  intro j hj
  rw [getLsbD_byteOf _ _ hj, getLsbD_byteOf _ _ hj, BitVec.getLsbD_ushiftRight, Nat.mul_add, Nat.add_assoc]

/-- Byte `i` of the half that starts at byte `h` of a double quadword shifted by `n` bytes. -/
theorem byteOf_half_wideShift (v : Word) (n h : Nat) {i : Nat} (hi : i < 8) (hh : h ≤ 8) :
    byteOf ((wideShift v n).extractLsb' (8 * h) 64) i = if n ≤ i + h then byteOf v (i + h - n) else 0 := by
  apply BitVec.eq_of_getLsbD_eq
  intro j hj
  rw [getLsbD_byteOf _ _ hj, BitVec.getLsbD_extractLsb', wideShift, BitVec.getLsbD_shiftLeft, BitVec.getLsbD_setWidth,
    decide_eq_true (show 8 * i + j < 64 by omega), decide_eq_true (show 8 * h + (8 * i + j) < 128 by omega)]
  split
  case isTrue hn =>
    have hpos : 8 * h + (8 * i + j) - 8 * n = 8 * (i + h - n) + j := by omega
    rw [getLsbD_byteOf _ _ hj, hpos]
    simp [show ¬8 * h + (8 * i + j) < 8 * n by omega, show 8 * (i + h - n) + j < 128 by omega]
  case isFalse hn => simp [show 8 * h + (8 * i + j) < 8 * n by omega]

theorem shiftLeft_eq_half_wideShift (v : Word) (n : Nat) : v <<< (8 * n) = (wideShift v n).extractLsb' (8 * 0) 64 := by
  apply BitVec.eq_of_getLsbD_eq
  intro k hk
  have hin : k - 8 * n < 64 := by omega
  simp [wideShift, hk, hin, BitVec.getLsbD_eq_getElem, show k < 128 by omega]

theorem byteOf_shiftLeft (v : Word) (n : Nat) {i : Nat} (hi : i < 8) :
    byteOf (v <<< (8 * n)) i = if n ≤ i then byteOf v (i - n) else 0 := by
  rw [shiftLeft_eq_half_wideShift]
  exact byteOf_half_wideShift v n 0 hi (by norm_num)

theorem byteOf_packBytes {l : List (BitVec 8)} {i : Nat} (hi : i < 8) : byteOf (packBytes l) i = l.getD i 0 := by
  induction l generalizing i with
  | nil => simp [packBytes, byteOf]
  | cons b l ih =>
    rw [packBytes, byteOf_or, byteOf_setWidth, byteOf_shiftLeft _ 1 hi]
    cases i with
    | zero => simp
    | succ i => simp [ih (Nat.lt_of_succ_lt hi)]

theorem byteOf_mapBytes (f : Nat → BitVec 8) {i : Nat} (hi : i < 8) : byteOf (mapBytes f) i = f i := by
  rw [mapBytes, byteOf_packBytes hi]
  interval_cases i <;> rfl

/-! ### The mask of a datum -/

theorem bytesIn_le (x : DataSize) : bytesIn x ≤ 8 := by
  cases x <;> decide

theorem byteOf_sizeMask (x : DataSize) (i : Nat) : byteOf (sizeMask x) i = if i < bytesIn x then 0xFF else 0 := by
  have hsize := bytesIn_le x
  by_cases hi : i < 8
  · exact byteOf_onesLow hsize hi
  · rw [byteOf_of_ge _ (not_lt.mp hi), if_neg (by omega)]

theorem byte_and_ones (b : BitVec 8) : b &&& 0xFF = b := BitVec.and_allOnes

theorem byteOf_and_sizeMask (x : DataSize) (v : Word) (i : Nat) :
    byteOf (v &&& sizeMask x) i = if i < bytesIn x then byteOf v i else 0 := by
  rw [byteOf_and, byteOf_sizeMask]
  split
  case isTrue => exact byte_and_ones _
  case isFalse => exact BitVec.and_zero

/-! ### The bytes that an extract, an insert, a mask and a zap deliver -/

theorem byteOf_extractLow (x : DataSize) (v : Word) (bo : Nat) (i : Nat) :
    byteOf (extractLow x v bo) i = if i < bytesIn x ∧ bo + i < 8 then byteOf v (bo + i) else 0 := by
  rw [extractLow, byteOf_and_sizeMask, byteOf_ushiftRight, ite_and]
  by_cases h : bo + i < 8
  · rw [if_pos h]
  · rw [if_neg h, byteOf_of_ge v (not_lt.mp h)]

/-- The high forms shift left by the bytes up to the next quadword, and not at all for the offset 0 (R521). -/
theorem byteOf_extractHigh (x : DataSize) (v : Word) {bo : Nat} (hbo : bo < 8) {i : Nat} (hi : i < 8) :
    byteOf (extractHigh x v bo) i = if i < bytesIn x ∧ (bo = 0 ∨ 8 ≤ bo + i) then byteOf v ((bo + i) % 8) else 0 := by
  have hcount : (64 - 8 * bo) % 64 = 8 * ((8 - bo) % 8) := by omega
  rw [extractHigh, byteOf_and_sizeMask, hcount, byteOf_shiftLeft _ _ hi, ite_and]
  by_cases h : bo = 0 ∨ 8 ≤ bo + i
  · have hbyte : i - (8 - bo) % 8 = (bo + i) % 8 := by omega
    rw [if_pos h, if_pos (show (8 - bo) % 8 ≤ i by omega), hbyte]
  · rw [if_neg h, if_neg (show ¬(8 - bo) % 8 ≤ i by omega)]

/-- Byte `k` is in the field of `n` bytes at offset `bo` if it is not below it and its place counted from `bo` is below `n`. -/
theorem ite_field_eq (bo n k : Nat) (a b : BitVec 8) :
    (if bo ≤ k then if k - bo < n then a else b else b) = if bo ≤ k ∧ k < bo + n then a else b := by
  rw [← ite_and]
  exact if_congr (by omega) rfl rfl

theorem byteOf_half_insert (x : DataSize) (v : Word) (bo h : Nat) {i : Nat} (hi : i < 8) (hh : h ≤ 8) :
    byteOf ((wideShift (v &&& sizeMask x) bo).extractLsb' (8 * h) 64) i =
      if bo ≤ i + h ∧ i + h < bo + bytesIn x then byteOf v (i + h - bo) else 0 := by
  rw [byteOf_half_wideShift _ _ _ hi hh, byteOf_and_sizeMask, ite_field_eq]

theorem byteOf_insertLow (x : DataSize) (v : Word) (bo : Nat) {i : Nat} (hi : i < 8) :
    byteOf (insertLow x v bo) i = if bo ≤ i + 0 ∧ i + 0 < bo + bytesIn x then byteOf v (i + 0 - bo) else 0 :=
  byteOf_half_insert x v bo 0 hi (by norm_num)

theorem byteOf_insertHigh (x : DataSize) (v : Word) (bo : Nat) {i : Nat} (hi : i < 8) :
    byteOf (insertHigh x v bo) i = if bo ≤ i + 8 ∧ i + 8 < bo + bytesIn x then byteOf v (i + 8 - bo) else 0 :=
  byteOf_half_insert x v bo 8 hi le_rfl

theorem byteOf_half_mask (x : DataSize) (v : Word) (bo h : Nat) {i : Nat} (hi : i < 8) (hh : h ≤ 8) :
    byteOf (v &&& ~~~(wideShift (sizeMask x) bo).extractLsb' (8 * h) 64) i =
      if bo ≤ i + h ∧ i + h < bo + bytesIn x then 0 else byteOf v i := by
  rw [byteOf_and, byteOf_complement _ hi, byteOf_half_wideShift _ _ _ hi hh, byteOf_sizeMask, ite_field_eq]
  split
  case isTrue => exact BitVec.and_zero
  case isFalse => exact byte_and_ones _

theorem byteOf_maskLow (x : DataSize) (v : Word) (bo : Nat) {i : Nat} (hi : i < 8) :
    byteOf (maskLow x v bo) i = if bo ≤ i + 0 ∧ i + 0 < bo + bytesIn x then 0 else byteOf v i :=
  byteOf_half_mask x v bo 0 hi (by norm_num)

theorem byteOf_maskHigh (x : DataSize) (v : Word) (bo : Nat) {i : Nat} (hi : i < 8) :
    byteOf (maskHigh x v bo) i = if bo ≤ i + 8 ∧ i + 8 < bo + bytesIn x then 0 else byteOf v i :=
  byteOf_half_mask x v bo 8 hi le_rfl

theorem byteOf_zapBytes (v sel : Word) {i : Nat} (hi : i < 8) :
    byteOf (zapBytes v sel) i = if sel.getLsbD i = true then 0 else byteOf v i := byteOf_mapBytes _ hi

theorem byteOf_zapBytes_complement (v sel : Word) {i : Nat} (hi : i < 8) :
    byteOf (zapBytes v (~~~sel)) i = if sel.getLsbD i = false then 0 else byteOf v i := by
  simp only [byteOf_zapBytes _ _ hi, getLsbD_complement sel (show i < 64 by omega), Bool.not_eq_true']

/-! ### What a byte-manipulation instruction does -/

/-- An operate instruction whose result is stated byte by byte; for a constructor the first and the third hypothesis are `rfl`. -/
theorem oprCode_and_completes_bytes {i : Instr} {op f : Nat} {ra : Reg} {rb : Operand} {rc : Reg} {s : State} {v : Word}
    {byte : Nat → BitVec 8} (henc : encode i = packOpr (BitVec.ofNat 6 op) (BitVec.ofNat 7 f) ra rb rc)
    (hcode : op < 2 ^ 6 ∧ f < 2 ^ 7) (hexec : exec i s = intResult rc v s) (hbyte : ∀ k, k < 8 → byteOf v k = byte k) :
    OprCode i op f ∧
      Completes (exec i s) fun t => ∃ v, WroteInt s rc v t ∧ ∀ k, k < 8 → byteOf v k = byte k := by
  obtain ⟨hop, t, hnext, hwrote⟩ := oprCode_and_completes henc hcode hexec rfl
  exact ⟨hop, t, hnext, v, hwrote, hbyte⟩

/-- Settles O23: the low and the high extracts, each size by the bytes its field has. -/
theorem byteExtracts : Obligations.ByteExtracts := by
  unfold Obligations.ByteExtracts
  simp only [List.forall_mem_cons, List.not_mem_nil, false_imp_iff, implies_true, and_true, ← byteOffset_eq_offsetOf]
  refine ⟨⟨?extbl, ?extwl, ?extll, ?extql⟩, ?extwh, ?extlh, ?extqh⟩ <;> intro ra rb rc s
  case extbl => exact oprCode_and_completes_bytes rfl (by norm_num) rfl fun _ _ => byteOf_extractLow .byte _ _ _
  case extwl => exact oprCode_and_completes_bytes rfl (by norm_num) rfl fun _ _ => byteOf_extractLow .word _ _ _
  case extll => exact oprCode_and_completes_bytes rfl (by norm_num) rfl fun _ _ => byteOf_extractLow .long _ _ _
  case extql => exact oprCode_and_completes_bytes rfl (by norm_num) rfl fun _ _ => byteOf_extractLow .quad _ _ _
  case extwh => exact oprCode_and_completes_bytes rfl (by norm_num) rfl fun _ => byteOf_extractHigh .word _ (byteOffset_lt _ _)
  case extlh => exact oprCode_and_completes_bytes rfl (by norm_num) rfl fun _ => byteOf_extractHigh .long _ (byteOffset_lt _ _)
  case extqh => exact oprCode_and_completes_bytes rfl (by norm_num) rfl fun _ => byteOf_extractHigh .quad _ (byteOffset_lt _ _)

/-- Settles O24: the two halves of the shifted double quadword, each size by the bytes it inserts. -/
theorem byteInserts : Obligations.ByteInserts := by
  unfold Obligations.ByteInserts
  simp only [List.forall_mem_cons, List.not_mem_nil, false_imp_iff, implies_true, and_true, ← byteOffset_eq_offsetOf]
  refine ⟨?insbl, ?inswl, ?insll, ?insql, ?inswh, ?inslh, ?insqh⟩ <;> intro ra rb rc s
  case insbl => exact oprCode_and_completes_bytes rfl (by norm_num) rfl fun _ => byteOf_insertLow .byte _ _
  case inswl => exact oprCode_and_completes_bytes rfl (by norm_num) rfl fun _ => byteOf_insertLow .word _ _
  case insll => exact oprCode_and_completes_bytes rfl (by norm_num) rfl fun _ => byteOf_insertLow .long _ _
  case insql => exact oprCode_and_completes_bytes rfl (by norm_num) rfl fun _ => byteOf_insertLow .quad _ _
  case inswh => exact oprCode_and_completes_bytes rfl (by norm_num) rfl fun _ => byteOf_insertHigh .word _ _
  case inslh => exact oprCode_and_completes_bytes rfl (by norm_num) rfl fun _ => byteOf_insertHigh .long _ _
  case insqh => exact oprCode_and_completes_bytes rfl (by norm_num) rfl fun _ => byteOf_insertHigh .quad _ _

/-- Settles O25: the masks by the half that the field falls into, ZAP and ZAPNOT by the bit that selects each byte. -/
theorem byteMasksAndZaps : Obligations.ByteMasksAndZaps := by
  unfold Obligations.ByteMasksAndZaps
  simp only [List.forall_mem_cons, List.not_mem_nil, false_imp_iff, implies_true, and_true, ← byteOffset_eq_offsetOf]
  refine ⟨⟨?mskbl, ?mskwl, ?mskll, ?mskql, ?mskwh, ?msklh, ?mskqh⟩, ?zap, ?zapnot⟩ <;> intro ra rb rc s
  case mskbl => exact oprCode_and_completes_bytes rfl (by norm_num) rfl fun _ => byteOf_maskLow .byte _ _
  case mskwl => exact oprCode_and_completes_bytes rfl (by norm_num) rfl fun _ => byteOf_maskLow .word _ _
  case mskll => exact oprCode_and_completes_bytes rfl (by norm_num) rfl fun _ => byteOf_maskLow .long _ _
  case mskql => exact oprCode_and_completes_bytes rfl (by norm_num) rfl fun _ => byteOf_maskLow .quad _ _
  case mskwh => exact oprCode_and_completes_bytes rfl (by norm_num) rfl fun _ => byteOf_maskHigh .word _ _
  case msklh => exact oprCode_and_completes_bytes rfl (by norm_num) rfl fun _ => byteOf_maskHigh .long _ _
  case mskqh => exact oprCode_and_completes_bytes rfl (by norm_num) rfl fun _ => byteOf_maskHigh .quad _ _
  case zap => exact oprCode_and_completes_bytes rfl (by norm_num) rfl fun _ => byteOf_zapBytes _ _
  case zapnot => exact oprCode_and_completes_bytes rfl (by norm_num) rfl fun _ => byteOf_zapBytes_complement _ _

end Sys2Proof.Machine
end

/-! # Settling the family spec/45_fp_memory_branch.md: the floating branches -/

section

namespace Sys2Proof.Machine

/-! ### The branch target, as an integer displacement -/

/-- The displacement is scaled after its sign extension (R332), so the shift is a product that loses no sign. -/
theorem branchTarget_eq_ofInt (s : State) (disp : BitVec 21) :
    branchTarget s disp = s.pc + 4 + BitVec.ofInt 64 (4 * disp.toInt) := by
  have four : (4 : Int) = 2 ^ 2 := by norm_num
  have hdisp : disp.signExtend 64 <<< 2 = BitVec.ofInt 64 (4 * disp.toInt) := by
    rw [shiftLeft_eq_ofInt four, BitVec.toInt_signExtend_of_le (by norm_num)]
  exact congrArg (s.pc + 4 + ·) hdisp

/-! ### The tests of a register image, as tests of its sign bit and of its other bits -/

/-- Bit 63 does not count, so the negative zero is a zero (R585). -/
theorem fpIsZero_eq_decide (v : Word) : fpIsZero v = decide (v.toNat % 2 ^ 63 = 0) := by
  rw [fpIsZero, beq_eq_decide, decide_eq_decide, ← BitVec.toNat_inj, BitVec.extractLsb'_toNat, Nat.shiftRight_zero,
    BitVec.toNat_zero]

theorem not_fpIsZero_eq_not_decide (v : Word) : (!fpIsZero v) = !decide (v.toNat % 2 ^ 63 = 0) := by
  rw [fpIsZero_eq_decide]

theorem fpNegative_eq_and (v : Word) : fpNegative v = (v.getLsbD 63 && !decide (v.toNat % 2 ^ 63 = 0)) := by
  rw [fpNegative, fpSign, fpIsZero_eq_decide]

theorem fpPositive_eq_and (v : Word) : fpPositive v = (!v.getLsbD 63 && !decide (v.toNat % 2 ^ 63 = 0)) := by
  rw [fpPositive, fpSign, fpIsZero_eq_decide]

theorem not_fpNegative_eq_or (v : Word) : (!fpNegative v) = (!v.getLsbD 63 || decide (v.toNat % 2 ^ 63 = 0)) := by
  rw [fpNegative_eq_and, Bool.not_and, Bool.not_not]

theorem not_fpPositive_eq_or (v : Word) : (!fpPositive v) = (v.getLsbD 63 || decide (v.toNat % 2 ^ 63 = 0)) := by
  rw [fpPositive_eq_and, Bool.not_and, Bool.not_not, Bool.not_not]

/-! ### What a conditional branch does -/

theorem completes_branchIf (taken : Bool) (disp : BitVec 21) (s : State) :
    Completes (branchIf taken disp s)
      (OnlyPc s (if taken then s.pc + 4 + BitVec.ofInt 64 (4 * disp.toInt) else s.pc + 4)) := by
  rw [← branchTarget_eq_ofInt]
  cases taken with
  | true => exact completes_next (P := OnlyPc s (branchTarget s disp)) rfl
  | false => exact completes_next (P := OnlyPc s (s.pc + 4)) rfl

/-- For a constructor the first and the third hypothesis are `rfl`; the last one says that the test the model makes is the condition
of the instruction's rule. -/
theorem opcode_and_completes_fpBranch {i : Instr} {op : Nat} {fa : Reg} {disp : BitVec 21} {s : State} {test taken : Bool}
    (henc : encode i = packBra (BitVec.ofNat 6 op) fa disp) (hop : op < 2 ^ 6)
    (hexec : exec i s = requireFp s id (branchIf test disp s)) (htest : test = taken) :
    Opcode i op ∧
      (fpEnabled s = true → Completes (exec i s)
        (OnlyPc s (if taken then s.pc + 4 + BitVec.ofInt 64 (4 * disp.toInt) else s.pc + 4))) ∧
      (fpEnabled s = false → Completes (exec i s) (Entered s .fen 0x200 (faultPc s))) := by
  rw [hexec, htest]
  refine ⟨opcode_packBra henc hop, fun hon => ?_, fun hoff => requireFp_off' hoff id _⟩
  rw [requireFp_on hon]
  exact completes_branchIf taken disp s

/-- Settles O39: one case for each branch, by what its test says of the sign and the zero of the register image. -/
theorem floatingBranches : Obligations.FloatingBranches := by
  unfold Obligations.FloatingBranches
  simp only [List.forall_mem_cons, List.not_mem_nil, false_imp_iff, implies_true, and_true]
  refine ⟨?fbeq, ?fblt, ?fble, ?fbne, ?fbge, ?fbgt⟩ <;> intro fa disp s
  case fbeq => exact opcode_and_completes_fpBranch rfl (by norm_num) rfl (fpIsZero_eq_decide _)
  case fblt => exact opcode_and_completes_fpBranch rfl (by norm_num) rfl (fpNegative_eq_and _)
  case fble => exact opcode_and_completes_fpBranch rfl (by norm_num) rfl (not_fpPositive_eq_or _)
  case fbne => exact opcode_and_completes_fpBranch rfl (by norm_num) rfl (not_fpIsZero_eq_not_decide _)
  case fbge => exact opcode_and_completes_fpBranch rfl (by norm_num) rfl (not_fpNegative_eq_or _)
  case fbgt => exact opcode_and_completes_fpBranch rfl (by norm_num) rfl (fpPositive_eq_and _)

end Sys2Proof.Machine
end

/-! # Settling the family spec/48_mvi_cix.md: extensions, counts, pixels, minima and maxima -/

section

namespace Sys2Proof.Machine

/-! ### Sign extension, the count of ones and the pixel error -/

/-- The field that SEXTB or SEXTW extracts is the truncation to its width. -/
theorem signExtend_low_eq_ofInt (v : Word) {w : Nat} (hw : w ≤ 64) :
    (v.extractLsb' 0 w).signExtend 64 = BitVec.ofInt 64 (v.setWidth w).toInt := by
  rw [BitVec.setWidth_eq_extractLsb' hw]
  rfl

theorem countOnes_eq_card (v : Word) :
    countOnes v = (Finset.univ.filter fun i : Fin 64 => v.getLsbD i = true).card := by
  have hcount : countOnes v = Nat.count (fun i => v.getLsbD i = true) 64 := by simp [countOnes, Nat.count]
  rw [hcount, Nat.count_eq_card_filter_range, Finset.card_filter, Finset.card_filter, Finset.sum_range]

theorem byteDistance_eq_natAbs (a b : BitVec 8) : byteDistance a b = (a.toNat - b.toNat : Int).natAbs := by
  rw [byteDistance]
  omega

theorem pixelError_eq_sum (a b : Word) :
    pixelError a b = ∑ i : Fin 8, ((byteOf a i).toNat - (byteOf b i).toNat : Int).natAbs := by
  simp only [← byteDistance_eq_natAbs]
  rw [← Finset.sum_range fun i => byteDistance (byteOf a i) (byteOf b i)]
  rfl

/-! ### Runs of zero bits -/

/-- In a sequence of `n` bits, the first `m` are zero and the next one, if there is one, is set. -/
def ZeroRun (bit : Nat → Bool) (m n : Nat) : Prop :=
  m ≤ n ∧ (∀ i, i < m → bit i = false) ∧ (m < n → bit m = true)

theorem zeroRun_empty (bit : Nat → Bool) : ZeroRun bit 0 0 := by
  simp [ZeroRun]

theorem zeroRun_of_set {bit : Nat → Bool} (h : bit 0 = true) (n : Nat) : ZeroRun bit 0 n := by
  simp [ZeroRun, h]

theorem zeroRun_succ {bit : Nat → Bool} {m n : Nat} (h : bit 0 = false) (hrun : ZeroRun (fun i => bit (i + 1)) m n) :
    ZeroRun bit (m + 1) (n + 1) := by
  obtain ⟨hle, hzero, hset⟩ := hrun
  refine ⟨Nat.succ_le_succ hle, fun i hi => ?_, fun hlt => hset (Nat.lt_of_succ_lt_succ hlt)⟩
  cases i with
  | zero => exact h
  | succ i => exact hzero i (Nat.lt_of_succ_lt_succ hi)

theorem zeroRun_zerosBelow (v : Word) (n : Nat) : ZeroRun (fun i => v.getLsbD (n - 1 - i)) (zerosBelow v n) n := by
  induction n with
  | zero => exact zeroRun_empty _
  | succ n ih =>
    rw [zerosBelow]
    split
    case isTrue h => exact zeroRun_of_set (bit := fun i => v.getLsbD (n + 1 - 1 - i)) h _
    case isFalse h =>
      refine zeroRun_succ (Bool.eq_false_iff.mpr h) ?_
      have hbit (i : Nat) : n + 1 - 1 - (i + 1) = n - 1 - i := by omega
      simpa only [hbit] using ih

theorem zeroRun_zerosAbove (v : Word) {n : Nat} (hn : n ≤ 64) :
    ZeroRun (fun i => v.getLsbD (64 - n + i)) (zerosAbove v n) n := by
  induction n with
  | zero => exact zeroRun_empty _
  | succ n ih =>
    have hfirst : 64 - (n + 1) + 0 = 63 - n := by omega
    rw [zerosAbove]
    split
    case isTrue h => exact zeroRun_of_set (hfirst ▸ h) _
    case isFalse h =>
      refine zeroRun_succ (hfirst ▸ Bool.eq_false_iff.mpr h) ?_
      have hbit (i : Nat) : 64 - (n + 1) + (i + 1) = 64 - n + i := by omega
      simpa only [hbit] using ih (by omega)

theorem zeroRun_leadingZeros (v : Word) : ZeroRun (fun i => v.getLsbD (63 - i)) (leadingZeros v) 64 := zeroRun_zerosBelow v 64

theorem zeroRun_trailingZeros (v : Word) : ZeroRun (fun i => v.getLsbD i) (trailingZeros v) 64 := by
  simpa only [trailingZeros, Nat.sub_self, Nat.zero_add] using zeroRun_zerosAbove v le_rfl

/-! ### The 16-bit words of a word, and the bytes of those -/

theorem getLsbD_packWords {l : List (BitVec 16)} {k : Nat} (hk : k < 64) :
    (packWords l).getLsbD k = (l.getD (k / 16) 0).getLsbD (k % 16) := by
  induction l generalizing k with
  | nil => simp [packWords]
  | cons w l ih =>
    rw [packWords, BitVec.getLsbD_or, BitVec.getLsbD_shiftLeft, BitVec.getLsbD_setWidth]
    by_cases h : k < 16
    · simp [h, hk, Nat.div_eq_of_lt h, Nat.mod_eq_of_lt h]
    · have hdiv : k / 16 = (k - 16) / 16 + 1 := by omega
      have hmod : k % 16 = (k - 16) % 16 := by omega
      rw [ih (by omega), hdiv, hmod, BitVec.getLsbD_of_ge w k (by omega)]
      simp [h, hk]

theorem getLsbD_mapWords (f : Nat → BitVec 16) {k : Nat} (hk : k < 64) :
    (mapWords f).getLsbD k = (f (k / 16)).getLsbD (k % 16) := by
  have hword : [f 0, f 1, f 2, f 3].getD (k / 16) 0 = f (k / 16) := by
    have : k / 16 < 4 := by omega
    interval_cases k / 16 <;> rfl
  rw [mapWords, getLsbD_packWords hk, hword]

theorem wordOf_mapWords (f : Nat → BitVec 16) {i : Nat} (hi : i < 4) : wordOf (mapWords f) i = f i := by
  apply BitVec.eq_of_getLsbD_eq
  intro j hj
  rw [wordOf, BitVec.getLsbD_extractLsb', decide_eq_true hj, Bool.true_and, getLsbD_mapWords f (by omega),
    show (16 * i + j) / 16 = i by omega, show (16 * i + j) % 16 = j by omega]

/-- Word `i / 2` holds byte `i`, in its low half if `i` is even. -/
theorem byteOf_mapWords (f : Nat → BitVec 16) {i : Nat} (hi : i < 8) :
    byteOf (mapWords f) i = (f (i / 2)).extractLsb' (8 * (i % 2)) 8 := by
  apply BitVec.eq_of_getLsbD_eq
  intro j hj
  rw [getLsbD_byteOf _ _ hj, BitVec.getLsbD_extractLsb', decide_eq_true hj, Bool.true_and, getLsbD_mapWords f (by omega),
    show (8 * i + j) / 16 = i / 2 by omega, show (8 * i + j) % 16 = 8 * (i % 2) + j by omega]

/-! ### The bytes that a pack and an unpack deliver -/

/-- A byte of a concatenation lies in one of its two parts if the lower part is whole bytes. -/
theorem byte_append {m n k : Nat} (hn : n = 8 * k) (x : BitVec m) (y : BitVec n) (i : Nat) :
    (x ++ y).extractLsb' (8 * i) 8 = if i < k then y.extractLsb' (8 * i) 8 else x.extractLsb' (8 * (i - k)) 8 := by
  split
  case isTrue h => exact BitVec.extractLsb'_append_eq_of_add_le (by omega)
  case isFalse h => rw [BitVec.extractLsb'_append_eq_of_le (by omega), hn, ← Nat.mul_sub]

theorem byteOf_unpackByteWord (v : Word) {i : Nat} (hi : i < 8) :
    byteOf (unpackByteWord v) i = if i % 2 = 0 then byteOf v (i / 2) else 0 := by
  have hwide : (byteOf v (i / 2)).setWidth 16 = 0#8 ++ byteOf v (i / 2) := BitVec.setWidth_eq_append (by norm_num)
  rw [unpackByteWord, byteOf_mapWords _ hi, hwide, byte_append (k := 1) rfl]
  obtain heven | hodd := Nat.mod_two_eq_zero_or_one i
  · simp [heven]
  · simp [hodd]

theorem byteOf_unpackByteLong (v : Word) {i : Nat} (hi : i < 8) :
    byteOf (unpackByteLong v) i = if i = 0 then byteOf v 0 else if i = 4 then byteOf v 1 else 0 := by
  rw [unpackByteLong, byteOf, byte_append (k := 1) rfl, byte_append (k := 3) rfl, byte_append (k := 1) rfl]
  interval_cases i <;> simp

theorem byteOf_packWordByte (v : Word) {i : Nat} (hi : i < 8) :
    byteOf (packWordByte v) i = if i < 4 then byteOf v (2 * i) else 0 := by
  rw [packWordByte, byteOf, byte_append (k := 1) rfl, byte_append (k := 1) rfl, byte_append (k := 1) rfl, byte_append (k := 1) rfl]
  interval_cases i <;> simp

theorem byteOf_packLongByte (v : Word) {i : Nat} (hi : i < 8) :
    byteOf (packLongByte v) i = if i < 2 then byteOf v (4 * i) else 0 := by
  rw [packLongByte, byteOf, byte_append (k := 1) rfl, byte_append (k := 1) rfl]
  interval_cases i <;> simp

/-! ### Corresponding fields, and the minimum and maximum of two -/

theorem byteOf_zipBytes (f : BitVec 8 → BitVec 8 → BitVec 8) (a b : Word) (i : Nat) (hi : i < 8) :
    byteOf (zipBytes f a b) i = f (byteOf a i) (byteOf b i) := byteOf_mapBytes _ hi

theorem wordOf_zipWords (f : BitVec 16 → BitVec 16 → BitVec 16) (a b : Word) (i : Nat) (hi : i < 4) :
    wordOf (zipWords f a b) i = f (wordOf a i) (wordOf b i) := wordOf_mapWords _ hi

theorem toInt_minSigned {w : Nat} (a b : BitVec w) : (minSigned a b).toInt = min a.toInt b.toInt := by
  rw [minSigned, apply_ite BitVec.toInt, min_def]
  exact if_congr BitVec.sle_iff_toInt_le rfl rfl

theorem toInt_maxSigned {w : Nat} (a b : BitVec w) : (maxSigned a b).toInt = max a.toInt b.toInt := by
  rw [maxSigned, apply_ite BitVec.toInt, max_def]
  exact if_congr BitVec.sle_iff_toInt_le rfl rfl

theorem toNat_minUnsigned {w : Nat} (a b : BitVec w) : (minUnsigned a b).toNat = min a.toNat b.toNat := by
  rw [minUnsigned, apply_ite BitVec.toNat, min_def]
  exact if_congr BitVec.ule_iff_toNat_le rfl rfl

theorem toNat_maxUnsigned {w : Nat} (a b : BitVec w) : (maxUnsigned a b).toNat = max a.toNat b.toNat := by
  rw [maxUnsigned, apply_ite BitVec.toNat, max_def]
  exact if_congr BitVec.ule_iff_toNat_le rfl rfl

/-! ### What an instruction of this family does -/

/-- An operate instruction whose result is the word of some `y` with a stated property; for a constructor the first and the third
hypothesis are `rfl`. -/
theorem oprCode_and_completes_exists {α : Type} {i : Instr} {op f : Nat} {ra : Reg} {rb : Operand} {rc : Reg} {s : State}
    {word : α → Word} {P : α → Prop} {x : α} (henc : encode i = packOpr (BitVec.ofNat 6 op) (BitVec.ofNat 7 f) ra rb rc)
    (hcode : op < 2 ^ 6 ∧ f < 2 ^ 7) (hexec : exec i s = intResult rc (word x) s) (hx : P x) :
    OprCode i op f ∧ Completes (exec i s) fun t => ∃ y, WroteInt s rc (word y) t ∧ P y := by
  obtain ⟨hop, t, hnext, hwrote⟩ := oprCode_and_completes henc hcode hexec rfl
  exact ⟨hop, t, hnext, x, hwrote, hx⟩

/-- An instruction on corresponding fields: `lane` is `byteOf` or `wordOf`, `val` the signed or the unsigned number of a field, and
`g` says of numbers what `f` does to fields. -/
theorem oprCode_and_completes_lanes {α : Type} {i : Instr} {op c n w : Nat} {ra : Reg} {rb : Operand} {rc : Reg} {s : State}
    {v a b : Word} {lane : Word → Nat → BitVec w} {f : BitVec w → BitVec w → BitVec w} {val : BitVec w → α} {g : α → α → α}
    (henc : encode i = packOpr (BitVec.ofNat 6 op) (BitVec.ofNat 7 c) ra rb rc) (hcode : op < 2 ^ 6 ∧ c < 2 ^ 7)
    (hexec : exec i s = intResult rc v s) (hlane : ∀ k, k < n → lane v k = f (lane a k) (lane b k))
    (hval : ∀ x y, val (f x y) = g (val x) (val y)) :
    OprCode i op c ∧ Completes (exec i s) fun t => ∃ v, WroteInt s rc v t ∧
      ∀ k, k < n → val (lane v k) = g (val (lane a k)) (val (lane b k)) := by
  refine oprCode_and_completes_exists (word := id) (x := v) henc hcode hexec fun k hk => ?_
  rw [hlane k hk, hval]

/-- Settles O26: the counts by the run of zero bits or the set that they measure, the packs and unpacks byte by byte. -/
theorem extensionsCountsAndPixels : Obligations.ExtensionsCountsAndPixels := by
  unfold Obligations.ExtensionsCountsAndPixels
  simp only [List.forall_mem_cons, List.not_mem_nil, false_imp_iff, implies_true, and_true]
  refine ⟨fun ra rb rc s => ⟨?sextb, ?sextw, ?ctpop, ?ctlz, ?cttz⟩, fun ra rb rc s => ?perr, ?unpkbw, ?unpkbl, ?pkwb, ?pklb⟩
  case sextb => exact oprCode_and_completes rfl (by norm_num) rfl (signExtend_low_eq_ofInt _ (by norm_num))
  case sextw => exact oprCode_and_completes rfl (by norm_num) rfl (signExtend_low_eq_ofInt _ (by norm_num))
  case ctpop => exact oprCode_and_completes rfl (by norm_num) rfl (congrArg _ (countOnes_eq_card _))
  case ctlz => exact oprCode_and_completes_exists rfl (by norm_num) rfl (zeroRun_leadingZeros _)
  case cttz => exact oprCode_and_completes_exists rfl (by norm_num) rfl (zeroRun_trailingZeros _)
  case perr => exact oprCode_and_completes rfl (by norm_num) rfl (congrArg _ (pixelError_eq_sum _ _))
  all_goals intro ra rb rc s
  case unpkbw => exact oprCode_and_completes_bytes rfl (by norm_num) rfl fun _ => byteOf_unpackByteWord _
  case unpkbl => exact oprCode_and_completes_bytes rfl (by norm_num) rfl fun _ => byteOf_unpackByteLong _
  case pkwb => exact oprCode_and_completes_bytes rfl (by norm_num) rfl fun _ => byteOf_packWordByte _
  case pklb => exact oprCode_and_completes_bytes rfl (by norm_num) rfl fun _ => byteOf_packLongByte _

/-- Settles O27: byte by byte or word by word, by what a minimum or maximum of fields is as a number. -/
theorem vectorMinimaAndMaxima : Obligations.VectorMinimaAndMaxima := by
  unfold Obligations.VectorMinimaAndMaxima
  simp only [List.forall_mem_cons, List.not_mem_nil, false_imp_iff, implies_true, and_true]
  refine ⟨⟨?minsb8, ?maxsb8⟩, ⟨?minub8, ?maxub8⟩, ⟨?minsw4, ?maxsw4⟩, ?minuw4, ?maxuw4⟩ <;> intro ra rb rc s
  case minsb8 => exact oprCode_and_completes_lanes rfl (by norm_num) rfl (byteOf_zipBytes _ _ _) toInt_minSigned
  case maxsb8 => exact oprCode_and_completes_lanes rfl (by norm_num) rfl (byteOf_zipBytes _ _ _) toInt_maxSigned
  case minub8 => exact oprCode_and_completes_lanes rfl (by norm_num) rfl (byteOf_zipBytes _ _ _) toNat_minUnsigned
  case maxub8 => exact oprCode_and_completes_lanes rfl (by norm_num) rfl (byteOf_zipBytes _ _ _) toNat_maxUnsigned
  case minsw4 => exact oprCode_and_completes_lanes rfl (by norm_num) rfl (wordOf_zipWords _ _ _) toInt_minSigned
  case maxsw4 => exact oprCode_and_completes_lanes rfl (by norm_num) rfl (wordOf_zipWords _ _ _) toInt_maxSigned
  case minuw4 => exact oprCode_and_completes_lanes rfl (by norm_num) rfl (wordOf_zipWords _ _ _) toNat_minUnsigned
  case maxuw4 => exact oprCode_and_completes_lanes rfl (by norm_num) rfl (wordOf_zipWords _ _ _) toNat_maxUnsigned

end Sys2Proof.Machine
end

/-! # Settling the decoder and the encoder: the round trips of spec/30_encoding.md -/

section

namespace Sys2Proof

/-! ### Decoding the word of an instruction -/

section
open Laws.RoundTrip

/-- The per-constructor round trips, put together. -/
theorem decode_encode (i : Instr) : decode (encode i) = .ok i :=
  Instr.casesOn (motive := Statement) i
    callPal opc01 opc02 opc03 opc04 opc05 opc06 opc07 lda ldah ldbu ldqU ldwu stw stb stqU ldl ldq ldlL ldqL stl stq stlC stqC
    ldf ldg lds ldt stf stg sts stt br bsr blbc beq blt ble blbs bne bge bgt fbeq fblt fble fbne fbge fbgt jmp jsr ret
    jsrCoroutine addl s4addl subl s4subl cmpbge s8addl s8subl cmpult addq s4addq subq s4subq cmpeq s8addq s8subq cmpule addlV
    sublV cmplt addqV subqV cmple and bic cmovlbs cmovlbc bis cmoveq cmovne ornot xor cmovlt cmovge eqv amask cmovle cmovgt
    implver mskbl extbl insbl mskwl extwl inswl mskll extll insll zap zapnot mskql srl extql sll insql sra mskwh inswh extwh
    msklh inslh extlh mskqh insqh extqh mull mulq umulh mullV mulqV sextb sextw ctpop perr ctlz cttz unpkbw unpkbl pkwb pklb
    minsb8 minsw4 minub8 minuw4 maxub8 maxuw4 maxsb8 maxsw4 trapb excb mb wmb fetch fetchM rpcc rc ecb rs wh64 itofs itoff
    itoft ftoit ftois sqrtfC sqrtsC sqrtgC sqrttC sqrtsM sqrttM sqrtf sqrts sqrtg sqrtt sqrtsD sqrttD sqrtfUc sqrtsUc sqrtgUc
    sqrttUc sqrtsUm sqrttUm sqrtfU sqrtsU sqrtgU sqrttU sqrtsUd sqrttUd sqrtfSc sqrtgSc sqrtfS sqrtgS sqrtfSuc sqrtsSuc
    sqrtgSuc sqrttSuc sqrtsSum sqrttSum sqrtfSu sqrtsSu sqrtgSu sqrttSu sqrtsSud sqrttSud sqrtsSuic sqrttSuic sqrtsSuim
    sqrttSuim sqrtsSui sqrttSui sqrtsSuid sqrttSuid addfC subfC mulfC divfC cvtdgC addgC subgC mulgC divgC cvtgfC cvtgdC cvtgqC
    cvtqfC cvtqgC addf subf mulf divf cvtdg addg subg mulg divg cmpgeq cmpglt cmpgle cvtgf cvtgd cvtgq cvtqf cvtqg addfUc
    subfUc mulfUc divfUc cvtdgUc addgUc subgUc mulgUc divgUc cvtgfUc cvtgdUc cvtgqVc addfU subfU mulfU divfU cvtdgU addgU subgU
    mulgU divgU cvtgfU cvtgdU cvtgqV addfSc subfSc mulfSc divfSc cvtdgSc addgSc subgSc mulgSc divgSc cvtgfSc cvtgdSc cvtgqSc
    addfS subfS mulfS divfS cvtdgS addgS subgS mulgS divgS cmpgeqS cmpgltS cmpgleS cvtgfS cvtgdS cvtgqS addfSuc subfSuc mulfSuc
    divfSuc cvtdgSuc addgSuc subgSuc mulgSuc divgSuc cvtgfSuc cvtgdSuc cvtgqSvc addfSu subfSu mulfSu divfSu cvtdgSu addgSu
    subgSu mulgSu divgSu cvtgfSu cvtgdSu cvtgqSv addsC subsC mulsC divsC addtC subtC multC divtC cvttsC cvttqC cvtqsC cvtqtC
    addsM subsM mulsM divsM addtM subtM multM divtM cvttsM cvttqM cvtqsM cvtqtM adds subs muls divs addt subt mult divt cmptun
    cmpteq cmptlt cmptle cvtts cvttq cvtqs cvtqt addsD subsD mulsD divsD addtD subtD multD divtD cvttsD cvttqD cvtqsD cvtqtD
    addsUc subsUc mulsUc divsUc addtUc subtUc multUc divtUc cvttsUc cvttqVc addsUm subsUm mulsUm divsUm addtUm subtUm multUm
    divtUm cvttsUm cvttqVm addsU subsU mulsU divsU addtU subtU multU divtU cvttsU cvttqV addsUd subsUd mulsUd divsUd addtUd
    subtUd multUd divtUd cvttsUd cvttqVd cvtst addsSuc subsSuc mulsSuc divsSuc addtSuc subtSuc multSuc divtSuc cvttsSuc
    cvttqSvc addsSum subsSum mulsSum divsSum addtSum subtSum multSum divtSum cvttsSum cvttqSvm addsSu subsSu mulsSu divsSu
    addtSu subtSu multSu divtSu cmptunSu cmpteqSu cmptltSu cmptleSu cvttsSu cvttqSv addsSud subsSud mulsSud divsSud addtSud
    subtSud multSud divtSud cvttsSud cvttqSvd cvtstS addsSuic subsSuic mulsSuic divsSuic addtSuic subtSuic multSuic divtSuic
    cvttsSuic cvttqSvic cvtqsSuic cvtqtSuic addsSuim subsSuim mulsSuim divsSuim addtSuim subtSuim multSuim divtSuim cvttsSuim
    cvttqSvim cvtqsSuim cvtqtSuim addsSui subsSui mulsSui divsSui addtSui subtSui multSui divtSui cvttsSui cvttqSvi cvtqsSui
    cvtqtSui addsSuid subsSuid mulsSuid divsSuid addtSuid subtSuid multSuid divtSuid cvttsSuid cvttqSvid cvtqsSuid cvtqtSuid
    cvtlq cpys cpysn cpyse mtFpcr mfFpcr fcmoveq fcmovne fcmovlt fcmovge fcmovle fcmovgt cvtql cvtqlV cvtqlSv hwMfpr hwMtpr
    hwLd hwSt hwRet

end

theorem wordOfBytes_of_word (w : BitVec 32) :
    wordOfBytes (w.extractLsb' 0 8) (w.extractLsb' 8 8) (w.extractLsb' 16 8) (w.extractLsb' 24 8) = w := by
  rw [wordOfBytes]
  ext i hi
  simp only [BitVec.getElem_append, BitVec.getElem_extractLsb']
  grind

theorem decodeBytes_bytesOfWord (w : BitVec 32) : decodeBytes (bytesOfWord w) = (decode w).toOption := by
  rw [bytesOfWord, decodeBytes, wordOfBytes_of_word]

theorem decodeTableWord_toNat (w : BitVec 32) : decodeTableWord 32 w.toNat = (decode w).toOption := by
  rw [decodeTableWord, if_pos (Nat.le_refl 32), Nat.mod_eq_of_lt w.isLt, BitVec.ofNat_toNat, BitVec.setWidth_eq,
    decodeBytes_bytesOfWord]

end Sys2Proof

namespace Sys2Proof.Machine

/-- Settles O11: the word round trip of each constructor, carried to the bytes of the table word. -/
theorem decodeInvertsEncode : Obligations.DecodeInvertsEncode := by
  unfold Obligations.DecodeInvertsEncode
  intro i
  refine ⟨decode_encode i, ?_⟩
  rw [decodeTableWord_toNat, decode_encode]
  rfl

end Sys2Proof.Machine
end

/-! # Settling the encoder's round trip: the word of a decoded word (spec/30_encoding.md section 1) -/

section

namespace Sys2Proof

/-! ### Packing the fields of a word again -/

theorem packRest_fields (w : BitVec 32) : packRest (opcodeOf w) (w.extractLsb' 0 26) = w := by
  simp only [packRest, opcodeOf, BitVec.extractLsb'_append_extractLsb'_eq_extractLsb']
  exact BitVec.extractLsb'_eq_self

theorem packMem_fields (w : BitVec 32) : packMem (opcodeOf w) (fieldA w) (fieldB w) (w.extractLsb' 0 16) = w := by
  simp only [packMem, opcodeOf, fieldA, fieldB, BitVec.extractLsb'_append_extractLsb'_eq_extractLsb']
  exact BitVec.extractLsb'_eq_self

theorem packBra_fields (w : BitVec 32) : packBra (opcodeOf w) (fieldA w) (w.extractLsb' 0 21) = w := by
  simp only [packBra, opcodeOf, fieldA, BitVec.extractLsb'_append_extractLsb'_eq_extractLsb']
  exact BitVec.extractLsb'_eq_self

theorem packFp_fields (w : BitVec 32) : packFp (opcodeOf w) (fpFunction w) (fieldA w) (fieldB w) (fieldC w) = w := by
  simp only [packFp, opcodeOf, fpFunction, fieldA, fieldB, fieldC, BitVec.extractLsb'_append_extractLsb'_eq_extractLsb']
  exact BitVec.extractLsb'_eq_self

theorem packHwMem_fields (w : BitVec 32) :
    packHwMem (opcodeOf w) (fieldA w) (fieldB w) (w.extractLsb' 13 3) (w.extractLsb' 12 1) (w.extractLsb' 0 12) = w := by
  simp only [packHwMem, opcodeOf, fieldA, fieldB, BitVec.extractLsb'_append_extractLsb'_eq_extractLsb']
  exact BitVec.extractLsb'_eq_self

theorem packHwIpr_fields (w : BitVec 32) :
    packHwIpr (opcodeOf w) (fieldA w) (fieldB w) (w.extractLsb' 8 8) (w.extractLsb' 0 8) = w := by
  simp only [packHwIpr, opcodeOf, fieldA, fieldB, BitVec.extractLsb'_append_extractLsb'_eq_extractLsb']
  exact BitVec.extractLsb'_eq_self

theorem packHwRet_fields {w : BitVec 32} (hop : opcodeOf w = 0x1E#6) :
    packHwRet (fieldA w) (fieldB w) (w.extractLsb' 14 2) (w.extractLsb' 13 1) (w.extractLsb' 0 13) = w := by
  rw [packHwRet, ← hop]
  simp only [opcodeOf, fieldA, fieldB, BitVec.extractLsb'_append_extractLsb'_eq_extractLsb']
  exact BitVec.extractLsb'_eq_self

theorem packJump_fields {w : BitVec 32} (hop : opcodeOf w = 0x1A#6) :
    packJump (w.extractLsb' 14 2) (fieldA w) (fieldB w) (w.extractLsb' 0 14) = w := by
  rw [packJump, ← hop]
  simp only [opcodeOf, fieldA, fieldB, BitVec.extractLsb'_append_extractLsb'_eq_extractLsb']
  exact BitVec.extractLsb'_eq_self

/-- Bit 12, which tells the register form from the literal one. -/
theorem extractLsb'_bit12 (w : BitVec 32) : w.extractLsb' 12 1 = if w.getLsbD 12 then 1#1 else 0#1 := by
  refine BitVec.eq_of_getLsbD_eq fun i hi => ?_
  obtain rfl : i = 0 := by omega
  rw [BitVec.getLsbD_extractLsb', decide_eq_true hi, Bool.true_and]
  cases w.getLsbD 12 <;> rfl

theorem packOpr_fields_of_literal {w : BitVec 32} (h : w.getLsbD 12 = true) :
    packOpr (opcodeOf w) (oprFunction w) (fieldA w) (fieldOperand w) (fieldC w) = w := by
  have hbit : w.extractLsb' 12 1 = 1#1 := by rw [extractLsb'_bit12, if_pos h]
  have hform : fieldOperand w = .lit (w.extractLsb' 13 8) := if_pos hbit
  rw [hform, packOpr, ← hbit]
  simp only [opcodeOf, oprFunction, fieldA, fieldC, BitVec.extractLsb'_append_extractLsb'_eq_extractLsb']
  exact BitVec.extractLsb'_eq_self

/-- The register form ignores bits [15:13] (R333, D21): a field of the other bits is that of the word. -/
theorem extractLsb'_registerForm (w : BitVec 32) {k n : Nat} (h : (~~~0xE000#32).extractLsb' k n = BitVec.allOnes n) :
    (w &&& ~~~0xE000#32).extractLsb' k n = w.extractLsb' k n := by
  rw [BitVec.extractLsb'_and, h, BitVec.and_allOnes]

theorem packOpr_fields_of_register {w : BitVec 32} (h : w.getLsbD 12 = false) :
    packOpr (opcodeOf w) (oprFunction w) (fieldA w) (fieldOperand w) (fieldC w) = w &&& ~~~0xE000#32 := by
  have hbit : w.extractLsb' 12 1 = 0#1 := by rw [extractLsb'_bit12, h, if_neg Bool.false_ne_true]
  have hignored : (w &&& ~~~0xE000#32).extractLsb' 13 3 = 0#3 := by
    rw [BitVec.extractLsb'_and, show (~~~0xE000#32).extractLsb' 13 3 = 0#3 by decide, BitVec.and_zero]
  have hbit' : (w &&& ~~~0xE000#32).extractLsb' 12 1 = 0#1 := (extractLsb'_registerForm w (by decide)).trans hbit
  rw [fieldOperand, hbit, if_neg (by decide), packOpr, ← hbit', ← hignored, opcodeOf, oprFunction, fieldA, fieldB, fieldC,
    ← extractLsb'_registerForm w (k := 26) (by decide), ← extractLsb'_registerForm w (k := 21) (by decide),
    ← extractLsb'_registerForm w (k := 16) (by decide), ← extractLsb'_registerForm w (k := 5) (by decide),
    ← extractLsb'_registerForm w (k := 0) (by decide)]
  simp only [BitVec.extractLsb'_append_extractLsb'_eq_extractLsb']
  exact BitVec.extractLsb'_eq_self

/-! ### The rows of the function-code tables are the encoder's -/

theorem mem_of_lookup_eq_some {α β : Type} [BEq α] [LawfulBEq α] {a : α} {b : β} :
    ∀ {l : List (α × β)}, l.lookup a = some b → (a, b) ∈ l
  | [], h => by simp at h
  | (c, d) :: l, h => by
    rw [List.lookup_cons] at h
    split at h
    case h_1 heq =>
      obtain rfl := eq_of_beq heq
      obtain rfl := Option.some.inj h
      exact List.mem_cons_self
    case h_2 => exact List.mem_cons_of_mem _ (mem_of_lookup_eq_some h)

/-- Each row of an Opr table is what the encoder writes. -/
def OprRowsEncode (op : BitVec 6) (t : OprTable) : Prop :=
  ∀ p ∈ t, ∀ ra rb rc, encode (p.2 ra rb rc) = packOpr op p.1 ra rb rc

/-- Each row of an F-P table is what the encoder writes. -/
def FpRowsEncode (op : BitVec 6) (t : FpTable) : Prop :=
  ∀ p ∈ t, ∀ a b c, encode (p.2 a b c) = packFp op p.1 a b c

theorem intaTable_rows : OprRowsEncode 0x10 intaTable := by
  simp only [OprRowsEncode, intaTable, List.forall_mem_cons, List.not_mem_nil, false_imp_iff, implies_true, and_true]
  and_intros <;> intros <;> rfl

theorem intlTable_rows : OprRowsEncode 0x11 intlTable := by
  simp only [OprRowsEncode, intlTable, List.forall_mem_cons, List.not_mem_nil, false_imp_iff, implies_true, and_true]
  and_intros <;> intros <;> rfl

theorem intsTable_rows : OprRowsEncode 0x12 intsTable := by
  simp only [OprRowsEncode, intsTable, List.forall_mem_cons, List.not_mem_nil, false_imp_iff, implies_true, and_true]
  and_intros <;> intros <;> rfl

theorem intmTable_rows : OprRowsEncode 0x13 intmTable := by
  simp only [OprRowsEncode, intmTable, List.forall_mem_cons, List.not_mem_nil, false_imp_iff, implies_true, and_true]
  and_intros <;> intros <;> rfl

theorem fptiTable_rows : OprRowsEncode 0x1C fptiTable := by
  simp only [OprRowsEncode, fptiTable, List.forall_mem_cons, List.not_mem_nil, false_imp_iff, implies_true, and_true]
  and_intros <;> intros <;> rfl

theorem ftoiTable_rows : FpRowsEncode 0x1C ftoiTable := by
  simp only [FpRowsEncode, ftoiTable, List.forall_mem_cons, List.not_mem_nil, false_imp_iff, implies_true, and_true]
  and_intros <;> intros <;> rfl

theorem itfpTable_rows : FpRowsEncode 0x14 itfpTable := by
  simp only [FpRowsEncode, itfpTable, itofRows, sqrtfRows, sqrtsRows, sqrtgRows, sqrttRows, List.forall_mem_append,
    List.forall_mem_cons, List.not_mem_nil, false_imp_iff, implies_true, and_true]
  and_intros <;> intros <;> rfl

theorem fltvTable_rows : FpRowsEncode 0x15 fltvTable := by
  simp only [FpRowsEncode, fltvTable, addfRows, subfRows, mulfRows, divfRows, cvtdgRows, addgRows, subgRows, mulgRows, divgRows,
    cvtgfRows, cvtgdRows, cvtgqRows, cvtqfRows, cvtqgRows, cmpgeqRows, cmpgltRows, cmpgleRows, List.forall_mem_append,
    List.forall_mem_cons, List.not_mem_nil, false_imp_iff, implies_true, and_true]
  and_intros <;> intros <;> rfl

theorem fltiTable_rows : FpRowsEncode 0x16 fltiTable := by
  simp only [FpRowsEncode, fltiTable, addsRows, subsRows, mulsRows, divsRows, addtRows, subtRows, multRows, divtRows, cvttsRows,
    cvttqRows, cvtqsRows, cvtqtRows, cmptunRows, cmpteqRows, cmptltRows, cmptleRows, cvtstRows, List.forall_mem_append,
    List.forall_mem_cons, List.not_mem_nil, false_imp_iff, implies_true, and_true]
  and_intros <;> intros <;> rfl

theorem fltlTable_rows : FpRowsEncode 0x17 fltlTable := by
  simp only [FpRowsEncode, fltlTable, fltlRows, List.forall_mem_cons, List.not_mem_nil, false_imp_iff, implies_true, and_true]
  and_intros <;> intros <;> rfl

theorem miscTable_rows : ∀ p ∈ miscTable, ∀ ra rb, encode (p.2 ra rb) = packMem 0x18 ra rb p.1 := by
  simp only [miscTable, List.forall_mem_cons, List.not_mem_nil, false_imp_iff, implies_true, and_true]
  and_intros <;> intros <;> rfl

/-! ### Encoding what a format's decoder answers -/

section formats
variable {w : BitVec 32} {i : Instr} {n : Nat}

theorem opcodeOf_eq_of_toNat (hop : (opcodeOf w).toNat = n) : opcodeOf w = BitVec.ofNat 6 n := by
  rw [← hop, BitVec.ofNat_toNat, BitVec.setWidth_eq]

theorem encode_of_decodeRest {k : BitVec 26 → Instr} (hop : (opcodeOf w).toNat = n)
    (hk : ∀ r, encode (k r) = packRest (BitVec.ofNat 6 n) r) (h : decodeRest k w = .ok i) : encode i = w := by
  rw [← Except.ok.inj h, hk, ← opcodeOf_eq_of_toNat hop, packRest_fields]

theorem encode_of_decodeMem {k : Reg → Reg → BitVec 16 → Instr} (hop : (opcodeOf w).toNat = n)
    (hk : ∀ a b d, encode (k a b d) = packMem (BitVec.ofNat 6 n) a b d) (h : decodeMem k w = .ok i) : encode i = w := by
  rw [← Except.ok.inj h, hk, ← opcodeOf_eq_of_toNat hop, packMem_fields]

theorem encode_of_decodeBra {k : Reg → BitVec 21 → Instr} (hop : (opcodeOf w).toNat = n)
    (hk : ∀ a d, encode (k a d) = packBra (BitVec.ofNat 6 n) a d) (h : decodeBra k w = .ok i) : encode i = w := by
  rw [← Except.ok.inj h, hk, ← opcodeOf_eq_of_toNat hop, packBra_fields]

theorem encode_of_decodeHwMem {k : Reg → Reg → BitVec 3 → BitVec 1 → BitVec 12 → Instr} (hop : (opcodeOf w).toNat = n)
    (hk : ∀ a b t l d, encode (k a b t l d) = packHwMem (BitVec.ofNat 6 n) a b t l d) (h : decodeHwMem k w = .ok i) :
    encode i = w := by
  rw [← Except.ok.inj h, hk, ← opcodeOf_eq_of_toNat hop, packHwMem_fields]

theorem encode_of_decodeHwIpr {k : Reg → Reg → BitVec 8 → BitVec 8 → Instr} (hop : (opcodeOf w).toNat = n)
    (hk : ∀ a b x m, encode (k a b x m) = packHwIpr (BitVec.ofNat 6 n) a b x m) (h : decodeHwIpr k w = .ok i) :
    encode i = w := by
  rw [← Except.ok.inj h, hk, ← opcodeOf_eq_of_toNat hop, packHwIpr_fields]

theorem encode_of_decodeHwRet (hop : (opcodeOf w).toNat = 0x1E) (h : decodeHwRet w = .ok i) : encode i = w := by
  rw [← Except.ok.inj h]
  exact packHwRet_fields (opcodeOf_eq_of_toNat hop)

theorem encode_of_decodeJump (hop : (opcodeOf w).toNat = 0x1A) (h : decodeJump w = .ok i) : encode i = w := by
  have hpack := packJump_fields (opcodeOf_eq_of_toNat hop)
  have hlt : (w.extractLsb' 14 2).toNat < 4 := (w.extractLsb' 14 2).isLt
  have hcode : ∀ k, (w.extractLsb' 14 2).toNat = k → w.extractLsb' 14 2 = BitVec.ofNat 2 k := fun k hk => by
    rw [← hk, BitVec.ofNat_toNat, BitVec.setWidth_eq]
  unfold decodeJump at h
  split at h
  next hk => obtain rfl := Except.ok.inj h; rw [hcode 0 hk] at hpack; exact hpack
  next hk => obtain rfl := Except.ok.inj h; rw [hcode 1 hk] at hpack; exact hpack
  next hk => obtain rfl := Except.ok.inj h; rw [hcode 2 hk] at hpack; exact hpack
  next h0 h1 h2 => simp only [imp_false] at *; obtain rfl := Except.ok.inj h; rw [hcode 3 (by omega)] at hpack; exact hpack

theorem encode_of_decodeFp {t : FpTable} {miss : Reject} (hop : (opcodeOf w).toNat = n) (ht : FpRowsEncode (BitVec.ofNat 6 n) t)
    (h : decodeFp t miss w = .ok i) : encode i = w := by
  unfold decodeFp at h
  split at h
  case h_1 k hk =>
    rw [← Except.ok.inj h, ht _ (mem_of_lookup_eq_some hk), ← opcodeOf_eq_of_toNat hop, packFp_fields]
  case h_2 => cases h

theorem encode_of_decodeMisc (hop : (opcodeOf w).toNat = 0x18) (h : decodeMisc w = .ok i) : encode i = w := by
  unfold decodeMisc at h
  split at h
  case h_1 k hk =>
    rw [← Except.ok.inj h, miscTable_rows _ (mem_of_lookup_eq_some hk)]
    have hpack := packMem_fields w
    rw [opcodeOf_eq_of_toNat hop] at hpack
    exact hpack
  case h_2 => cases h

theorem encode_of_decodeOpr {t : OprTable} {miss : Reject} (hop : (opcodeOf w).toNat = n)
    (ht : OprRowsEncode (BitVec.ofNat 6 n) t) (h : decodeOpr t miss w = .ok i) :
    encode i = if w.getLsbD 12 = false then w &&& ~~~0xE000#32 else w := by
  unfold decodeOpr at h
  split at h
  case h_1 k hk =>
    rw [← Except.ok.inj h, ht _ (mem_of_lookup_eq_some hk), ← opcodeOf_eq_of_toNat hop]
    split
    case isTrue hreg => exact packOpr_fields_of_register hreg
    case isFalse hlit => exact packOpr_fields_of_literal (Bool.eq_true_of_not_eq_false hlit)
  case h_2 => cases h

end formats

/-! ### The words of the Opr format, and all others -/

theorem eq_of_forall_lt_ne {n m : Nat} (hn : n < m + 1) (h : ∀ k, k < m → n ≠ k) : n = m :=
  (Nat.lt_succ_iff.1 hn).eq_of_not_lt fun hlt => h n hlt rfl

/-- The word has the Opr format: opcodes 10 to 13, and 1C but for FTOIx (R333, R334). -/
def HasOprFormat (w : BitVec 32) : Prop :=
  (w.extractLsb' 26 6).toNat ∈ [0x10, 0x11, 0x12, 0x13] ∨
    ((w.extractLsb' 26 6).toNat = 0x1C ∧ (w.extractLsb' 5 7).toNat ∉ [0x70, 0x78])

theorem hasOprFormat_iff (w : BitVec 32) : HasOprFormat w ↔ (opcodeOf w).toNat ∈ [0x10, 0x11, 0x12, 0x13] ∨
    ((opcodeOf w).toNat = 0x1C ∧ ¬(oprFunction w = 0x70 ∨ oprFunction w = 0x78)) := by
  simp only [HasOprFormat, opcodeOf, oprFunction, ← BitVec.toNat_inj, List.mem_cons, List.not_mem_nil, or_false,
    BitVec.reduceToNat]

theorem encode_of_decode_opr {w : BitVec 32} {i : Instr} (hw : HasOprFormat w) (h : decode w = .ok i) :
    encode i = if w.getLsbD 12 = false then w &&& ~~~0xE000#32 else w := by
  simp only [hasOprFormat_iff, List.mem_cons, List.not_mem_nil, or_false] at hw
  unfold decode at h
  obtain (hop | hop | hop | hop) | ⟨hop, hf⟩ := hw <;> rw [hop] at h
  · exact encode_of_decodeOpr hop intaTable_rows h
  · exact encode_of_decodeOpr hop intlTable_rows h
  · exact encode_of_decodeOpr hop intsTable_rows h
  · exact encode_of_decodeOpr hop intmTable_rows h
  · replace h : decodeFpti w = .ok i := h
    rw [decodeFpti, if_neg hf] at h
    exact encode_of_decodeOpr hop fptiTable_rows h

theorem encode_of_decode_not_opr {w : BitVec 32} {i : Instr} (hw : ¬HasOprFormat w) (h : decode w = .ok i) : encode i = w := by
  have hlt : (opcodeOf w).toNat < 64 := (opcodeOf w).isLt
  simp only [hasOprFormat_iff, List.mem_cons, List.not_mem_nil, or_false, not_or, not_and] at hw
  obtain ⟨⟨hinta, hintl, hints, hintm⟩, hfpti⟩ := hw
  unfold decode at h
  split at h
  case h_1 | h_2 | h_3 | h_4 | h_5 | h_6 | h_7 | h_8 => rename_i hop; exact encode_of_decodeRest hop (fun _ => rfl) h
  case h_9 | h_10 | h_11 | h_12 | h_13 | h_14 | h_15 | h_16 => rename_i hop; exact encode_of_decodeMem hop (fun _ _ _ => rfl) h
  case h_17 hop => exact absurd hop hinta
  case h_18 hop => exact absurd hop hintl
  case h_19 hop => exact absurd hop hints
  case h_20 hop => exact absurd hop hintm
  case h_21 hop => exact encode_of_decodeFp hop itfpTable_rows h
  case h_22 hop => exact encode_of_decodeFp hop fltvTable_rows h
  case h_23 hop => exact encode_of_decodeFp hop fltiTable_rows h
  case h_24 hop => exact encode_of_decodeFp hop fltlTable_rows h
  case h_25 hop => exact encode_of_decodeMisc hop h
  case h_26 hop => exact encode_of_decodeHwIpr hop (fun _ _ _ _ => rfl) h
  case h_27 hop => exact encode_of_decodeJump hop h
  case h_28 hop => exact encode_of_decodeHwMem hop (fun _ _ _ _ _ => rfl) h
  case h_29 hop =>
    rw [decodeFpti, if_pos (Classical.not_not.1 fun hf => hfpti hop (fun h => hf (.inl h)) (fun h => hf (.inr h)))] at h
    exact encode_of_decodeFp hop ftoiTable_rows h
  case h_30 hop => exact encode_of_decodeHwIpr hop (fun _ _ _ _ => rfl) h
  case h_31 hop => exact encode_of_decodeHwRet hop h
  case h_32 hop => exact encode_of_decodeHwMem hop (fun _ _ _ _ _ => rfl) h
  case h_33 | h_34 | h_35 | h_36 | h_37 | h_38 | h_39 | h_40 | h_41 | h_42 | h_43 | h_44 | h_45 | h_46 | h_47 | h_48 =>
    rename_i hop; exact encode_of_decodeMem hop (fun _ _ _ => rfl) h
  case h_49 | h_50 | h_51 | h_52 | h_53 | h_54 | h_55 | h_56 | h_57 | h_58 | h_59 | h_60 | h_61 | h_62 | h_63 =>
    rename_i hop; exact encode_of_decodeBra hop (fun _ _ => rfl) h
  case h_64 =>
    have hop : (opcodeOf w).toNat = 0x3F := eq_of_forall_lt_ne hlt fun k hk => by interval_cases k <;> assumption
    exact encode_of_decodeBra hop (fun _ _ => rfl) h

end Sys2Proof

namespace Sys2Proof.Machine

/-- Settles O12: the words of the Opr format lose their three ignored bits in the register form, all others nothing. -/
theorem encodeInvertsDecode : Obligations.EncodeInvertsDecode := by
  unfold Obligations.EncodeInvertsDecode
  intro w i h
  by_cases hw : HasOprFormat w
  · rw [encode_of_decode_opr hw h]
    exact if_congr (iff_and_self.2 fun _ => hw) rfl rfl
  · rw [encode_of_decode_not_opr hw h, if_neg fun hr => hw hr.1]

end Sys2Proof.Machine
end

/-! # Settling the memory families: integer loads and stores, the lock, unaligned quadwords, and their faults
(spec/40_int_memory.md, spec/20_memory.md sections 1 to 5, spec/60_exceptions.md) -/

section

namespace Sys2Proof.Machine

/-! ### The bytes of memory (spec/20_memory.md section 1) -/

theorem endianAddr_of_little {s : State} (h : s.vaCtl.getLsbD 0 = false) (pa : PhysAddr) (n : Nat) : endianAddr s pa n = pa := by
  have hb : ¬bigEndian s = true := by rw [bigEndian, h]; exact Bool.false_ne_true
  exact if_neg hb

theorem endianAddr_of_big {s : State} (h : s.vaCtl.getLsbD 0 = true) (pa : PhysAddr) :
    endianAddr s pa 1 = pa ^^^ 7#44 ∧ endianAddr s pa 2 = pa ^^^ 6#44 ∧ endianAddr s pa 4 = pa ^^^ 4#44 := by
  simp [endianAddr, bigEndian, h]

/-- Settles O35: the byte laws of reads and writes, and the two values of B_ENDIAN. -/
theorem byteOrderAndTheMemoryOfBytes : Obligations.ByteOrderAndTheMemoryOfBytes := by
  unfold Obligations.ByteOrderAndTheMemoryOfBytes
  refine ⟨fun m a n hn i hi => byteOf_read m a n hn i hi,
    fun m a n v hm hn => ⟨Memory.wf_write hm a n v, fun b => readByte_write_byteOf hm a n hn v b⟩,
    fun s pa => ⟨fun h n => endianAddr_of_little h pa n, fun h => ?_⟩⟩
  obtain ⟨hbyte, hword, hlong⟩ := endianAddr_of_big h pa
  exact ⟨hbyte, hword, hlong, endianAddr_eight s pa⟩

/-! ### Loads -/

theorem sextLong_eq (v : Word) : sextLong v = (v.setWidth 32).signExtend 64 := by
  rw [sextLong, longOf, BitVec.setWidth_eq_extractLsb' (by norm_num)]

theorem sextLong_eq_fun : sextLong = fun v => (v.setWidth 32).signExtend 64 := funext sextLong_eq

section
variable {s : State} {op : BitVec 6} {n : Nat} {extend : Word → Word} {ra rb : Reg} {disp : BitVec 16} {pa : PhysAddr}

theorem finishLoad_prefetch (h : ra = 31) : Completes (finishLoad s ra n extend pa) (OnlyPc (notePrefetch s pa) (s.pc + 4)) := by
  rw [finishLoad, if_pos h]
  exact completes_next rfl

theorem finishLoad_register (hn : n ≤ 8) (h : ra ≠ 31) :
    Completes (finishLoad s ra n extend pa) fun t => ∃ v u, Gets s (endianAddr s pa n) n v u ∧
      WroteInt { u with lockFlag := false, lockWatch := LockWatch.idle } ra (extend v) t := by
  rw [finishLoad, if_neg h]
  exact completes_next ⟨_, _, gets_dataRead s pa hn, wroteInt_clearLock _ ra _⟩

theorem loadInt_completes (hn : n ≤ 8) (ha : (effAddr s rb disp).toNat % n = 0)
    (hr : Reaches s (loadRef s op ra (effAddr s rb disp)) pa) :
    (ra = 31 → Completes (loadInt op n extend ra rb disp s) (OnlyPc (notePrefetch s pa) (s.pc + 4))) ∧
    (ra ≠ 31 → Completes (loadInt op n extend ra rb disp s) fun t => ∃ v u, Gets s (endianAddr s pa n) n v u ∧
      WroteInt { u with lockFlag := false, lockWatch := LockWatch.idle } ra (extend v) t) := by
  rw [loadInt, alignedReference_ok ha hr]
  exact ⟨finishLoad_prefetch, finishLoad_register hn⟩

/-- Settles O29: each load is `loadInt` of its size and extension. -/
theorem integerLoads : Obligations.IntegerLoads := by
  unfold Obligations.IntegerLoads
  simp only [List.forall_mem_cons, List.not_mem_nil, false_imp_iff, implies_true, and_true, ← sextLong_eq_fun]
  refine ⟨?ldbu, ?ldwu, ?ldl, ?ldq⟩ <;> intro ra rb disp s pa <;> refine ⟨opcode_packMem rfl (by decide), fun ha hr => ?_⟩
  case ldbu => exact loadInt_completes (extend := id) (by norm_num) ha hr
  case ldwu => exact loadInt_completes (extend := id) (by norm_num) ha hr
  case ldl => exact loadInt_completes (extend := sextLong) (by norm_num) ha hr
  case ldq => exact loadInt_completes (extend := id) (by norm_num) ha hr

theorem loadLocked_completes {value : Word → Word} (hext : ∀ v, extend v = value v) (hn : n ≤ 8) (ha : (effAddr s rb disp).toNat % n = 0)
    (hr : Reaches s (loadRef s op ra (effAddr s rb disp)) pa) :
    Completes (loadLocked op n extend ra rb disp s) fun t => ∃ v u, Gets s (endianAddr s pa n) n v u ∧
      WroteInt { u with
        lockFlag := true
        lockBlock := pa.extractLsb' 6 38
        lockWatch := { LockWatch.idle with
          prefetched := s.prefetches.any fun q => q.block == pa.extractLsb' 6 38 && decide (q.age ≤ 80) } } ra (value v) t := by
  rw [loadLocked, alignedReference_ok ha hr, finishLoadLocked]
  have hg := gets_dataRead s pa hn
  have hp : (dataRead s pa n).2.prefetches = s.prefetches := by rw [hg.after]; split <;> rfl
  refine completes_next ⟨_, _, hg, ?_⟩
  rw [← hp, ← hext]
  exact wroteInt_setLock _ ra _ pa

/-! ### Stores -/

theorem Puts.pc {s : State} {pa : PhysAddr} {n : Nat} {v : Word} {t : State} (h : Puts s pa n v t) : t.pc = s.pc :=
  (congrArg State.pc h.frame :)

theorem finishStore_completes (hm : s.mem.wf = true) (hn : n ≤ 8) (v : Word) :
    Completes (finishStore s n v pa) fun t => ∃ u, Puts s (endianAddr s pa n) n v u ∧
      t = { u with lockFlag := false, lockWatch := LockWatch.idle, pc := s.pc + 4 } := by
  have hp := puts_dataWrite hm pa hn v
  refine completes_next ⟨_, hp, ?_⟩
  rw [← hp.pc]
  rfl

theorem storeInt_completes (hm : s.mem.wf = true) (hn : n ≤ 8) (ha : (effAddr s rb disp).toNat % n = 0)
    (hr : Reaches s (storeRef s op ra (effAddr s rb disp)) pa) :
    Completes (storeInt op n ra rb disp s) fun t => ∃ u, Puts s (endianAddr s pa n) n (readInt s ra) u ∧
      t = { u with lockFlag := false, lockWatch := LockWatch.idle, pc := s.pc + 4 } := by
  rw [storeInt, alignedReference_ok ha hr]
  exact finishStore_completes hm hn _

/-- Settles O30: each store is `storeInt` of its size. -/
theorem integerStores : Obligations.IntegerStores := by
  unfold Obligations.IntegerStores
  simp only [List.forall_mem_cons, List.not_mem_nil, false_imp_iff, implies_true, and_true]
  refine ⟨?stb, ?stw, ?stl, ?stq⟩ <;> intro ra rb disp s pa <;> refine ⟨opcode_packMem rfl (by decide), fun ha hr hm => ?_⟩
  case stb => exact storeInt_completes hm (by norm_num) ha hr
  case stw => exact storeInt_completes hm (by norm_num) ha hr
  case stl => exact storeInt_completes hm (by norm_num) ha hr
  case stq => exact storeInt_completes hm (by norm_num) ha hr

/-! ### Unaligned quadwords -/

theorem endianAddr_quadAddr (s : State) (pa : PhysAddr) : endianAddr s (quadAddr pa) 8 = pa &&& ~~~7#44 := endianAddr_eight s _

theorem loadUnaligned_nop (h : ra = 31) : Completes (loadUnaligned ra rb disp s) (OnlyPc s (s.pc + 4)) := by
  rw [loadUnaligned, if_pos h]
  exact completes_next rfl

theorem loadUnaligned_completes (h : ra ≠ 31) (hr : Reaches s (loadRef s 0x0B ra (effAddr s rb disp)) pa) :
    Completes (loadUnaligned ra rb disp s) fun t => ∃ v u, Gets s (pa &&& ~~~7#44) 8 v u ∧
      WroteInt { u with lockFlag := false, lockWatch := LockWatch.idle } ra v t := by
  rw [loadUnaligned, if_neg h, reference_ok hr, ← endianAddr_quadAddr s pa]
  exact finishLoad_register (extend := id) (Nat.le_refl 8) h

theorem storeUnaligned_completes (hm : s.mem.wf = true) (hr : Reaches s (storeRef s 0x0F ra (effAddr s rb disp)) pa) :
    Completes (storeUnaligned ra rb disp s) fun t => ∃ u, Puts s (pa &&& ~~~7#44) 8 (readInt s ra) u ∧
      t = { u with lockFlag := false, lockWatch := LockWatch.idle, pc := s.pc + 4 } := by
  rw [storeUnaligned, reference_ok hr, ← endianAddr_quadAddr s pa]
  exact finishStore_completes hm (Nat.le_refl 8) _

/-- Settles O32. -/
theorem unalignedQuadwordAccesses : Obligations.UnalignedQuadwordAccesses := by
  unfold Obligations.UnalignedQuadwordAccesses
  exact fun ra rb disp s pa => ⟨opcode_packMem rfl (by norm_num), opcode_packMem rfl (by norm_num), loadUnaligned_nop,
    loadUnaligned_completes, fun hr hm => storeUnaligned_completes hm hr⟩

/-! ### Store-conditionals -/

theorem prefetchErratum_iff (s : State) (pa : PhysAddr) :
    prefetchErratum s pa = true ↔ inIoSpace pa = false ∧ absent s pa = false ∧ pa.extractLsb' 6 38 = s.lockBlock ∧
      s.lockWatch.stolen = true ∧ s.lockWatch.prefetched = true := by
  simp only [prefetchErratum, blockOf, Bool.and_eq_true, Bool.not_eq_true', beq_iff_eq]
  tauto

theorem condHeld_iff (s : State) (pa : PhysAddr) :
    condHeld s pa = true ↔ s.ackHeld = true ∧ inIoSpace pa = false ∧ absent s pa = false ∧
      dirtyAckInternal s (pa.extractLsb' 6 38) = false ∧ pa.extractLsb' 6 38 = s.lockBlock ∧
      (s.lockFlag = true ∨ s.lockWatch.stolen = true ∧ s.lockWatch.prefetched = true) := by
  simp only [condHeld, Bool.and_eq_true, Bool.or_eq_true, prefetchErratum_iff, blockOf, Bool.not_eq_true', beq_iff_eq]
  tauto

theorem condStore_wins (hm : s.mem.wf = true) (hn : n ≤ 8) (he : prefetchErratum s pa = false) (hw : condSucceeds s pa = true) :
    ∃ u, Puts s (endianAddr s pa n) n (readInt s ra) u ∧ condStore s ra n pa = writeInt u ra 1 := by
  refine ⟨_, puts_dataWrite hm pa hn (readInt s ra), ?_⟩
  simp only [condStore, drawErratum_off he, hw, if_true]

theorem condStore_loses (he : prefetchErratum s pa = false) (hw : condSucceeds s pa = false) :
    condStore s ra n pa = writeInt s ra 0 := by
  simp only [condStore, drawErratum_off he, hw, Bool.false_eq_true, if_false]

theorem condStore_erratum (hm : s.mem.wf = true) (hn : n ≤ 8) (he : prefetchErratum s pa = true) {d : State}
    (hd : d = { s with free := s.free + 1 }) :
    (∃ u, Puts d (endianAddr s pa n) n (readInt s ra) u ∧ condStore s ra n pa = writeInt u ra 1) ∨
      condStore s ra n pa = writeInt d ra 0 := by
  have hdraw : drawErratum s pa = d := by rw [drawErratum, if_pos he, hd]
  cases hc : condSucceeds s pa with
  | true =>
    refine .inl ⟨dataWrite d pa n (readInt s ra), ?_, ?_⟩
    · have hend : endianAddr s pa n = endianAddr d pa n := by rw [hd]; rfl
      rw [hend]
      exact puts_dataWrite (by rw [hd]; exact hm) pa hn _
    · simp only [condStore, hdraw, hc, if_true]
      subst hd; rfl
  | false => exact .inr (by simp only [condStore, hdraw, hc, Bool.false_eq_true, if_false])

theorem storeCond_completes (hm : s.mem.wf = true) (hn : n ≤ 8) (ha : (effAddr s rb disp).toNat % n = 0)
    (hr : Reaches s (storeRef s op ra (effAddr s rb disp)) pa) (waits erratum wins : Prop)
    (hwaits : waits ↔ s.ackHeld = true ∧ inIoSpace pa = false ∧ absent s pa = false ∧
      dirtyAckInternal s (pa.extractLsb' 6 38) = false ∧ pa.extractLsb' 6 38 = s.lockBlock ∧
      (s.lockFlag = true ∨ s.lockWatch.stolen = true ∧ s.lockWatch.prefetched = true))
    (herr : erratum ↔ inIoSpace pa = false ∧ absent s pa = false ∧ pa.extractLsb' 6 38 = s.lockBlock ∧
      s.lockWatch.stolen = true ∧ s.lockWatch.prefetched = true)
    (hwins : wins ↔ inIoSpace pa = true ∨ s.lockFlag = true ∧ pa.extractLsb' 6 38 = s.lockBlock ∧
      platformGrants s (pa.extractLsb' 6 38) = true ∧ absent s pa = false) :
    (waits → storeCond op n ra rb disp s = .next { s with waiting := true }) ∧
    (¬waits → ¬erratum → wins → Completes (storeCond op n ra rb disp s) fun t =>
      ∃ u, Puts s (endianAddr s pa n) n (readInt s ra) u ∧
        WroteInt { u with lockFlag := false, lockWatch := LockWatch.idle } ra 1 t) ∧
    (¬waits → ¬erratum → ¬wins → Completes (storeCond op n ra rb disp s)
      (WroteInt { s with lockFlag := false, lockWatch := LockWatch.idle } ra 0)) ∧
    (¬waits → erratum → ∀ d : State, d = { s with free := s.free + 1 } → Completes (storeCond op n ra rb disp s) fun t =>
      (∃ u, Puts d (endianAddr s pa n) n (readInt s ra) u ∧
        WroteInt { u with lockFlag := false, lockWatch := LockWatch.idle } ra 1 t) ∨
      WroteInt { d with lockFlag := false, lockWatch := LockWatch.idle } ra 0 t) := by
  rw [← condHeld_iff] at hwaits
  rw [← prefetchErratum_iff] at herr
  rw [storeCond, alignedReference_ok ha hr]
  obtain ⟨hheld, hfin⟩ | ⟨hheld, hfin⟩ := finishStoreCond_cases s ra n pa <;> rw [hfin]
  · have hw : waits := hwaits.2 hheld
    exact ⟨fun _ => rfl, fun h => absurd hw h, fun h => absurd hw h, fun h => absurd hw h⟩
  · have hw : ¬waits := fun h => by simp [hwaits.1 h] at hheld
    refine ⟨fun h => absurd h hw, fun _ he hwin => ?_, fun _ he hlose => ?_, fun _ he d hd => ?_⟩
    · have he : prefetchErratum s pa = false := by simpa [herr] using he
      obtain ⟨u, hu, hc⟩ := condStore_wins (ra := ra) hm hn he ((condSucceeds_iff s pa he).2 (hwins.1 hwin))
      exact completes_next ⟨u, hu, hc ▸ wroteInt_clearLock u ra 1⟩
    · have he : prefetchErratum s pa = false := by simpa [herr] using he
      have hc : condSucceeds s pa = false := by
        rw [Bool.eq_false_iff]; exact fun h => hlose (hwins.2 ((condSucceeds_iff s pa he).1 h))
      exact completes_next (condStore_loses (ra := ra) (n := n) he hc ▸ wroteInt_clearLock s ra 0)
    · obtain ⟨u, hu, hc⟩ | hc := condStore_erratum (ra := ra) hm hn (herr.1 he) hd
      · exact completes_next (.inl ⟨u, hu, hc ▸ wroteInt_clearLock u ra 1⟩)
      · exact completes_next (.inr (hc ▸ wroteInt_clearLock d ra 0))

end

end Sys2Proof.Machine
end


section

namespace Sys2Proof.Machine

/-! ### The notes of prefetches, and the acknowledgement of ChangeToDirty (R252, R255) -/

theorem notePrefetch_prefetched_iff (s : State) (pa : PhysAddr) :
    (notePrefetch s pa).lockWatch.prefetched = true ↔ s.lockWatch.prefetched = true ∨
      (s.lockFlag = true ∨ s.lockWatch.stolen = true) ∧ s.lockBlock = prefetchBlock pa ∧ s.lockWatch.age ≤ 80 := by
  simp only [notePrefetch, Bool.or_eq_true, Bool.and_eq_true, beq_iff_eq, decide_eq_true_eq, and_assoc]

theorem isShared_iff (s : State) (b : BitVec 38) :
    isShared s b = true ↔ ∃ c, s.cached.find? (fun c => c.block == b) = some c ∧ c.shared = true := by
  rw [isShared, cachedBlock]
  cases s.cached.find? (fun c => c.block == b) <;> simp

theorem writtenOver_isSome_iff (s : State) (b : BitVec 38) :
    (writtenOver s b).isSome = true ↔ ∃ c, s.cached.find? (fun c => c.block == b) = some c ∧ c.below ≠ none := by
  rw [writtenOver, cachedBlock]
  cases s.cached.find? (fun c => c.block == b) <;> simp [Option.isSome_iff_ne_none]

theorem dirtyAckInternal_eq (s : State) (b : BitVec 38) :
    dirtyAckInternal s b =
      if isShared s b then !s.writeMany.getLsbD (if (writtenOver s b).isSome then 25 else 24)
      else (writtenOver s b).isSome || !s.writeMany.getLsbD 22 := by
  unfold dirtyAckInternal
  cases (writtenOver s b).isSome <;> cases isShared s b <;> rfl

theorem dirtyAckInternal_of_iff {s : State} {b : BitVec 38} {sh wr : Bool}
    (hsh : sh = true ↔ ∃ c, s.cached.find? (fun c => c.block == b) = some c ∧ c.shared = true)
    (hwr : wr = true ↔ ∃ c, s.cached.find? (fun c => c.block == b) = some c ∧ c.below ≠ none) :
    dirtyAckInternal s b = if sh then !s.writeMany.getLsbD (if wr then 25 else 24) else wr || !s.writeMany.getLsbD 22 := by
  rw [← isShared_iff, Bool.coe_iff_coe] at hsh
  rw [← writtenOver_isSome_iff, Bool.coe_iff_coe] at hwr
  rw [dirtyAckInternal_eq, hsh, hwr]

/-- Settles O31: the two load-locked, the two store-conditionals, and the three rules beside them. -/
theorem loadLockedAndStoreConditional : Obligations.LoadLockedAndStoreConditional := by
  unfold Obligations.LoadLockedAndStoreConditional
  refine ⟨?locked, ?cond, ?note, fun s b sh wr hsh hwr => ⟨dirtyAckInternal_of_iff hsh hwr, rfl⟩,
    fun s q hw => mem_agePrefetches hw q⟩
  case locked =>
    simp only [List.forall_mem_cons, List.not_mem_nil, false_imp_iff, implies_true, and_true]
    constructor <;> intro ra rb disp s pa <;> refine ⟨opcode_packMem rfl (by decide), fun ha hr => ?_⟩
    · exact loadLocked_completes (extend := sextLong) sextLong_eq (by norm_num) ha hr
    · exact loadLocked_completes (extend := id) (fun v => by rw [BitVec.setWidth_eq, BitVec.signExtend_eq]; rfl) (by norm_num) ha hr
  case cond =>
    simp only [List.forall_mem_cons, List.not_mem_nil, false_imp_iff, implies_true, and_true]
    constructor <;> intro ra rb disp s pa <;>
      refine ⟨opcode_packMem rfl (by decide), fun ha hr hm waits erratum wins hwaits herr hwins => ?_⟩
    · exact storeCond_completes hm (by norm_num) ha hr waits erratum wins hwaits herr hwins
    · exact storeCond_completes hm (by norm_num) ha hr waits erratum wins hwaits herr hwins
  case note =>
    intro s pa b hb
    subst hb
    exact ⟨rfl, rfl, rfl, notePrefetch_prefetched_iff s pa⟩

/-! ### The instructions that make an aligned reference -/

/-- The outcome is that of a reference which must be aligned to `n` bytes, whatever follows its translation. -/
def RefersAs (o : Out) (s : State) (r : DataRef) (n : Nat) : Prop := ∃ k, o = alignedReference s r n k

section
variable {o : Out} {s : State} {op : BitVec 6} {n : Nat} {f : Word → Word} {ra rb : Reg} {disp : BitVec 16}

theorem refersAs_loadInt (h : o = loadInt op n f ra rb disp s) : RefersAs o s (loadRef s op ra (effAddr s rb disp)) n := ⟨_, h⟩

theorem refersAs_loadLocked (h : o = loadLocked op n f ra rb disp s) : RefersAs o s (loadRef s op ra (effAddr s rb disp)) n :=
  ⟨_, h⟩

theorem refersAs_storeInt (h : o = storeInt op n ra rb disp s) : RefersAs o s (storeRef s op ra (effAddr s rb disp)) n := ⟨_, h⟩

theorem refersAs_storeCond (h : o = storeCond op n ra rb disp s) : RefersAs o s (storeRef s op ra (effAddr s rb disp)) n := ⟨_, h⟩

/-- STQ_U and LDQ_U have no alignment to keep. -/
theorem refersAs_reference {r : DataRef} {k : PhysAddr → Out} (h : o = reference s r k) : RefersAs o s r 1 :=
  ⟨k, h.trans (alignedReference_aligned (Nat.mod_one _) k).symm⟩

theorem refersAs_loadFp (hon : fpEnabled s = true ∨ ra = 31) (h : o = loadFp op n f ra rb disp s) :
    RefersAs o s (loadRef s op ra (effAddr s rb disp)) n := by
  subst h
  unfold loadFp
  split
  case isTrue => exact ⟨_, rfl⟩
  case isFalse h31 => exact ⟨_, requireFp_on (hon.resolve_right h31) _ _⟩

theorem refersAs_storeFp (hon : fpEnabled s = true) (h : o = storeFp op n f ra rb disp s) :
    RefersAs o s (storeRef s op ra (effAddr s rb disp)) n :=
  ⟨_, h.trans (requireFp_on hon _ _)⟩

end

/-- The integer loads and stores that keep an alignment, and STQ_U: opcode, alignment, and whether they store. -/
def integerReferences : List ((Reg → Reg → BitVec 16 → Instr) × BitVec 6 × Nat × Bool) :=
  [(.ldbu, 0x0A, 1, false), (.ldwu, 0x0C, 2, false), (.ldl, 0x28, 4, false), (.ldq, 0x29, 8, false),
    (.ldlL, 0x2A, 4, false), (.ldqL, 0x2B, 8, false), (.stqU, 0x0F, 1, true), (.stb, 0x0E, 1, true),
    (.stw, 0x0D, 2, true), (.stl, 0x2C, 4, true), (.stq, 0x2D, 8, true), (.stlC, 0x2E, 4, true),
    (.stqC, 0x2F, 8, true)]

theorem integerReferences_refersAs : ∀ p ∈ integerReferences, ∀ ra rb disp s,
    RefersAs (exec (p.1 ra rb disp) s) s ((if p.2.2.2 then storeRef else loadRef) s p.2.1 ra (effAddr s rb disp)) p.2.2.1 := by
  simp only [integerReferences, List.forall_mem_cons, List.not_mem_nil, false_imp_iff, implies_true, and_true]
  refine ⟨?ldbu, ?ldwu, ?ldl, ?ldq, ?ldlL, ?ldqL, ?stqU, ?stb, ?stw, ?stl, ?stq, ?stlC, ?stqC⟩ <;> intro ra rb disp s
  case ldbu | ldwu | ldl | ldq => exact refersAs_loadInt rfl
  case ldlL | ldqL => exact refersAs_loadLocked rfl
  case stqU => exact refersAs_reference (k := fun pa => finishStore s 8 (readInt s ra) (quadAddr pa)) rfl
  case stb | stw | stl | stq => exact refersAs_storeInt rfl
  case stlC | stqC => exact refersAs_storeCond rfl

theorem ldqU_refersAs {ra : Reg} (h : ra ≠ 31) (rb : Reg) (disp : BitVec 16) (s : State) :
    RefersAs (exec (.ldqU ra rb disp) s) s (loadRef s 0x0B ra (effAddr s rb disp)) 1 :=
  refersAs_reference (if_neg h : loadUnaligned ra rb disp s = _)

/-- The floating loads and stores. -/
def floatingReferences : List ((Reg → Reg → BitVec 16 → Instr) × BitVec 6 × Nat × Bool) :=
  [(.ldf, 0x20, 4, false), (.ldg, 0x21, 8, false), (.lds, 0x22, 4, false), (.ldt, 0x23, 8, false),
    (.stf, 0x24, 4, true), (.stg, 0x25, 8, true), (.sts, 0x26, 4, true), (.stt, 0x27, 8, true)]

theorem floatingReferences_refersAs : ∀ p ∈ floatingReferences, ∀ fa rb disp s,
    (fpEnabled s = true ∨ fa = 31 ∧ p.2.2.2 = false) →
    RefersAs (exec (p.1 fa rb disp) s) s ((if p.2.2.2 then storeRef else loadRef) s p.2.1 fa (effAddr s rb disp)) p.2.2.1 := by
  simp only [floatingReferences, List.forall_mem_cons, List.not_mem_nil, false_imp_iff, implies_true, and_true]
  refine ⟨?ldf, ?ldg, ?lds, ?ldt, ?stf, ?stg, ?sts, ?stt⟩ <;> intro fa rb disp s hon
  case ldf | ldg | lds | ldt => exact refersAs_loadFp hon rfl
  case stf => exact refersAs_storeFp (f := fun v => (datumF v).setWidth 64) (hon.resolve_right (by simp)) rfl
  case stg => exact refersAs_storeFp (f := swapG) (hon.resolve_right (by simp)) rfl
  case sts => exact refersAs_storeFp (f := fun v => (datumS v).setWidth 64) (hon.resolve_right (by simp)) rfl
  case stt => exact refersAs_storeFp (f := id) (hon.resolve_right (by simp)) rfl

/-- No ordinary reference is one of HW_LD or HW_ST, whose opcodes MM_STAT shows as 3 and 7 (R169). -/
theorem shownOpcode_references : ∀ op ∈ (integerReferences ++ floatingReferences).map (·.2.1), shownOpcode op = op := by decide

/-- What an ordinary load or store reports of itself. -/
theorem ordinaryRef_reports (write : Bool) (s : State) (op : BitVec 6) (reg : Reg) (ea : Word) {r : DataRef}
    (hr : r = (if write then storeRef else loadRef) s op reg ea) :
    r.vpte = false ∧ r.write = write ∧ r.opcode = op ∧ r.reg = reg := by
  subst hr
  cases write <;> exact ⟨rfl, rfl, rfl, rfl⟩

/-! ### The faults of a reference -/

/-- The faults of R838 in their order, with what the reference reports. -/
def FaultsInOrder (o : Out) (s : State) (r : DataRef) (n op : Nat) (write : Bool) : Prop :=
  (r.ea.toNat % n ≠ 0 → Completes o (Faulted s r .unalign 0x280 (mmWord op false false false write))) ∧
    (r.ea.toNat % n = 0 → translateData s r = .error .miss →
      Completes o (Faulted s r .dtbmSingle 0x300 (mmWord op false false false write))) ∧
    ∀ acv fr fw, r.ea.toNat % n = 0 → translateData s r = .error (.violation acv fr fw) →
      Completes o (Faulted s r .dfault 0x380 (mmWord op fw fr acv write))

theorem RefersAs.faultsInOrder {o : Out} {s : State} {r : DataRef} {n : Nat} (ho : RefersAs o s r n) (hv : r.vpte = false) :
    FaultsInOrder o s r n (shownOpcode r.opcode).toNat r.write := by
  obtain ⟨k, rfl⟩ := ho
  refine ⟨fun h => alignedReference_unaligned h hv k, fun h hmiss => ?_, fun acv fr fw h hviol => ?_⟩
  · rw [alignedReference_aligned h]; exact reference_miss hmiss hv k
  · rw [alignedReference_aligned h]; exact reference_violation hviol hv k

theorem ordinary_faultsInOrder {o : Out} {s : State} {r : DataRef} {n : Nat} {op : BitVec 6} {write : Bool} {reg : Reg} {ea : Word}
    (hr : r = (if write then storeRef else loadRef) s op reg ea) (ho : RefersAs o s r n) (hop : shownOpcode op = op) :
    FaultsInOrder o s r n op.toNat write := by
  obtain ⟨hv, hw, hopc, -⟩ := ordinaryRef_reports write s op reg ea hr
  have h := ho.faultsInOrder hv
  rwa [hopc, hop, hw] at h

/-- Settles O33: every load and store is one aligned reference, STQ_U and LDQ_U with no alignment to keep. -/
theorem dataReferenceFaults : Obligations.DataReferenceFaults := by
  unfold Obligations.DataReferenceFaults
  refine ⟨fun p hp ra rb disp s r hr => ?integer, fun ra rb disp s h31 => ?ldqU, fun p hp fa rb disp s r hr hon => ?floating⟩
  case integer =>
    exact ordinary_faultsInOrder hr (hr ▸ integerReferences_refersAs p hp ra rb disp s)
      (shownOpcode_references _ (List.mem_map_of_mem (List.mem_append_left _ hp)))
  case ldqU =>
    obtain ⟨-, hmiss, hviol⟩ := ordinary_faultsInOrder (write := false) rfl (ldqU_refersAs h31 rb disp s) rfl
    exact ⟨hmiss (Nat.mod_one _), fun acv fr fw => hviol acv fr fw (Nat.mod_one _)⟩
  case floating =>
    exact ordinary_faultsInOrder hr (hr ▸ floatingReferences_refersAs p hp fa rb disp s hon)
      (shownOpcode_references _ (List.mem_map_of_mem (List.mem_append_right _ hp)))

end Sys2Proof.Machine
end

/-! # Settling the family spec/45_fp_memory_branch.md: the memory formats, and the floating loads and stores -/

section

namespace Sys2Proof.Machine

/-! ### The memory formats, field by field (R570) -/

/-- The three copies of the inverted top bit add 896, the difference of the two excesses. -/
theorem toNat_mapS (e : BitVec 8) :
    (mapS e).toNat = if e.toNat = 255 then 2047 else if e.toNat = 0 then 0 else e.toNat + 896 := by
  revert e; decide

theorem toNat_mapF (e : BitVec 8) : (mapF e).toNat = if e.toNat = 0 then 0 else e.toNat + 896 := by
  revert e; decide

/-- What the two short formats keep of an exponent is all of it. -/
theorem mapS_keeps (e : BitVec 8) : (mapS e).extractLsb' 10 1 ++ (mapS e).extractLsb' 0 7 = e := by
  revert e; decide

theorem mapF_keeps (e : BitVec 8) : (mapF e).extractLsb' 10 1 ++ (mapF e).extractLsb' 0 7 = e := by
  revert e; decide

theorem imageS_fields (m : Word) :
    (imageS m).getLsbD 63 = m.getLsbD 31 ∧ (imageS m).extractLsb' 29 23 = m.extractLsb' 0 23 ∧
      (imageS m).extractLsb' 0 29 = 0 ∧ (imageS m).extractLsb' 52 11 = mapS (m.extractLsb' 23 8) := by
  unfold imageS
  generalize mapS (m.extractLsb' 23 8) = x
  and_intros
  · grind
  · ext i hi; grind
  · ext i hi; grind
  · ext i hi; grind

/-- A field of a field. -/
theorem field_of_field {w : Nat} (x : BitVec w) {s n k j : Nat} (h : k + j ≤ n) :
    (x.extractLsb' s n).extractLsb' k j = x.extractLsb' (s + k) j := by
  refine BitVec.eq_of_getLsbD_eq fun i hi => ?_
  simp only [BitVec.getLsbD_extractLsb', hi, decide_true, Bool.true_and, decide_eq_true (by omega : k + i < n), Nat.add_assoc]

theorem bit_field_eq {v w : Nat} {x : BitVec v} {y : BitVec w} {k j : Nat} (h : x.getLsbD k = y.getLsbD j) :
    x.extractLsb' k 1 = y.extractLsb' j 1 := by
  refine BitVec.eq_of_getLsbD_eq fun i hi => ?_
  obtain rfl : i = 0 := by omega
  simpa only [BitVec.getLsbD_extractLsb', hi, decide_true, Bool.true_and, Nat.add_zero] using h

/-- What a short exponent gives of the register's exponent field: the top bit and the low seven. -/
theorem exponent_kept {v : Word} {x : BitVec 11} {e : BitVec 8} (hv : v.extractLsb' 52 11 = x)
    (hkeep : x.extractLsb' 10 1 ++ x.extractLsb' 0 7 = e) : v.extractLsb' 62 1 = e.extractLsb' 7 1 ∧
      v.extractLsb' 52 7 = e.extractLsb' 0 7 := by
  rw [← hkeep, BitVec.extractLsb'_append_eq_left, BitVec.extractLsb'_append_eq_right, ← hv, field_of_field v (by norm_num),
    field_of_field v (by norm_num)]
  exact ⟨rfl, rfl⟩

theorem datumS_imageS (m : Word) : datumS (imageS m) = m.setWidth 32 := by
  obtain ⟨hsign, hfrac, -, hexp⟩ := imageS_fields m
  obtain ⟨htop, hlow⟩ := exponent_kept hexp (mapS_keeps _)
  rw [field_of_field m (by norm_num)] at htop hlow
  have hhigh : (imageS m).extractLsb' 62 2 = m.extractLsb' 30 2 := calc
    (imageS m).extractLsb' 62 2 = (imageS m).extractLsb' 63 1 ++ (imageS m).extractLsb' 62 1 := by
      simp only [BitVec.extractLsb'_append_extractLsb'_eq_extractLsb']
    _ = m.extractLsb' 31 1 ++ m.extractLsb' 30 1 := by rw [bit_field_eq hsign, htop]
    _ = m.extractLsb' 30 2 := BitVec.extractLsb'_append_extractLsb'_eq_extractLsb' rfl
  have hrest : (imageS m).extractLsb' 29 30 = m.extractLsb' 0 30 := calc
    (imageS m).extractLsb' 29 30 = (imageS m).extractLsb' 52 7 ++ (imageS m).extractLsb' 29 23 := by
      simp only [BitVec.extractLsb'_append_extractLsb'_eq_extractLsb']
    _ = m.extractLsb' 23 7 ++ m.extractLsb' 0 23 := by rw [hlow, hfrac]
    _ = m.extractLsb' 0 30 := BitVec.extractLsb'_append_extractLsb'_eq_extractLsb' rfl
  rw [datumS, hhigh, hrest, BitVec.setWidth_eq_extractLsb' (by norm_num)]
  exact BitVec.extractLsb'_append_extractLsb'_eq_extractLsb' rfl

theorem imageF_fields (m : Word) :
    (imageF m).getLsbD 63 = m.getLsbD 15 ∧ (imageF m).extractLsb' 45 7 = m.extractLsb' 0 7 ∧
      (imageF m).extractLsb' 29 16 = m.extractLsb' 16 16 ∧ (imageF m).extractLsb' 0 29 = 0 ∧
      (imageF m).extractLsb' 52 11 = mapF (m.extractLsb' 7 8) := by
  unfold imageF
  generalize mapF (m.extractLsb' 7 8) = x
  and_intros
  · grind
  · ext i hi; grind
  · ext i hi; grind
  · ext i hi; grind
  · ext i hi; grind

theorem datumF_imageF (m : Word) : datumF (imageF m) = m.setWidth 32 := by
  obtain ⟨hsign, hhigh, hfrac, -, hexp⟩ := imageF_fields m
  obtain ⟨htop, hlow⟩ := exponent_kept hexp (mapF_keeps _)
  rw [field_of_field m (by norm_num)] at htop hlow
  rw [datumF, hfrac, bit_field_eq hsign, htop, hlow, hhigh, BitVec.setWidth_eq_extractLsb' (by norm_num)]
  simp only [BitVec.extractLsb'_append_extractLsb'_eq_extractLsb']

theorem wordOf_swapG (m : Word) (i : Nat) (hi : i < 4) : wordOf (swapG m) i = wordOf m (3 - i) := by
  unfold wordOf swapG
  interval_cases i <;> (ext j hj; grind)

theorem eq_of_wordOf_eq {v w : Word} (h : ∀ i, i < 4 → wordOf v i = wordOf w i) : v = w := by
  apply BitVec.eq_of_getLsbD_eq
  intro j hj
  have hw := congrArg (fun x : BitVec 16 => x.getLsbD (j % 16)) (h (j / 16) (by omega))
  have hlt : j % 16 < 16 := Nat.mod_lt _ (by norm_num)
  simpa only [wordOf, BitVec.getLsbD_extractLsb', hlt, decide_true, Bool.true_and, Nat.div_add_mod] using hw

theorem swapG_swapG (m : Word) : swapG (swapG m) = m :=
  eq_of_wordOf_eq fun i hi => by
    rw [wordOf_swapG _ _ hi, wordOf_swapG _ _ (by omega), show 3 - (3 - i) = i by omega]

theorem datumS_fields (v : Word) :
    (datumS v).extractLsb' 30 2 = v.extractLsb' 62 2 ∧ (datumS v).extractLsb' 0 30 = v.extractLsb' 29 30 := by
  unfold datumS
  and_intros <;> (ext j hj; grind)

theorem datumF_fields (v : Word) :
    (datumF v).getLsbD 15 = v.getLsbD 63 ∧ (datumF v).getLsbD 14 = v.getLsbD 62 ∧
      (datumF v).extractLsb' 7 7 = v.extractLsb' 52 7 ∧ (datumF v).extractLsb' 0 7 = v.extractLsb' 45 7 ∧
      (datumF v).extractLsb' 16 16 = v.extractLsb' 29 16 := by
  unfold datumF
  and_intros
  · grind
  · grind
  · ext j hj; grind
  · ext j hj; grind
  · ext j hj; grind

/-- Settles O40. -/
theorem floatingMemoryFormats : Obligations.FloatingMemoryFormats := by
  unfold Obligations.FloatingMemoryFormats
  refine ⟨fun m => ?_, fun m => ?_, fun m => ⟨wordOf_swapG m, swapG_swapG m⟩, fun v => ?_⟩
  · obtain ⟨hsign, hfrac, hlow, hexp⟩ := imageS_fields m
    exact ⟨hsign, hfrac, hlow, hexp ▸ toNat_mapS _, datumS_imageS m⟩
  · obtain ⟨hsign, hhigh, hfrac, hlow, hexp⟩ := imageF_fields m
    exact ⟨hsign, hhigh, hfrac, hlow, hexp ▸ toNat_mapF _, datumF_imageF m⟩
  · obtain ⟨hexp, hfrac⟩ := datumS_fields v
    exact ⟨hexp, hfrac, datumF_fields v⟩

/-! ### Floating loads -/

section
variable {s : State} {op : BitVec 6} {n : Nat} {f : Word → Word} {fa rb : Reg} {disp : BitVec 16} {pa : PhysAddr}

/-- A prefetch with modify intent, as the records of the caches show it (R260). -/
theorem onlyPc_prefetchModify (s : State) (pa : PhysAddr) {t : State} (ht : t = advance (prefetchModify s pa)) :
    OnlyPc { notePrefetch s pa with cached := t.cached, free := t.free } (s.pc + 4) t ∧
      (t.cached = s.cached ∨ t.cached = dirtied s (prefetchBlock pa) ∧ absentBlock s (prefetchBlock pa) = false) ∧
      (absentBlock s (prefetchBlock pa) = true ∨ s.mCtl.extractLsb' 4 2 = 1#2 → t.cached = s.cached ∧ t.free = s.free) ∧
      (absentBlock s (prefetchBlock pa) = false → s.mCtl.extractLsb' 4 2 = 0#2 →
        t.cached = dirtied s (prefetchBlock pa) ∧ t.free = s.free) := by
  subst ht
  refine ⟨?_, ?_, fun h => ?_, fun ha h => ?_⟩
  · obtain ⟨m, hm | ⟨-, hm⟩⟩ := prefetchModify_cases s pa <;> rw [hm] <;> rfl
  · obtain ⟨m, hm | ⟨ha, hm⟩⟩ := prefetchModify_cases s pa <;> rw [hm]
    · exact .inl rfl
    · exact .inr ⟨rfl, ha⟩
  · rw [prefetchModify_normal h]; exact ⟨rfl, rfl⟩
  · rw [prefetchModify_dirty ha h]; exact ⟨rfl, rfl⟩

theorem finishLoadFp_register (hn : n ≤ 8) (h : fa ≠ 31) :
    Completes (finishLoadFp s op fa n f pa) fun t => ∃ v u, Gets s (endianAddr s pa n) n v u ∧
      WroteFp { u with lockFlag := false, lockWatch := LockWatch.idle } fa (f v) t := by
  rw [finishLoadFp, if_neg h]
  exact completes_next ⟨_, _, gets_dataRead s pa hn, wroteFp_clearLock _ fa _⟩

theorem loadFp_disabled (hoff : fpEnabled s = false) (h : fa ≠ 31) :
    Completes (loadFp op n f fa rb disp s) fun t => Entered s .fen 0x200 (faultPc s) t ∧ t.excSum.reg = fa := by
  rw [loadFp, if_neg h]
  exact requireFp_off hoff fa _

theorem loadFp_ok (hon : fpEnabled s = true ∨ fa = 31) (ha : (effAddr s rb disp).toNat % n = 0)
    (hr : Reaches s (loadRef s op fa (effAddr s rb disp)) pa) :
    loadFp op n f fa rb disp s = finishLoadFp s op fa n f pa := by
  have hbody : loadFpBody op n f fa rb disp s = finishLoadFp s op fa n f pa := alignedReference_ok ha hr _
  unfold loadFp
  split
  case isTrue => exact hbody
  case isFalse h31 => exact (requireFp_on (hon.resolve_right h31) _ _).trans hbody

theorem loadFp_completes (hn : n ≤ 8) (ha : (effAddr s rb disp).toNat % n = 0)
    (hr : Reaches s (loadRef s op fa (effAddr s rb disp)) pa) :
    (fa = 31 → op ≠ 0x22 → Completes (loadFp op n f fa rb disp s) (OnlyPc (notePrefetch s pa) (s.pc + 4))) ∧
    (fa = 31 → op = 0x22 → ∀ b : BitVec 38, b = (pa.extractLsb' 6 37).setWidth 38 →
      Completes (loadFp op n f fa rb disp s) fun t =>
        OnlyPc { notePrefetch s pa with cached := t.cached, free := t.free } (s.pc + 4) t ∧
        (t.cached = s.cached ∨ t.cached = dirtied s b ∧ absentBlock s b = false) ∧
        (absentBlock s b = true ∨ s.mCtl.extractLsb' 4 2 = 1#2 → t.cached = s.cached ∧ t.free = s.free) ∧
        (absentBlock s b = false → s.mCtl.extractLsb' 4 2 = 0#2 → t.cached = dirtied s b ∧ t.free = s.free)) ∧
    (fa ≠ 31 → fpEnabled s = true → Completes (loadFp op n f fa rb disp s) fun t =>
      ∃ v u, Gets s (endianAddr s pa n) n v u ∧
        WroteFp { u with lockFlag := false, lockWatch := LockWatch.idle } fa (f v) t) := by
  refine ⟨fun h31 hop => ?_, fun h31 hop b hb => ?_, fun h31 hon => ?_⟩
  · rw [loadFp_ok (.inr h31) ha hr, finishLoadFp, if_pos h31, if_neg hop]
    exact completes_next rfl
  · rw [loadFp_ok (.inr h31) ha hr, finishLoadFp, if_pos h31, if_pos hop, hb]
    exact completes_next (onlyPc_prefetchModify s pa rfl)
  · rw [loadFp_ok (.inl hon) ha hr]
    exact finishLoadFp_register hn h31

/-! ### Floating stores -/

theorem storeFp_completes (hm : s.mem.wf = true) (hn : n ≤ 8) (hon : fpEnabled s = true)
    (ha : (effAddr s rb disp).toNat % n = 0) (hr : Reaches s (storeRef s op fa (effAddr s rb disp)) pa) :
    Completes (storeFp op n f fa rb disp s) fun t => ∃ u, Puts s (endianAddr s pa n) n (f (readFp s fa)) u ∧
      t = { u with lockFlag := false, lockWatch := LockWatch.idle, pc := s.pc + 4 } := by
  rw [storeFp, requireFp_on hon, alignedReference_ok ha hr]
  exact finishStore_completes hm hn _

theorem opcode_of_packMem {i : Instr} (henc : encode i = packMem op fa rb disp) : Opcode i op.toNat := by
  rw [Opcode, henc]
  exact congrArg BitVec.toNat (opcodeOf_packMem op fa rb disp)

theorem opcode_and_loadFp {i : Instr} (henc : encode i = packMem op fa rb disp)
    (hexec : exec i s = loadFp op n f fa rb disp s) (hn : n ≤ 8) :
    Opcode i op.toNat ∧
      ((effAddr s rb disp).toNat % n = 0 → Reaches s (loadRef s op fa (effAddr s rb disp)) pa →
        (fa = 31 → op ≠ 0x22 → Completes (exec i s) (OnlyPc (notePrefetch s pa) (s.pc + 4))) ∧
        (fa = 31 → op = 0x22 → ∀ b : BitVec 38, b = (pa.extractLsb' 6 37).setWidth 38 → Completes (exec i s) fun t =>
          OnlyPc { notePrefetch s pa with cached := t.cached, free := t.free } (s.pc + 4) t ∧
          (t.cached = s.cached ∨ t.cached = dirtied s b ∧ absentBlock s b = false) ∧
          (absentBlock s b = true ∨ s.mCtl.extractLsb' 4 2 = 1#2 → t.cached = s.cached ∧ t.free = s.free) ∧
          (absentBlock s b = false → s.mCtl.extractLsb' 4 2 = 0#2 → t.cached = dirtied s b ∧ t.free = s.free)) ∧
        (fa ≠ 31 → fpEnabled s = true → Completes (exec i s) fun t =>
          ∃ v u, Gets s (endianAddr s pa n) n v u ∧
            WroteFp { u with lockFlag := false, lockWatch := LockWatch.idle } fa (f v) t)) ∧
      (fpEnabled s = false → fa ≠ 31 → Completes (exec i s) fun t => Entered s .fen 0x200 (faultPc s) t ∧ t.excSum.reg = fa) := by
  rw [hexec]
  exact ⟨opcode_of_packMem henc, loadFp_completes hn,
    loadFp_disabled⟩

theorem opcode_and_storeFp {i : Instr} (henc : encode i = packMem op fa rb disp)
    (hexec : exec i s = storeFp op n f fa rb disp s) (hn : n ≤ 8) :
    Opcode i op.toNat ∧
      (fpEnabled s = true → (effAddr s rb disp).toNat % n = 0 → Reaches s (storeRef s op fa (effAddr s rb disp)) pa →
        s.mem.wf = true → Completes (exec i s) fun t => ∃ u, Puts s (endianAddr s pa n) n (f (readFp s fa)) u ∧
          t = { u with lockFlag := false, lockWatch := LockWatch.idle, pc := s.pc + 4 }) ∧
      (fpEnabled s = false → Completes (exec i s) fun t => Entered s .fen 0x200 (faultPc s) t ∧ t.excSum.reg = fa) := by
  rw [hexec]
  exact ⟨opcode_of_packMem henc,
    fun hon ha hr hm => storeFp_completes hm hn hon ha hr, fun hoff => requireFp_off hoff fa _⟩

end

/-- Settles O41: each load is `loadFp` of its image, each store `storeFp` of its datum. -/
theorem floatingLoadsAndStores : Obligations.FloatingLoadsAndStores := by
  unfold Obligations.FloatingLoadsAndStores
  constructor <;> intro p hp fa rb disp s pa <;> simp only [List.mem_cons, List.not_mem_nil, or_false] at hp <;>
    obtain rfl | rfl | rfl | rfl := hp
  · exact opcode_and_loadFp (f := imageF) rfl rfl (by norm_num)
  · exact opcode_and_loadFp (f := swapG) rfl rfl (by norm_num)
  · exact opcode_and_loadFp (f := imageS) rfl rfl (by norm_num)
  · exact opcode_and_loadFp (f := id) rfl rfl (by norm_num)
  · exact opcode_and_storeFp (f := fun v => (datumF v).setWidth 64) rfl rfl (by norm_num)
  · exact opcode_and_storeFp (f := swapG) rfl rfl (by norm_num)
  · exact opcode_and_storeFp (f := fun v => (datumS v).setWidth 64) rfl rfl (by norm_num)
  · exact opcode_and_storeFp (f := id) rfl rfl (by norm_num)

end Sys2Proof.Machine
end

/-! # Settling the family spec/46_fp_operate.md: the forms of the floating operates, the moves, and the FPCR -/

section

namespace Sys2Proof.Machine

/-! ### The rows of the function-code tables

A row gives the instructions of one operation, one for each trap and rounding form, in the order of a list of forms. -/

/-- The codes and the outcomes of a row whose form `q` runs as the operate with the result `result s q fa fb`. -/
theorem codes_and_outcomes_of_row {op low : Nat} (result : State → TrapQual × RoundField → Reg → Reg → FpResult)
    {forms : List (TrapQual × RoundField)} {instrs : List (Reg → Reg → Reg → Instr)}
    (hrow : ∀ q ∈ List.zip instrs forms, ∀ fa fb fc, (op < 2 ^ 6 ∧ formCode q.2 low < 2 ^ 11) ∧
      encode (q.1 fa fb fc) = packFp (BitVec.ofNat 6 op) (BitVec.ofNat 11 (formCode q.2 low)) fa fb fc ∧
      ∀ s, exec (q.1 fa fb fc) s = fpOperate s q.2.1 fc (result s q.2 fa fb)) :
    ∀ q ∈ List.zip instrs forms, ∀ fa fb fc s, FpCode (q.1 fa fb fc) op (formCode q.2 low) ∧
      FpOutcome s q.2.1 fc (result s q.2 fa fb) (exec (q.1 fa fb fc) s) := by
  intro q hq fa fb fc s
  obtain ⟨⟨hop, hlt⟩, henc, hexec⟩ := hrow q hq fa fb fc
  rw [hexec]
  exact ⟨fpCode_pack henc hop hlt, fpOutcome_fpOperate s q.2.1 fc _⟩

section
variable {op low : Nat} {forms : List (TrapQual × RoundField)} {instrs : List (Reg → Reg → Reg → Instr)}

theorem ieeeTwoOp_row {f : IeeeCtx → Word → Word → FpResult}
    (hrow : ∀ q ∈ List.zip instrs forms, ∀ fa fb fc, (op < 2 ^ 6 ∧ formCode q.2 low < 2 ^ 11) ∧
      encode (q.1 fa fb fc) = packFp (BitVec.ofNat 6 op) (BitVec.ofNat 11 (formCode q.2 low)) fa fb fc ∧
      ∀ s, exec (q.1 fa fb fc) s = ieeeTwoOp f q.2.1 q.2.2 fa fb fc s) :
    ∀ q ∈ List.zip instrs forms, ∀ fa fb fc s, FpCode (q.1 fa fb fc) op (formCode q.2 low) ∧
      FpOutcome s q.2.1 fc (f (ieeeCtx s q.2.1 q.2.2) (readFp s fa) (readFp s fb)) (exec (q.1 fa fb fc) s) :=
  codes_and_outcomes_of_row (fun s q fa fb => f (ieeeCtx s q.1 q.2) (readFp s fa) (readFp s fb)) hrow

theorem ieeeOneOp_row {f : IeeeCtx → Word → FpResult}
    (hrow : ∀ q ∈ List.zip instrs forms, ∀ fa fb fc, (op < 2 ^ 6 ∧ formCode q.2 low < 2 ^ 11) ∧
      encode (q.1 fa fb fc) = packFp (BitVec.ofNat 6 op) (BitVec.ofNat 11 (formCode q.2 low)) fa fb fc ∧
      ∀ s, exec (q.1 fa fb fc) s = ieeeOneOp f q.2.1 q.2.2 fb fc s) :
    ∀ q ∈ List.zip instrs forms, ∀ fa fb fc s, FpCode (q.1 fa fb fc) op (formCode q.2 low) ∧
      FpOutcome s q.2.1 fc (f (ieeeCtx s q.2.1 q.2.2) (readFp s fb)) (exec (q.1 fa fb fc) s) :=
  codes_and_outcomes_of_row (fun s q _ fb => f (ieeeCtx s q.1 q.2) (readFp s fb)) hrow

theorem vaxTwoOp_row {f : Rounding → Word → Word → FpResult}
    (hrow : ∀ q ∈ List.zip instrs forms, ∀ fa fb fc, (op < 2 ^ 6 ∧ formCode q.2 low < 2 ^ 11) ∧
      encode (q.1 fa fb fc) = packFp (BitVec.ofNat 6 op) (BitVec.ofNat 11 (formCode q.2 low)) fa fb fc ∧
      ∀ s, exec (q.1 fa fb fc) s = vaxTwoOp f q.2.1 q.2.2 fa fb fc s) :
    ∀ q ∈ List.zip instrs forms, ∀ fa fb fc s, FpCode (q.1 fa fb fc) op (formCode q.2 low) ∧
      FpOutcome s q.2.1 fc (f (vaxRounding q.2.2) (readFp s fa) (readFp s fb)) (exec (q.1 fa fb fc) s) :=
  codes_and_outcomes_of_row (fun s q fa fb => f (vaxRounding q.2) (readFp s fa) (readFp s fb)) hrow

theorem vaxOneOp_row {f : Rounding → Word → FpResult}
    (hrow : ∀ q ∈ List.zip instrs forms, ∀ fa fb fc, (op < 2 ^ 6 ∧ formCode q.2 low < 2 ^ 11) ∧
      encode (q.1 fa fb fc) = packFp (BitVec.ofNat 6 op) (BitVec.ofNat 11 (formCode q.2 low)) fa fb fc ∧
      ∀ s, exec (q.1 fa fb fc) s = vaxOneOp f q.2.1 q.2.2 fb fc s) :
    ∀ q ∈ List.zip instrs forms, ∀ fa fb fc s, FpCode (q.1 fa fb fc) op (formCode q.2 low) ∧
      FpOutcome s q.2.1 fc (f (vaxRounding q.2.2) (readFp s fb)) (exec (q.1 fa fb fc) s) :=
  codes_and_outcomes_of_row (fun s q _ fb => f (vaxRounding q.2) (readFp s fb)) hrow

end

/-- Settles O42: in each row the form's code, word and operate are read off the definitions. -/
theorem ieeeFloatingOperates : Obligations.IeeeFloatingOperates := by
  unfold Obligations.IeeeFloatingOperates
  simp only [List.forall_mem_cons (l := _ :: _), List.forall_mem_singleton]
  constructor
  case left =>
    and_intros <;> refine ieeeTwoOp_row ?_ <;>
      simp only [ieeeForms, List.zip_cons_cons, List.zip_nil_left, List.forall_mem_cons (l := _ :: _), List.forall_mem_singleton] <;>
      and_intros
    all_goals exact fun _ _ _ => ⟨by decide, rfl, fun _ => rfl⟩
  case right =>
    and_intros <;> refine ieeeOneOp_row ?_ <;>
      simp only [ieeeForms, ieeeFromIntForms, List.zip_cons_cons, List.zip_nil_left, List.forall_mem_cons (l := _ :: _),
        List.forall_mem_singleton] <;>
      and_intros
    all_goals exact fun _ _ _ => ⟨by decide, rfl, fun _ => rfl⟩

/-- Settles O43, as O42; the compares take no rounding. -/
theorem vaxFloatingOperates : Obligations.VaxFloatingOperates := by
  unfold Obligations.VaxFloatingOperates
  simp only [List.forall_mem_cons (l := _ :: _), List.forall_mem_singleton]
  refine ⟨⟨?addf, ?addg, ?subf, ?subg, ?mulf, ?mulg, ?divf, ?divg, ?cmpgeq, ?cmpglt, ?cmpgle⟩, ?oneOperand⟩
  case cmpgeq | cmpglt | cmpgle =>
    refine vaxTwoOp_row (f := fun _ => _) ?_
    simp only [List.zip_cons_cons, List.zip_nil_left, List.forall_mem_cons (l := _ :: _), List.forall_mem_singleton]
    constructor <;> exact fun _ _ _ => ⟨by decide, rfl, fun _ => rfl⟩
  case oneOperand =>
    and_intros <;> refine vaxOneOp_row ?_ <;>
      simp only [vaxForms, List.zip_cons_cons, List.zip_nil_left, List.forall_mem_cons (l := _ :: _), List.forall_mem_singleton] <;>
      and_intros
    all_goals exact fun _ _ _ => ⟨by decide, rfl, fun _ => rfl⟩
  all_goals
    refine vaxTwoOp_row ?_
    simp only [vaxForms, List.zip_cons_cons, List.zip_nil_left, List.forall_mem_cons (l := _ :: _), List.forall_mem_singleton]
    and_intros <;> exact fun _ _ _ => ⟨by decide, rfl, fun _ => rfl⟩

end Sys2Proof.Machine
end


section

namespace Sys2Proof.Machine

/-! ### The moves -/

section
variable {s : State} {fa fb fc : Reg} {i : Instr}

theorem fpCode_and_outcome_of_fpOperate {op fn : Nat} {q : TrapQual} {r : FpResult}
    (henc : encode i = packFp (BitVec.ofNat 6 op) (BitVec.ofNat 11 fn) fa fb fc) (hlt : op < 2 ^ 6 ∧ fn < 2 ^ 11)
    (hexec : exec i s = fpOperate s q fc r) : FpCode i op fn ∧ FpOutcome s q fc r (exec i s) := by
  rw [hexec]
  exact ⟨fpCode_pack henc hlt.1 hlt.2, fpOutcome_fpOperate s q fc r⟩

/-- CVTQL's own result, with the longword test as a comparison of numbers. -/
theorem quadToLong_eq (v : Word) : quadToLong v =
    { value := some (v.extractLsb' 30 2 ++ 0#3 ++ v.extractLsb' 0 30 ++ 0#29)
      conds := { noConds with iov := decide (v ≠ (v.setWidth 32).signExtend 64) } } := by
  simp only [quadToLong, sextLong_eq, ne_eq, decide_not, bne, beq_eq_decide]

theorem fpCode_and_moveToInt {op fn : Nat} {v : Word}
    (henc : encode i = packFp (BitVec.ofNat 6 op) (BitVec.ofNat 11 fn) fa fb fc) (hlt : op < 2 ^ 6 ∧ fn < 2 ^ 11)
    (hexec : exec i s = requireFp s (withReg fc) (.next (advance (writeInt s fc v)))) :
    FpCode i op fn ∧ (fpEnabled s = true → Completes (exec i s) (WroteInt s fc v)) ∧
      (fpEnabled s = false → Completes (exec i s) fun t => Entered s .fen 0x200 (faultPc s) t ∧ t.excSum.reg = fc) := by
  rw [hexec]
  refine ⟨fpCode_pack henc hlt.1 hlt.2, fun hon => ?_, fun hoff => requireFp_off hoff fc _⟩
  rw [requireFp_on hon]
  exact completes_next (wroteInt_advance s fc v)

theorem fpCode_and_fpCondMove {op fn : Nat} {test moved : Bool}
    (henc : encode i = packFp (BitVec.ofNat 6 op) (BitVec.ofNat 11 fn) fa fb fc) (hlt : op < 2 ^ 6 ∧ fn < 2 ^ 11)
    (hexec : exec i s = fpCondMove test fb fc s) (htest : test = moved) :
    FpCode i op fn ∧
      (fpEnabled s = true → Completes (exec i s) fun t =>
        if moved then WroteFp s fc (readFp s fb) t else OnlyPc s (s.pc + 4) t) ∧
      (fpEnabled s = false → Completes (exec i s) fun t => Entered s .fen 0x200 (faultPc s) t ∧ t.excSum.reg = fc) := by
  rw [hexec, htest, fpCondMove]
  refine ⟨fpCode_pack henc hlt.1 hlt.2, fun hon => ?_, fun hoff => requireFp_off hoff fc _⟩
  rw [requireFp_on hon]
  refine completes_next ?_
  cases moved with
  | true => exact wroteFp_advance s fc _
  | false => exact (rfl : OnlyPc s (s.pc + 4) (advance s))

end

/-- Settles O44. -/
theorem floatingMoves : Obligations.FloatingMoves := by
  unfold Obligations.FloatingMoves
  simp only [List.forall_mem_cons (l := _ :: _), List.forall_mem_singleton, ← quadToLong_eq]
  refine ⟨fun fa fb fc s => ⟨?moves, ?cvtql, ?toInt⟩, ?fcmoveq, ?fcmovne, ?fcmovlt, ?fcmovge, ?fcmovle, ?fcmovgt⟩
  case moves => refine ⟨?_, ?_, ?_, ?_, ?_, ?_, ?_⟩ <;> exact fpCode_and_outcome_of_fpOperate rfl (by decide) rfl
  case cvtql => refine ⟨?_, ?_, ?_⟩ <;> exact fpCode_and_outcome_of_fpOperate rfl (by decide) rfl
  case toInt => refine ⟨?_, ?_⟩ <;> exact fpCode_and_moveToInt rfl (by decide) rfl
  all_goals intro fa fb fc s
  case fcmoveq => exact fpCode_and_fpCondMove rfl (by decide) rfl (fpIsZero_eq_decide _)
  case fcmovne => exact fpCode_and_fpCondMove rfl (by decide) rfl (not_fpIsZero_eq_not_decide _)
  case fcmovlt => exact fpCode_and_fpCondMove rfl (by decide) rfl (fpNegative_eq_and _)
  case fcmovge => exact fpCode_and_fpCondMove rfl (by decide) rfl (not_fpNegative_eq_or _)
  case fcmovle => exact fpCode_and_fpCondMove rfl (by decide) rfl (not_fpPositive_eq_or _)
  case fcmovgt => exact fpCode_and_fpCondMove rfl (by decide) rfl (fpPositive_eq_and _)

/-! ### The FPCR -/

theorem getElem_fpcrMask : ∀ (i : Nat) (hi : i < 64), (0xFFFF000000000000 : Word)[i] = decide (48 ≤ i) := by decide

/-- The implemented bits of the FPCR (D10). -/
theorem and_fpcrMask (v : Word) : v &&& 0xFFFF000000000000 = v.extractLsb' 48 16 ++ 0#48 := by
  refine BitVec.eq_of_getElem_eq fun i hi => ?_
  have hmask := getElem_fpcrMask i (by omega)
  rw [BitVec.getElem_and, BitVec.getElem_append, hmask]
  by_cases hlow : i < 48
  · rw [dif_pos hlow, BitVec.getElem_zero, decide_eq_false (by omega), Bool.and_false]
  · rw [dif_neg hlow, decide_eq_true (by omega), Bool.and_true, BitVec.getElem_extractLsb', BitVec.getLsbD_eq_getElem (by omega)]
    congr 1
    omega

theorem completes_moveToFpcr {s : State} {v w : Word} (hw : w = v.extractLsb' 48 16 ++ 0#48) :
    (s.palMode = true → Completes (.next (moveToFpcr s v)) (OnlyPc { s with fpcr := w } (s.pc + 4))) ∧
      (s.palMode = false → Completes (.next (moveToFpcr s v)) fun t =>
        Entered { s with fpcr := w } .mtFpcr 0x700 (trapPc s) t ∧ t.excSum = s.excSum) := by
  rw [hw, ← and_fpcrMask]
  refine ⟨fun hpal => completes_next ?_, fun hnat => completes_next ?_⟩
  · rw [moveToFpcr, hpal]
    rfl
  · have hmove : moveToFpcr s v = takeException { s with fpcr := v &&& 0xFFFF000000000000 } .mtFpcr (trapPc s) none :=
      if_neg (hnat ▸ Bool.false_ne_true)
    rw [hmove]
    exact ⟨entered_takeException _ .mtFpcr _ 0x700 none rfl, rfl⟩

/-- Settles O45. -/
theorem fpcrAccess : Obligations.FpcrAccess := by
  unfold Obligations.FpcrAccess
  intro fa fb fc s
  have hmt : exec (.mtFpcr fa fb fc) s = requireFp s (withReg fc) (.next (moveToFpcr s (readFp s fa))) := rfl
  have hmf : exec (.mfFpcr fa fb fc) s = requireFp s (withReg fc) (.next (advance (writeFp s fa s.fpcr))) := rfl
  simp only [List.forall_mem_cons (l := _ :: _), List.forall_mem_singleton, hmt, hmf]
  refine ⟨fpCode_pack rfl (by norm_num) (by norm_num), fpCode_pack rfl (by norm_num) (by norm_num), fun hon => ?_,
    fun hoff => ⟨requireFp_off hoff fc _, requireFp_off hoff fc _⟩⟩
  rw [requireFp_on hon, requireFp_on hon]
  exact ⟨fun w hw => completes_moveToFpcr hw, completes_next (wroteFp_advance s fa _)⟩

/-! ### The trap rule -/

theorem anyCond_iff (c : FpConds) : anyCond c = true ↔ true ∈ [c.inv, c.dze, c.ovf, c.unf, c.ine, c.iov] := by
  simp only [anyCond, Bool.or_eq_true, List.mem_cons, List.not_mem_nil, or_false, eq_comm (a := true), or_assoc]

/-- Settles O46: each bit of EXC_SUM is the conjunction that R606 gives. -/
theorem floatingTrapRule : Obligations.FloatingTrapRule := by
  unfold Obligations.FloatingTrapRule
  intro s q c fc x d hx hd
  subst hx
  have hdis : ∀ n, d n ↔ fpDisabled s q n = true := fun n => by
    rw [hd, fpDisabled, Bool.and_eq_true, Bool.and_eq_true, and_assoc]
  have hset : ∀ (b : Bool) (n : Nat), (b && !s.fpcr.getLsbD n) = true ↔ b = true ∧ s.fpcr.getLsbD n = false := fun b n => by
    rw [Bool.and_eq_true, Bool.not_eq_true']
  simp only [hdis, Bool.not_eq_true]
  refine ⟨?inv, ?dze, ?ovf, ?unf, ?ine, ?iov, ?set, rfl, rfl, rfl, rfl, rfl, ?trap⟩
  case set =>
    simp only [List.forall_mem_cons (l := _ :: _), List.forall_mem_singleton]
    exact ⟨hset _ _, hset _ _, hset _ _, hset _ _, hset _ _, hset _ _⟩
  case trap =>
    rw [fpTraps, Bool.or_eq_true, anyCond_iff, anyCond_iff, ← List.mem_append]
    rfl
  all_goals simp only [fpTrapSum, reportConds, Bool.and_eq_true, Bool.or_eq_true, Bool.not_eq_true', ← Bool.not_eq_true,
    not_and, and_assoc]

end Sys2Proof.Machine
end


/-! # Settling O3: every step keeps the state sound

`Sound` is kept by each shared operation once; the step is put together from them. -/

section

namespace Sys2Proof.Machine

/-! ### Reserved bits -/

theorem within_iff (m v : Word) : within m v = true ↔ ∀ i, v.getLsbD i = true → m.getLsbD i = true := by
  rw [within, beq_iff_eq]
  refine ⟨fun h i hi => ?_, fun h => BitVec.eq_of_getLsbD_eq fun i hi => ?_⟩
  · have hbit := congrArg (fun x => BitVec.getLsbD x i) h
    have hlt := BitVec.lt_of_getLsbD hi
    simpa [hi, hlt] using hbit
  · have himp := h i
    grind

theorem within_and_mask (v m : Word) : within m (v &&& m) = true :=
  (within_iff m _).mpr fun i hi => by grind

theorem within_and {m v : Word} (h : within m v = true) (w : Word) : within m (v &&& w) = true :=
  (within_iff m _).mpr fun i hi => (within_iff m v).mp h i (by grind)

theorem within_or {m v w : Word} (hv : within m v = true) (hw : within m w = true) : within m (v ||| w) = true := by
  rw [within_iff] at *
  intro i hi
  rw [BitVec.getLsbD_or, Bool.or_eq_true] at hi
  exact hi.elim (hv i) (hw i)

/-- A mask that implements more. -/
theorem within_mono {m n v : Word} (hmn : within n m = true) (h : within m v = true) : within n v = true := by
  rw [within_iff] at *
  exact fun i hi => hmn i (h i hi)

theorem within_and_of {m n : Word} (hmn : within n m = true) (v : Word) : within n (v &&& m) = true :=
  within_mono hmn (within_and_mask v m)

theorem within_mergeMask {m old mask : Word} (hold : within m old = true) (hmask : within m mask = true) (new : Word) :
    within m (mergeMask old mask new) = true :=
  within_or (within_and hold _) (within_and_of hmask new)

theorem within_pcWithMode (pc : Word) (pal : Bool) : within (~~~2) (pcWithMode pc pal) = true :=
  within_or (within_and_of (by decide) pc) (by cases pal <;> decide)

/-- The addresses of instructions are multiples of four. -/
theorem aligned_iff (pc : Word) : within (~~~3) pc = true ↔ pc.toNat % 2 ^ 2 = 0 := by
  have hmask : ~~~(~~~3 : Word) = 3#64 := by decide
  rw [within, hmask, beq_iff_eq, ← BitVec.toNat_inj, BitVec.toNat_and, ← Nat.and_two_pow_sub_one_eq_mod]
  rfl

theorem aligned_add {v w : Word} (hv : within (~~~3) v = true) (hw : within (~~~3) w = true) : within (~~~3) (v + w) = true := by
  rw [aligned_iff] at *
  rw [BitVec.toNat_add]
  omega

theorem aligned_add_four {pc : Word} (h : within (~~~3) pc = true) : within (~~~3) (pc + 4) = true :=
  aligned_add h (by decide)

theorem aligned_shiftLeft (v : Word) : within (~~~3) (v <<< 2) = true := by
  rw [aligned_iff, BitVec.toNat_shiftLeft, Nat.shiftLeft_eq]
  omega

theorem aligned_branchTarget {s : State} (h : within (~~~3) s.pc = true) (disp : BitVec 21) :
    within (~~~3) (branchTarget s disp) = true := aligned_add (aligned_add_four h) (aligned_shiftLeft _)

/-- An entry stands at an aligned offset from PAL_BASE[43:15]. -/
theorem aligned_palBase_or (base : Word) {offset : Word} (h : within (~~~3) offset = true) :
    within (~~~3) ((base &&& 0x00000FFFFFFF8000) ||| offset) = true := within_or (within_and_of (by decide) base) h

theorem aligned_entryPc (s : State) (e : Entry) : within (~~~3) (entryPc s e) = true :=
  aligned_palBase_or _ (by cases e <;> decide)

/-! ### The registers, the pc and the entries -/

section
variable {s : State}

theorem Sound.withPc (h : Sound s) {p : Word} (hp : within (~~~3) p = true) : Sound { s with pc := p } := { h with pc := hp }

theorem Sound.withFree (h : Sound s) (n : Nat) : Sound { s with free := n } := { h with }

theorem Sound.advance (h : Sound s) : Sound (advance s) := { h with pc := aligned_add_four h.pc }

theorem Sound.writeInt (h : Sound s) (r : Reg) (v : Word) : Sound (writeInt s r v) := by
  rw [writeInt_eq]
  exact { h with }

theorem Sound.writeFp (h : Sound s) (r : Reg) (v : Word) : Sound (writeFp s r v) := by
  rw [writeFp_eq]
  exact { h with }

theorem Sound.fresh (h : Sound s) : Sound (fresh s).2 := { h with }

theorem Sound.wait (h : Sound s) : Sound (wait s) := { h with }

theorem Sound.takeException (h : Sound s) (e : Entry) {saved : Word} (hs : within (~~~2) saved = true)
    (f : Option (ExcSum → ExcSum)) : Sound (takeException s e saved f) := by
  cases f with
  | none => exact { h with pc := aligned_entryPc s e, excAddr := hs }
  | some f => exact { h with pc := aligned_entryPc s e, excAddr := hs }

theorem Sound.faultException (h : Sound s) (e : Entry) (f : Option (ExcSum → ExcSum)) :
    Sound (Machine.takeException s e (faultPc s) f) := h.takeException e (within_pcWithMode _ _) f

theorem Sound.opcdecTrap (h : Sound s) : Sound (opcdecTrap s) := h.faultException _ _

/-! ### Memory and the caches -/

theorem Sound.withCached (h : Sound s) {l : List CachedBlock} (hd : l.Pairwise fun b c => b.block ≠ c.block)
    (hb : ∀ c ∈ l, ∀ q, c.below = some q → q.length = 8) : Sound { s with cached := l } := { h with cached := hd, below := hb }

theorem Sound.dirtied (h : Sound s) (b : BitVec 38) : Sound { s with cached := dirtied s b } :=
  h.withCached (dirtied_distinct h.cached b) (dirtied_below h.below b)

theorem below_otherBlocks (h : Sound s) (b : BitVec 38) : ∀ c ∈ otherBlocks s b, ∀ q, c.below = some q → q.length = 8 :=
  fun c hc => h.below c (List.mem_of_mem_filter hc)

theorem Sound.otherBlocks (h : Sound s) (b : BitVec 38) : Sound { s with cached := otherBlocks s b } :=
  h.withCached (otherBlocks_distinct h.cached b) (below_otherBlocks h b)

theorem Sound.record (h : Sound s) (c : CachedBlock) (hc : ∀ q, c.below = some q → q.length = 8) :
    Sound { s with cached := c :: Machine.otherBlocks s c.block } :=
  h.withCached (cons_otherBlocks_distinct h.cached c) (List.forall_mem_cons.mpr ⟨hc, below_otherBlocks h c.block⟩)

theorem Sound.writtenOver (h : Sound s) (b : BitVec 38) {q : List Word} (hq : writtenOver s b = some q) : q.length = 8 := by
  obtain ⟨c, hc, hbelow⟩ := Option.bind_eq_some_iff.mp hq
  exact h.below c (List.mem_of_find?_eq_some hc) q hbelow

theorem Sound.physRead (h : Sound s) (pa : PhysAddr) (n : Nat) : Sound (physRead s pa n).2 := by
  unfold Machine.physRead
  split
  · split <;> exact { h with }
  · split <;> exact h

theorem Sound.physWrite (h : Sound s) (pa : PhysAddr) (n : Nat) (v : Word) : Sound (physWrite s pa n v) := by
  have hmem := physWrite_wf h.mem pa n v
  unfold Machine.physWrite at hmem ⊢
  split
  · exact { h with }
  split
  · exact h
  split
  all_goals exact { h.dirtied (blockOf pa) with mem := Memory.wf_write h.mem _ _ _ }

theorem Sound.clearLock (h : Sound s) : Sound (clearLock s) := { h with }

theorem Sound.setLock (h : Sound s) (pa : PhysAddr) : Sound (setLock s pa) := { h with }

theorem Sound.notePrefetch (h : Sound s) (pa : PhysAddr) : Sound (notePrefetch s pa) := { h with }

theorem Sound.prefetchModify (h : Sound s) (pa : PhysAddr) : Sound (prefetchModify s pa) := by
  obtain ⟨n, hn | ⟨-, hn⟩⟩ := prefetchModify_cases s pa <;> rw [hn]
  · exact { h.notePrefetch pa with }
  · exact { h.dirtied (prefetchBlock pa) with }

theorem Sound.drawErratum (h : Sound s) (pa : PhysAddr) : Sound (drawErratum s pa) := by
  unfold Machine.drawErratum
  split <;> exact { h with }

theorem Sound.loseBlock (h : Sound s) (b : BitVec 38) : Sound (loseBlock s b) := by
  unfold Machine.loseBlock
  split <;> exact { h.otherBlocks b with }

theorem Sound.evictBlock (h : Sound s) (b : BitVec 38) : Sound (evictBlock s b) := by
  rw [evictBlock_frame]
  exact { h.otherBlocks b with mem := evictBlock_wf h.mem b }

theorem Sound.makeRoom (h : Sound s) : Sound (makeRoom s) := by
  obtain ⟨-, hroom⟩ | ⟨d, -, n, hroom⟩ := makeRoom_cases s <;> rw [hroom]
  · exact h
  · exact (h.withFree n).evictBlock d.block

theorem Sound.probeBlock (h : Sound s) (b : BitVec 38) (next : ProbeNext) : Sound (probeBlock s b next) := by
  cases next with
  | nop => exact h
  | clean => exact h.otherBlocks b
  | cleanShared => exact h.record ⟨b, true, none⟩ nofun
  | dirtyShared =>
    refine h.record ⟨b, true, some (memoryBelow s b)⟩ ?_
    rintro q ⟨⟩
    exact length_memoryBelow h.below b
  | transition1 => exact h.record ⟨b, true, Machine.writtenOver s b⟩ fun _ => h.writtenOver b
  | transition3 =>
    rw [Machine.probeBlock]
    split
    · exact h.loseBlock b
    · exact h.record ⟨b, true, none⟩ nofun
  | invalid => exact h.loseBlock b

theorem Sound.scrambleQuads (n : Nat) (pa : PhysAddr) {s : State} (h : Sound s) : Sound (scrambleQuads n pa s) := by
  induction n generalizing pa s with
  | zero => exact h
  | succ n ih => exact ih _ { h with mem := Memory.wf_write h.mem _ _ _ }

theorem Sound.writeHint (h : Sound s) (pa : PhysAddr) : Sound (writeHint s pa) := by
  unfold Machine.writeHint
  split
  · exact h
  split
  · exact Sound.scrambleQuads 8 _ (h.dirtied _)
  · exact h.dirtied _

end

end Sys2Proof.Machine
end


/-! # Settling O3, continued: the instructions -/

section

namespace Sys2Proof.Machine

/-- An outcome whose next state, if it has one, is sound. -/
def KeepsSound (o : Out) : Prop := ∀ t, o = .next t → Sound t

theorem keepsSound_next {t : State} (h : Sound t) : KeepsSound (.next t) := by
  rintro _ ⟨⟩
  exact h

theorem keepsSound_fault (f : Fault) : KeepsSound (.fault f) := by
  intro t ht
  cases ht

theorem keepsSound_refused (r : Refusal) : KeepsSound (.refused r) := by
  intro t ht
  cases ht

theorem keepsSound_ite {c : Prop} [Decidable c] {o p : Out} (ho : KeepsSound o) (hp : KeepsSound p) : KeepsSound (if c then o else p) := by
  split <;> assumption

theorem sound_ite {c : Prop} [Decidable c] {t u : State} (ht : Sound t) (hu : Sound u) : Sound (if c then t else u) := by
  split <;> assumption

section
variable {s : State}

/-! ### References -/

theorem Sound.dataFault (h : Sound s) (r : DataRef) (e : Entry) (mm : Word) : Sound (dataFault s r e mm) := by
  unfold Machine.dataFault
  cases r.vpte with
  | true => exact h.faultException e _
  | false => exact Sound.faultException (s := { s with va := r.ea, mmStat := mm }) { h with } e _

theorem Sound.tagErrFault (h : Sound s) (r : DataRef) (e : Entry) (mm : Word) :
    Sound (Machine.dataFault { s with tagErr := false } r e mm) :=
  Sound.dataFault (s := { s with tagErr := false }) { h with } r e mm

variable (h : Sound s)
include h

theorem keepsSound_requireFp {named : ExcSum → ExcSum} {k : Out} (hk : KeepsSound k) : KeepsSound (requireFp s named k) :=
  keepsSound_ite hk (keepsSound_next (h.faultException _ _))

theorem keepsSound_palReserved {k : Out} (hk : KeepsSound k) : KeepsSound (palReserved s k) :=
  keepsSound_ite hk (keepsSound_next h.opcdecTrap)

theorem keepsSound_reference {r : DataRef} {k : PhysAddr → Out} (hk : ∀ pa, KeepsSound (k pa)) : KeepsSound (reference s r k) := by
  unfold reference
  split
  · exact keepsSound_next (h.dataFault _ _ _)
  · exact keepsSound_next (h.dataFault _ _ _)
  · exact keepsSound_fault _
  · exact keepsSound_ite (keepsSound_next (h.tagErrFault _ _ _)) (hk _)

theorem keepsSound_alignedReference {r : DataRef} {n : Nat} {k : PhysAddr → Out} (hk : ∀ pa, KeepsSound (k pa)) :
    KeepsSound (alignedReference s r n k) :=
  keepsSound_ite (keepsSound_reference h hk) (keepsSound_next (h.dataFault _ _ _))

theorem keepsSound_physReference {r : DataRef} {k : PhysAddr → Out} (hk : ∀ pa, KeepsSound (k pa)) :
    KeepsSound (physReference s r k) :=
  keepsSound_ite (keepsSound_next (h.tagErrFault _ _ _)) (hk _)

/-! ### Integer operates and branches -/

theorem keepsSound_intResult (rc : Reg) (v : Word) : KeepsSound (intResult rc v s) := keepsSound_next (h.writeInt rc v).advance

theorem keepsSound_intOverflow (rc : Reg) (w : Nat) (x : Int) : KeepsSound (intOverflow rc w x s) :=
  have hw := h.writeInt rc ((BitVec.ofInt w x).signExtend 64)
  keepsSound_next (sound_ite h.advance (sound_ite hw.advance (hw.takeException _ (within_pcWithMode _ _) _)))

theorem keepsSound_condMove (c : Bool) (rc : Reg) (v : Word) : KeepsSound (condMove c rc v s) :=
  keepsSound_next (sound_ite (h.writeInt rc v) h).advance

theorem keepsSound_branchIf (taken : Bool) (disp : BitVec 21) : KeepsSound (branchIf taken disp s) :=
  keepsSound_next (sound_ite (h.withPc (aligned_branchTarget h.pc disp)) h.advance)

theorem keepsSound_branchLink (ra : Reg) (disp : BitVec 21) : KeepsSound (branchLink ra disp s) :=
  keepsSound_next ((h.writeInt ra (s.pc + 4)).withPc (aligned_branchTarget h.pc disp))

theorem keepsSound_jumpLink (ra rb : Reg) : KeepsSound (jumpLink ra rb s) :=
  keepsSound_next { h.writeInt ra (s.pc + 4) with pc := within_and_of (by decide) (readInt s rb) }

/-! ### Integer loads and stores -/

theorem Sound.dataRead (pa : PhysAddr) (n : Nat) : Sound (dataRead s pa n).2 := h.physRead _ n

theorem Sound.dataWrite (pa : PhysAddr) (n : Nat) (v : Word) : Sound (dataWrite s pa n v) := h.physWrite _ n v

theorem keepsSound_finishLoad (ra : Reg) (n : Nat) (extend : Word → Word) (pa : PhysAddr) :
    KeepsSound (finishLoad s ra n extend pa) :=
  keepsSound_ite (keepsSound_next (h.notePrefetch pa).advance)
    (keepsSound_next ((h.dataRead pa n).writeInt ra _).clearLock.advance)

theorem keepsSound_loadInt (op : BitVec 6) (n : Nat) (extend : Word → Word) (ra rb : Reg) (disp : BitVec 16) :
    KeepsSound (loadInt op n extend ra rb disp s) := keepsSound_alignedReference h (keepsSound_finishLoad h ra n extend)

theorem keepsSound_loadLocked (op : BitVec 6) (n : Nat) (extend : Word → Word) (ra rb : Reg) (disp : BitVec 16) :
    KeepsSound (loadLocked op n extend ra rb disp s) :=
  keepsSound_alignedReference h fun pa => keepsSound_next (((h.dataRead pa n).writeInt ra _).setLock pa).advance

theorem keepsSound_finishStore (n : Nat) (v : Word) (pa : PhysAddr) : KeepsSound (finishStore s n v pa) :=
  keepsSound_next (h.dataWrite pa n v).clearLock.advance

theorem keepsSound_storeInt (op : BitVec 6) (n : Nat) (ra rb : Reg) (disp : BitVec 16) : KeepsSound (storeInt op n ra rb disp s) :=
  keepsSound_alignedReference h (keepsSound_finishStore h n _)

theorem Sound.condStore (ra : Reg) (n : Nat) (pa : PhysAddr) : Sound (condStore s ra n pa) :=
  have hdraw := h.drawErratum pa
  sound_ite ((hdraw.dataWrite pa n _).writeInt ra 1) (hdraw.writeInt ra 0)

theorem keepsSound_storeCond (op : BitVec 6) (n : Nat) (ra rb : Reg) (disp : BitVec 16) : KeepsSound (storeCond op n ra rb disp s) :=
  keepsSound_alignedReference h fun pa => keepsSound_next (sound_ite h.wait (h.condStore ra n pa).clearLock.advance)

theorem keepsSound_loadUnaligned (ra rb : Reg) (disp : BitVec 16) : KeepsSound (loadUnaligned ra rb disp s) :=
  keepsSound_ite (keepsSound_next h.advance) (keepsSound_reference h fun pa => keepsSound_finishLoad h ra 8 id (quadAddr pa))

theorem keepsSound_storeUnaligned (ra rb : Reg) (disp : BitVec 16) : KeepsSound (storeUnaligned ra rb disp s) :=
  keepsSound_reference h fun pa => keepsSound_finishStore h 8 _ (quadAddr pa)

theorem keepsSound_writeHintAt (ea : Word) : KeepsSound (writeHintAt s ea) := by
  unfold writeHintAt
  split
  · exact keepsSound_next (h.writeHint _).advance
  · exact keepsSound_fault _
  · exact keepsSound_next h.advance

/-! ### Floating instructions -/

theorem Sound.writeFpResult (fc : Reg) (v : Option Word) : Sound (writeFpResult s fc v) := by
  cases v with
  | some v => exact h.writeFp fc v
  | none => exact h.fresh.writeFp fc _

theorem keepsSound_fpOperate (q : TrapQual) (fc : Reg) (r : FpResult) : KeepsSound (fpOperate s q fc r) :=
  have hw := h.writeFpResult fc r.value
  keepsSound_requireFp h (keepsSound_next
    (sound_ite h.advance (sound_ite (hw.takeException _ (within_pcWithMode _ _) _) hw.advance)))

theorem keepsSound_fpCondMove (cond : Bool) (fb fc : Reg) : KeepsSound (fpCondMove cond fb fc s) :=
  keepsSound_requireFp h (keepsSound_next (sound_ite (h.writeFp fc _) h).advance)

theorem keepsSound_moveToInt (rc : Reg) (v : Word) :
    KeepsSound (requireFp s (withReg rc) (.next (advance (writeInt s rc v)))) :=
  keepsSound_requireFp h (keepsSound_next (h.writeInt rc v).advance)

theorem Sound.moveToFpcr (v : Word) : Sound (moveToFpcr s v) :=
  have hw : Sound { s with fpcr := v &&& 0xFFFF000000000000 } := { h with fpcr := within_and_mask v _ }
  sound_ite hw.advance (hw.takeException _ (within_pcWithMode _ _) _)

theorem keepsSound_loadFp (op : BitVec 6) (n : Nat) (image : Word → Word) (fa rb : Reg) (disp : BitVec 16) :
    KeepsSound (loadFp op n image fa rb disp s) :=
  have hbody : KeepsSound (loadFpBody op n image fa rb disp s) := keepsSound_alignedReference h fun pa =>
    keepsSound_ite (keepsSound_next (sound_ite (h.prefetchModify pa) (h.notePrefetch pa)).advance)
      (keepsSound_next ((h.dataRead pa n).writeFp fa _).clearLock.advance)
  keepsSound_ite hbody (keepsSound_requireFp h hbody)

/-! ### HW_LD and HW_ST -/

theorem Sound.finishHwLoad (ra : Reg) (len : BitVec 1) (pa : PhysAddr) : Sound (finishHwLoad s ra len pa) :=
  sound_ite (h.notePrefetch pa) ((h.dataRead _ _).writeInt ra _)

theorem keepsSound_hwLoadVirtual (ra : Reg) (len : BitVec 1) (ea : Word) (mode : BitVec 2) (wrChk vpte : Bool) :
    KeepsSound (hwLoadVirtual s ra len ea mode wrChk vpte) :=
  keepsSound_reference h fun pa => keepsSound_next (h.finishHwLoad ra len pa).advance

theorem keepsSound_hwLoadPhysical (ra : Reg) (len : BitVec 1) (ea : Word) (lock : Bool) :
    KeepsSound (hwLoadPhysical s ra len ea lock) :=
  keepsSound_physReference h fun pa =>
    have hload := h.finishHwLoad ra len pa
    keepsSound_next (sound_ite ((sound_ite h hload).setLock pa) hload).advance

theorem keepsSound_hwLoad (ra : Reg) (ty : BitVec 3) (len : BitVec 1) (ea : Word) : KeepsSound (hwLoad s ra ty len ea) := by
  unfold hwLoad
  split
  · exact keepsSound_hwLoadPhysical h ra len ea false
  · exact keepsSound_hwLoadPhysical h ra len ea true
  · exact keepsSound_hwLoadVirtual h ra len ea 0 false true
  · exact keepsSound_hwLoadVirtual h ra len ea _ false false
  · exact keepsSound_hwLoadVirtual h ra len ea _ true false
  · exact keepsSound_hwLoadVirtual h ra len ea _ false false
  · exact keepsSound_hwLoadVirtual h ra len ea _ true false
  · exact keepsSound_refused _

theorem keepsSound_finishHwStore (ra : Reg) (len : BitVec 1) (pa : PhysAddr) : KeepsSound (finishHwStore s ra len pa) :=
  keepsSound_next (h.dataWrite _ _ _).advance

theorem keepsSound_finishHwStoreCond (ra : Reg) (len : BitVec 1) (pa : PhysAddr) : KeepsSound (finishHwStoreCond s ra len pa) :=
  keepsSound_next (sound_ite h.wait (h.condStore _ _ _).advance)

theorem keepsSound_hwStore (ra : Reg) (ty : BitVec 3) (len : BitVec 1) (ea : Word) : KeepsSound (hwStore s ra ty len ea) := by
  unfold hwStore
  split
  · exact keepsSound_physReference h (keepsSound_finishHwStore h ra len)
  · exact keepsSound_physReference h (keepsSound_finishHwStoreCond h ra len)
  · exact keepsSound_reference h (keepsSound_finishHwStore h ra len)
  · exact keepsSound_reference h (keepsSound_finishHwStore h ra len)
  · exact keepsSound_refused _

/-! ### The internal processor registers -/

theorem Sound.readIpr (index : BitVec 8) : Sound (readIpr s index).2 := by
  unfold Machine.readIpr
  split
  · exact sound_ite (h.withFree _) h
  · exact h.fresh

/-- A register write that stays sound, if it does not stop. -/
def WriteKeepsSound (r : Except Fault State) : Prop := ∀ t, r = .ok t → Sound t

omit h in
theorem writeKeepsSound_ok {t : State} (ht : Sound t) : WriteKeepsSound (.ok t) := by
  rintro _ ⟨⟩
  exact ht

omit h in
theorem writeKeepsSound_error (f : Fault) : WriteKeepsSound (.error f) := by
  intro t ht
  cases ht

omit h in
theorem writeKeepsSound_inPalMode {t : State} (ht : Sound t) : WriteKeepsSound (inPalMode s t) := by
  unfold inPalMode
  split
  · exact writeKeepsSound_ok ht
  · exact writeKeepsSound_error _

omit h in
theorem writeKeepsSound_keepsCounters {t : State} (ht : Sound t) : WriteKeepsSound (keepsCounters s t) := by
  unfold keepsCounters
  split
  · exact writeKeepsSound_error _
  · exact writeKeepsSound_ok ht

omit h in
theorem writeKeepsSound_keepsWritten {t : State} (ht : Sound t) : WriteKeepsSound (keepsWritten t) := by
  unfold keepsWritten
  split
  · exact writeKeepsSound_error _
  · exact writeKeepsSound_ok ht

omit h in
theorem length_fillBank (bank : List DtbEntry) (ptr : BitVec 7) (tag : BitVec 35) (pte : Word) (asn : BitVec 8) :
    (fillBank bank ptr tag pte asn).length = bank.length := by
  unfold fillBank
  split
  · rfl
  · exact List.length_set

theorem Sound.fillDtb (pte : Word) : Sound (fillDtb s pte) :=
  { h with dtb0 := (length_fillBank _ _ _ _ _).trans h.dtb0, dtb1 := (length_fillBank _ _ _ _ _).trans h.dtb1 }

theorem Sound.dropItb (p : TbEntry → Bool) : Sound { s with itb := dropItb p s.itb } :=
  { h with itb := (List.length_map _).trans h.itb }

theorem Sound.dropDtb (p q : TbEntry → Bool) : Sound { s with dtb0 := dropDtb p s.dtb0, dtb1 := dropDtb q s.dtb1 } :=
  { h with dtb0 := (List.length_map _).trans h.dtb0, dtb1 := (List.length_map _).trans h.dtb1 }

theorem Sound.writeIerCm (index : BitVec 8) (v : Word) :
    Sound { s with ierCm := mergeMask s.ierCm (ierCmMask index) v } :=
  { h with ierCm := within_mergeMask h.ierCm (within_or (by split <;> decide) (by split <;> decide)) v }

theorem Sound.writePctx (index : BitVec 8) (v : Word) :
    Sound { s with pctx := mergeMask s.pctx (pctxMask index) v } :=
  have hmask : within 0x00007F8000001FE6 (pctxMask index) = true :=
    within_or (within_or (within_or (within_or (by split <;> decide) (by split <;> decide)) (by split <;> decide))
      (by split <;> decide)) (by split <;> decide)
  { h with pctx := within_mergeMask h.pctx hmask v }

omit h in
/-- A field that a mask implements whole reads through the mask. -/
theorem extractLsb'_and_of {m : Word} {i n : Nat} (hm : m.extractLsb' i n = BitVec.allOnes n) (v : Word) :
    (v &&& m).extractLsb' i n = v.extractLsb' i n := by
  rw [BitVec.extractLsb'_and, hm, BitVec.and_allOnes]

theorem Sound.writeICtl {v : Word} (hv : v.extractLsb' 1 2 ≠ 0#2) : Sound { s with iCtl := v &&& iCtlMask } :=
  { h with iCtl := within_and_mask v _, icEn := by rwa [extractLsb'_and_of (by decide)] }

theorem Sound.writeDcCtl {v : Word} (hforce : v.getLsbD 2 ≠ true) (hv : v.extractLsb' 0 2 ≠ 0#2) :
    Sound { s with dcCtl := v &&& 0xF7 } := by
  refine { h with dcCtl := (within_iff _ _).mpr fun i hi => ?_, setEn := by rwa [extractLsb'_and_of (by decide)] }
  rw [BitVec.getLsbD_and, Bool.and_eq_true] at hi
  have hne : i ≠ 2 := fun h2 => hforce (h2 ▸ hi.1)
  have hlt := BitVec.lt_of_getLsbD hi.1
  have hbits : ∀ i : Fin 64, i.val ≠ 2 → (0xF7 : Word).getLsbD i.val = true → (0xF3 : Word).getLsbD i.val = true := by decide
  exact hbits ⟨i, hlt⟩ hne hi.2

theorem Sound.withRegs (ri : Vector Word 31) (rs : Vector Word 8) (rf : Vector Word 31) (n : Nat) :
    Sound { s with intRegs := ri, shadow := rs, fpRegs := rf, free := n } := { h with }

theorem Sound.scrambleRegs : Sound (scrambleRegs s) := h.withRegs _ _ _ _

theorem writeKeepsSound_writeIpr (index : BitVec 8) (v : Word) : WriteKeepsSound (writeIpr s index v) := by
  unfold writeIpr
  split
  case h_1 | h_2 | h_14 | h_17 | h_18 | h_23 | h_24 | h_25 | h_27 | h_32 | h_33 | h_37 | h_38 =>
    refine writeKeepsSound_ok ?_
    exact { h with }
  case h_3 =>
    refine writeKeepsSound_ok ?_
    exact { h with vaCtl := within_and_mask v _ }
  case h_4 =>
    refine writeKeepsSound_inPalMode ?_
    exact { h with }
  case h_5 =>
    refine writeKeepsSound_inPalMode ?_
    exact { h with itb := List.length_set.trans h.itb }
  case h_6 | h_8 => exact writeKeepsSound_inPalMode (h.dropItb _)
  case h_7 =>
    refine writeKeepsSound_inPalMode ?_
    exact { h.dropItb fun _ => true with }
  case h_9 | h_10 | h_11 | h_12 => exact writeKeepsSound_ok (h.writeIerCm index v)
  case h_13 =>
    refine writeKeepsSound_ok ?_
    exact { h with sirr := within_and_mask v _ }
  case h_15 =>
    refine writeKeepsSound_ok ?_
    exact { h with palBase := within_and_mask v _ }
  case h_16 =>
    split
    · exact writeKeepsSound_error _
    · exact writeKeepsSound_keepsCounters (h.writeICtl ‹_›)
  case h_19 =>
    refine writeKeepsSound_keepsWritten ?_
    exact { h with }
  case h_20 => exact writeKeepsSound_ok h.scrambleRegs
  case h_21 =>
    refine writeKeepsSound_ok ?_
    exact { h with iStat := within_and h.iStat _ }
  case h_22 =>
    refine writeKeepsSound_ok (sound_ite ?_ ?_) <;> exact { h with }
  case h_26 => exact writeKeepsSound_ok (h.fillDtb v)
  case h_28 => exact writeKeepsSound_ok (h.dropDtb _ _)
  case h_29 =>
    refine writeKeepsSound_ok ?_
    exact { h.dropDtb (fun _ => true) (fun _ => true) with }
  case h_30 =>
    refine writeKeepsSound_ok ?_
    exact { h with dtb0 := (List.length_map _).trans h.dtb0 }
  case h_31 =>
    refine writeKeepsSound_ok ?_
    exact { h with dtb1 := (List.length_map _).trans h.dtb1 }
  case h_34 =>
    refine writeKeepsSound_ok ?_
    exact { h with mCtl := within_and_mask v _ }
  case h_35 =>
    split
    · exact writeKeepsSound_error _
    split
    · exact writeKeepsSound_error _
    · exact writeKeepsSound_ok (h.writeDcCtl ‹_› ‹_›)
  case h_36 =>
    refine writeKeepsSound_ok ?_
    exact { h with dcStat := within_and h.dcStat _ }
  case h_39 =>
    split
    · exact writeKeepsSound_keepsCounters (h.writePctx index v)
    · exact writeKeepsSound_ok h

theorem keepsSound_hwMtpr (index : BitVec 8) (v : Word) :
    KeepsSound (palReserved s (if barrierHeld s index then .next (wait s) else finishMtpr (writeIpr s index v))) := by
  refine keepsSound_palReserved h (keepsSound_ite (keepsSound_next h.wait) ?_)
  have hw := writeKeepsSound_writeIpr h index v
  cases hwrite : writeIpr s index v with
  | error f => exact keepsSound_fault f
  | ok t => exact keepsSound_next (hw t hwrite).advance

theorem keepsSound_hwMfpr (ra : Reg) (index : BitVec 8) :
    KeepsSound (palReserved s (.next (advance (writeInt (readIpr s index).2 ra (readIpr s index).1)))) :=
  keepsSound_palReserved h (keepsSound_next ((h.readIpr index).writeInt ra _).advance)

/-! ### CALL_PAL and HW_RET -/

theorem Sound.callPalEntry (fn : BitVec 26) : Sound (callPalEntry s fn) := by
  have hpal : Sound { s with palMode := true } := { h with }
  have hbase := aligned_palBase_or s.palBase (offset := 0x2000) (by decide)
  have hlow : ∀ (v : Word) (n : Nat), within (~~~3) (v <<< (n + 2)) = true := fun v n => by
    rw [BitVec.shiftLeft_add]
    exact aligned_shiftLeft _
  exact (hpal.writeInt 23 _).withPc (within_or (within_or hbase (hlow _ 10)) (hlow _ 4))

theorem Sound.palReturn (target : Word) : Sound (palReturn s target) :=
  { h with pc := within_and_of (by decide) target }

theorem Sound.performFlushes : Sound (performFlushes s) := by
  refine { h with icache := ?_ }
  change List.Pairwise _ (if _ then _ else _)
  split
  · exact List.Pairwise.nil
  split
  · exact h.icache.filter _
  · exact h.icache

theorem keepsSound_hwRet (ra : Reg) (target : Word) (stall : BitVec 1) :
    KeepsSound (palReserved s (finishHwRet s ra target stall)) :=
  have hret := h.palReturn target
  keepsSound_palReserved h (keepsSound_ite (keepsSound_next (sound_ite hret.performFlushes hret)) (keepsSound_refused _))

end

end Sys2Proof.Machine
end


/-! # Settling O3, continued: every word keeps the state sound, by the tables of meanings -/

section

namespace Sys2Proof.Machine

section
variable {s : State} (h : Sound s)
include h

theorem Sound.writeFlag (r : Reg) (v : Word) (b : Bool) : Sound { Machine.writeInt s r v with intrFlag := b } :=
  { h.writeInt r v with }

theorem keepsSound_ieeeTwoOp (op : IeeeCtx → Word → Word → FpResult) (q : TrapQual) (r : RoundField) (fa fb fc : Reg) :
    KeepsSound (ieeeTwoOp op q r fa fb fc s) := keepsSound_fpOperate h q fc _

theorem keepsSound_ieeeOneOp (op : IeeeCtx → Word → FpResult) (q : TrapQual) (r : RoundField) (fb fc : Reg) :
    KeepsSound (ieeeOneOp op q r fb fc s) := keepsSound_fpOperate h q fc _

theorem keepsSound_vaxTwoOp (op : Rounding → Word → Word → FpResult) (q : TrapQual) (r : RoundField) (fa fb fc : Reg) :
    KeepsSound (vaxTwoOp op q r fa fb fc s) := keepsSound_fpOperate h q fc _

theorem keepsSound_vaxOneOp (op : Rounding → Word → FpResult) (q : TrapQual) (r : RoundField) (fb fc : Reg) :
    KeepsSound (vaxOneOp op q r fb fc s) := keepsSound_fpOperate h q fc _

end

/-! ### The tables of meanings, row by row -/

def OprRowKeeps (p : BitVec 7 × (Reg → Operand → Reg → State → Out)) : Prop :=
  ∀ ra rb rc s, Sound s → KeepsSound (p.2 ra rb rc s)

def FpRowKeeps (p : BitVec 11 × (Reg → Reg → Reg → State → Out)) : Prop := ∀ fa fb fc s, Sound s → KeepsSound (p.2 fa fb fc s)

theorem twoOpVaxRows_keep : ∀ t ∈ [addfExecs, subfExecs, mulfExecs, divfExecs, addgExecs, subgExecs, mulgExecs, divgExecs],
    ∀ p ∈ t, FpRowKeeps p := by
  simp only [List.forall_mem_cons (l := _ :: _), List.forall_mem_singleton, addfExecs, subfExecs, mulfExecs, divfExecs, addgExecs,
    subgExecs, mulgExecs, divgExecs]
  and_intros <;> exact fun _ _ _ _ h => keepsSound_vaxTwoOp h _ _ _ _ _ _

theorem compareVaxRows_keep : ∀ t ∈ [cmpgeqExecs, cmpgltExecs, cmpgleExecs], ∀ p ∈ t, FpRowKeeps p := by
  simp only [List.forall_mem_cons (l := _ :: _), List.forall_mem_singleton, cmpgeqExecs, cmpgltExecs, cmpgleExecs]
  and_intros <;> exact fun _ _ _ _ h => keepsSound_fpOperate h _ _ _

theorem oneOpVaxRows_keep : ∀ t ∈ [sqrtfExecs, sqrtgExecs, cvtdgExecs, cvtgfExecs, cvtgdExecs, cvtgqExecs, cvtqfExecs, cvtqgExecs],
    ∀ p ∈ t, FpRowKeeps p := by
  simp only [List.forall_mem_cons (l := _ :: _), List.forall_mem_singleton, sqrtfExecs, sqrtgExecs, cvtdgExecs, cvtgfExecs,
    cvtgdExecs, cvtgqExecs, cvtqfExecs, cvtqgExecs]
  and_intros <;> exact fun _ _ _ _ h => keepsSound_vaxOneOp h _ _ _ _ _

theorem twoOpIeeeRows_keep : ∀ t ∈ [addsExecs, subsExecs, mulsExecs, divsExecs, addtExecs, subtExecs, multExecs, divtExecs,
    cmptunExecs, cmpteqExecs, cmptltExecs, cmptleExecs], ∀ p ∈ t, FpRowKeeps p := by
  simp only [List.forall_mem_cons (l := _ :: _), List.forall_mem_singleton, addsExecs, subsExecs, mulsExecs, divsExecs, addtExecs,
    subtExecs, multExecs, divtExecs, cmptunExecs, cmpteqExecs, cmptltExecs, cmptleExecs]
  and_intros <;> exact fun _ _ _ _ h => keepsSound_ieeeTwoOp h _ _ _ _ _ _

theorem oneOpIeeeRows_keep : ∀ t ∈ [sqrtsExecs, sqrttExecs, cvttsExecs, cvttqExecs, cvtqsExecs, cvtqtExecs, cvtstExecs],
    ∀ p ∈ t, FpRowKeeps p := by
  simp only [List.forall_mem_cons (l := _ :: _), List.forall_mem_singleton, sqrtsExecs, sqrttExecs, cvttsExecs, cvttqExecs,
    cvtqsExecs, cvtqtExecs, cvtstExecs]
  and_intros <;> exact fun _ _ _ _ h => keepsSound_ieeeOneOp h _ _ _ _ _

theorem itofExecs_keep : ∀ p ∈ itofExecs, FpRowKeeps p := by
  simp only [itofExecs, List.forall_mem_cons (l := _ :: _), List.forall_mem_singleton]
  and_intros <;> exact fun _ _ _ _ h => keepsSound_fpOperate h _ _ _

theorem fltlExec_keep : ∀ p ∈ fltlExec, FpRowKeeps p := by
  simp only [fltlExec, fltlExecs, List.forall_mem_cons (l := _ :: _), List.forall_mem_singleton]
  refine ⟨?cvtlq, ?cpys, ?cpysn, ?cpyse, ?mt, ?mf, ?eq, ?ne, ?lt, ?ge, ?le, ?gt, ?cvtql, ?cvtqlV, ?cvtqlSv⟩
  case mt => exact fun _ _ _ _ h => keepsSound_requireFp h (keepsSound_next (h.moveToFpcr _))
  case mf => exact fun _ _ _ _ h => keepsSound_requireFp h (keepsSound_next (h.writeFp _ _).advance)
  case eq | ne | lt | ge | le | gt => exact fun _ _ _ _ h => keepsSound_fpCondMove h _ _ _
  all_goals exact fun _ _ _ _ h => keepsSound_fpOperate h _ _ _

theorem ftoiExec_keep : ∀ p ∈ ftoiExec, FpRowKeeps p := by
  simp only [ftoiExec, List.forall_mem_cons (l := _ :: _), List.forall_mem_singleton]
  and_intros <;> exact fun _ _ _ _ h => keepsSound_moveToInt h _ _

theorem itfpExec_keep : ∀ p ∈ itfpExec, FpRowKeeps p := by
  have hvax := oneOpVaxRows_keep
  have hieee := oneOpIeeeRows_keep
  have hitof := itofExecs_keep
  simp only [itfpExec, List.forall_mem_append, List.forall_mem_cons (l := _ :: _)] at hvax hieee ⊢
  tauto

theorem fltvExec_keep : ∀ p ∈ fltvExec, FpRowKeeps p := by
  have htwo := twoOpVaxRows_keep
  have hcmp := compareVaxRows_keep
  have hone := oneOpVaxRows_keep
  simp only [fltvExec, List.forall_mem_append, List.forall_mem_cons (l := _ :: _), List.forall_mem_singleton] at htwo hcmp hone ⊢
  tauto

theorem fltiExec_keep : ∀ p ∈ fltiExec, FpRowKeeps p := by
  have htwo := twoOpIeeeRows_keep
  have hone := oneOpIeeeRows_keep
  simp only [fltiExec, List.forall_mem_append, List.forall_mem_cons (l := _ :: _), List.forall_mem_singleton] at htwo hone ⊢
  tauto

theorem intaExec_keep : ∀ p ∈ intaExec, OprRowKeeps p := by
  simp only [intaExec, List.forall_mem_cons (l := _ :: _), List.forall_mem_singleton]
  refine ⟨?_, ?_, ?_, ?_, ?_, ?_, ?_, ?_, ?_, ?_, ?_, ?_, ?_, ?_, ?_, ?_, ?addlV, ?sublV, ?_, ?addqV, ?subqV, ?_⟩
  case addlV | sublV | addqV | subqV => exact fun _ _ _ _ h => keepsSound_intOverflow h _ _ _
  all_goals exact fun _ _ _ _ h => keepsSound_intResult h _ _

theorem intlExec_keep : ∀ p ∈ intlExec, OprRowKeeps p := by
  simp only [intlExec, List.forall_mem_cons (l := _ :: _), List.forall_mem_singleton]
  refine ⟨?_, ?_, ?lbs, ?lbc, ?_, ?eq, ?ne, ?_, ?_, ?lt, ?ge, ?_, ?_, ?le, ?gt, ?_⟩
  case lbs | lbc | eq | ne | lt | ge | le | gt => exact fun _ _ _ _ h => keepsSound_condMove h _ _ _
  all_goals exact fun _ _ _ _ h => keepsSound_intResult h _ _

theorem intsExec_keep : ∀ p ∈ intsExec, OprRowKeeps p := by
  simp only [intsExec, List.forall_mem_cons (l := _ :: _), List.forall_mem_singleton]
  and_intros <;> exact fun _ _ _ _ h => keepsSound_intResult h _ _

theorem intmExec_keep : ∀ p ∈ intmExec, OprRowKeeps p := by
  simp only [intmExec, List.forall_mem_cons (l := _ :: _), List.forall_mem_singleton]
  refine ⟨?_, ?_, ?_, ?mullV, ?mulqV⟩
  case mullV | mulqV => exact fun _ _ _ _ h => keepsSound_intOverflow h _ _ _
  all_goals exact fun _ _ _ _ h => keepsSound_intResult h _ _

theorem fptiExec_keep : ∀ p ∈ fptiExec, OprRowKeeps p := by
  simp only [fptiExec, List.forall_mem_cons (l := _ :: _), List.forall_mem_singleton]
  and_intros <;> exact fun _ _ _ _ h => keepsSound_intResult h _ _

theorem miscExec_keep : ∀ p ∈ miscExec, ∀ ra rb s, Sound s → KeepsSound (p.2 ra rb s) := by
  simp only [miscExec, List.forall_mem_cons (l := _ :: _), List.forall_mem_singleton]
  refine ⟨?trapb, ?excb, ?mb, ?wmb, ?fetch, ?fetchM, ?rpcc, ?rc, ?ecb, ?rs, ?wh64⟩
  case mb => exact fun _ _ _ h => keepsSound_next (sound_ite h.wait h.advance)
  case rpcc => exact fun _ _ _ h => keepsSound_next (h.writeInt _ _).advance
  case rc | rs => exact fun _ _ _ h => keepsSound_next (h.writeFlag _ _ _).advance
  case wh64 => exact fun _ _ _ h => keepsSound_writeHintAt h _
  all_goals exact fun _ _ _ h => keepsSound_next h.advance

/-! ### A word -/

/-- The outcome of a word that decodes, if it has a next state, is sound. -/
def WordKeepsSound (r : Except Reject Out) : Prop := ∀ o, r = .ok o → KeepsSound o

theorem wordKeepsSound_ok {o : Out} (h : KeepsSound o) : WordKeepsSound (.ok o) := by
  rintro _ ⟨⟩
  exact h

theorem wordKeepsSound_error (r : Reject) : WordKeepsSound (.error r) := by
  intro o ho
  cases ho

section
variable {s : State} (h : Sound s) (w : BitVec 32)
include h

theorem wordKeepsSound_runOpr {t : OprExec} (ht : ∀ p ∈ t, OprRowKeeps p) (miss : Reject) : WordKeepsSound (runOpr t miss w s) := by
  unfold runOpr
  cases hrow : t.lookup (oprFunction w) with
  | none => exact wordKeepsSound_error miss
  | some k => exact wordKeepsSound_ok (ht (_, k) (mem_of_lookup_eq_some hrow) _ _ _ s h)

theorem wordKeepsSound_runFp {t : FpExec} (ht : ∀ p ∈ t, FpRowKeeps p) (miss : Reject) : WordKeepsSound (runFp t miss w s) := by
  unfold runFp
  cases hrow : t.lookup (fpFunction w) with
  | none => exact wordKeepsSound_error miss
  | some k => exact wordKeepsSound_ok (ht (_, k) (mem_of_lookup_eq_some hrow) _ _ _ s h)

theorem wordKeepsSound_runMisc : WordKeepsSound (runMisc w s) := by
  unfold runMisc
  cases hrow : miscExec.lookup (w.extractLsb' 0 16) with
  | none => exact wordKeepsSound_error _
  | some k => exact wordKeepsSound_ok (miscExec_keep (_, k) (mem_of_lookup_eq_some hrow) _ _ s h)

theorem wordKeepsSound_runFpti : WordKeepsSound (runFpti w s) := by
  unfold runFpti
  split
  · exact wordKeepsSound_runFp h w ftoiExec_keep _
  · exact wordKeepsSound_runOpr h w fptiExec_keep _

theorem wordKeepsSound_runJump : WordKeepsSound (runJump w s) := by
  unfold runJump
  split <;> exact wordKeepsSound_ok (keepsSound_jumpLink h _ _)

/-- The cases are the opcodes 00 to 3F in order. -/
theorem wordKeepsSound_execWord : WordKeepsSound (execWord w s) := by
  rw [execWord_compiled]
  unfold execWordCompiled
  split
  case h_1 => exact wordKeepsSound_ok (keepsSound_next (sound_ite (h.callPalEntry _) h.opcdecTrap))
  case h_2 | h_3 | h_4 | h_5 | h_6 | h_7 | h_8 => exact wordKeepsSound_ok (keepsSound_next h.opcdecTrap)
  case h_9 | h_10 => exact wordKeepsSound_ok (keepsSound_intResult h _ _)
  case h_11 | h_13 | h_41 | h_42 => exact wordKeepsSound_ok (keepsSound_loadInt h _ _ _ _ _ _)
  case h_14 | h_15 | h_45 | h_46 => exact wordKeepsSound_ok (keepsSound_storeInt h _ _ _ _ _)
  case h_12 => exact wordKeepsSound_ok (keepsSound_loadUnaligned h _ _ _)
  case h_16 => exact wordKeepsSound_ok (keepsSound_storeUnaligned h _ _ _)
  case h_43 | h_44 => exact wordKeepsSound_ok (keepsSound_loadLocked h _ _ _ _ _ _)
  case h_47 | h_48 => exact wordKeepsSound_ok (keepsSound_storeCond h _ _ _ _ _)
  case h_33 | h_34 | h_35 | h_36 => exact wordKeepsSound_ok (keepsSound_loadFp h _ _ _ _ _ _)
  case h_37 | h_38 | h_39 | h_40 =>
    exact wordKeepsSound_ok (keepsSound_requireFp h (keepsSound_alignedReference h (keepsSound_finishStore h _ _)))
  case h_17 => exact wordKeepsSound_runOpr h w intaExec_keep _
  case h_18 => exact wordKeepsSound_runOpr h w intlExec_keep _
  case h_19 => exact wordKeepsSound_runOpr h w intsExec_keep _
  case h_20 => exact wordKeepsSound_runOpr h w intmExec_keep _
  case h_21 => exact wordKeepsSound_runFp h w itfpExec_keep _
  case h_22 => exact wordKeepsSound_runFp h w fltvExec_keep _
  case h_23 => exact wordKeepsSound_runFp h w fltiExec_keep _
  case h_24 => exact wordKeepsSound_runFp h w fltlExec_keep _
  case h_25 => exact wordKeepsSound_runMisc h w
  case h_27 => exact wordKeepsSound_runJump h w
  case h_29 => exact wordKeepsSound_runFpti h w
  case h_26 => exact wordKeepsSound_ok (keepsSound_hwMfpr h _ _)
  case h_28 => exact wordKeepsSound_ok (keepsSound_palReserved h (keepsSound_hwLoad h _ _ _ _))
  case h_30 => exact wordKeepsSound_ok (keepsSound_hwMtpr h _ _)
  case h_31 => exact wordKeepsSound_ok (keepsSound_hwRet h _ _ _)
  case h_32 => exact wordKeepsSound_ok (keepsSound_palReserved h (keepsSound_hwStore h _ _ _ _))
  case h_49 | h_53 => exact wordKeepsSound_ok (keepsSound_branchLink h _ _)
  case h_50 | h_51 | h_52 | h_54 | h_55 | h_56 => exact wordKeepsSound_ok (keepsSound_requireFp h (keepsSound_branchIf h _ _))
  case h_57 | h_58 | h_59 | h_60 | h_61 | h_62 | h_63 | h_64 => exact wordKeepsSound_ok (keepsSound_branchIf h _ _)

end

end Sys2Proof.Machine
end


/-! # Settling O3, concluded: time, the fetch, the platform's events, and the step -/

section

namespace Sys2Proof.Machine

section
variable {s : State} (h : Sound s)
include h

/-! ### Time -/

theorem Sound.tick (retired : Bool) : Sound (tick retired s) := { h with }

omit h in
theorem within_profiledPc (pre t : State) : within (~~~2) (profiledPc pre t) = true := by
  unfold profiledPc
  split
  · exact within_pcWithMode _ _
  · split <;> exact within_pcWithMode _ _

omit h in
/-- A field of at most four bits above bit 28 lies within I_STAT's implemented bits. -/
theorem within_iStat_field (x : BitVec 4) : within 0x000001FFE0000000 (x.setWidth 64 <<< 30) = true ∧
    within 0x000001FFE0000000 (x.setWidth 64 <<< 34) = true := by
  revert x
  decide

theorem Sound.profile (pre : State) (word : Option (BitVec 32)) : Sound (profile pre word s) := by
  have hbit : ∀ n ∈ [40, 39, 38], ∀ b, within 0x000001FFE0000000 (bitAt n b) = true := by decide
  have hkept := within_and_of (m := 0x20000000) (n := 0x000001FFE0000000) (by decide) s.iStat
  refine { h with pmpc := within_profiledPc pre s, iStat := ?_ }
  refine within_or (within_or (within_or (within_or (within_or hkept ?_) ?_) ?_) ?_) ?_
  · exact hbit 40 (by decide) _
  · exact hbit 39 (by decide) _
  · exact hbit 38 (by decide) _
  · exact (within_iStat_field _).2
  · exact (within_iStat_field _).1

theorem Sound.withPctr (p : Pctr) : Sound { s with pctr := p } := { h with }

theorem Sound.countFetched (pre : State) (word : Option (BitVec 32)) : Sound (countFetched pre word s) :=
  sound_ite (sound_ite (h.profile pre word) (h.withPctr _)) h

theorem Sound.account (pre : State) (word : Option (BitVec 32)) : Sound (account pre word s) :=
  (h.tick _).countFetched pre word

/-! ### The fetch -/

theorem Sound.withIcache {l : List IcacheBlock} (hl : l.Pairwise fun b c => samePlace b c = false) : Sound { s with icache := l } :=
  { h with icache := hl }

theorem Sound.installBlock (b : IcacheBlock) : Sound (installBlock s b) :=
  (h.withIcache (installBlock_apart h.icache b)).withFree _

theorem Sound.prefetchFill (va : Word) : Sound (prefetchFill s va) := by
  unfold Machine.prefetchFill
  split
  · exact h
  split
  · exact sound_ite h (h.installBlock _)
  · exact h

theorem Sound.badTargetTrap : Sound (badTargetTrap s) := by
  have hmode : within (~~~2) (ofBool s.palMode &&& 3) = true := by cases s.palMode <;> decide
  have hsaved := within_or (within_and_of (m := ~~~3) (n := ~~~2) (by decide) (Config.freeQuad s.free)) hmode
  have hva : Sound { s with va := mergeMask (Config.freeQuad s.free) (~~~1#64) s.pc, free := s.free + 1 } := { h with }
  exact hva.takeException _ hsaved _

omit h in
/-- What a fetch gives, if it does not stop, is sound. -/
def FetchKeepsSound : Fetched → Prop
  | .word _ t => Sound t
  | .trap t => Sound t
  | .stop _ => True

theorem fetchKeepsSound_fetchChecked : FetchKeepsSound (fetchChecked s) := by
  unfold fetchChecked
  split
  · split
    · exact h
    · exact h.faultException _ _
  split
  · exact h.faultException _ _
  · exact h.faultException _ _
  · exact trivial
  · split
    · exact trivial
    · exact h.installBlock _

theorem fetchKeepsSound_fetch : FetchKeepsSound (fetch s) := by
  unfold fetch
  split
  · split
    · exact fetchKeepsSound_fetchChecked h
    · exact trivial
  · split
    · exact h.badTargetTrap
    · exact h.faultException _ _

/-! ### Error events -/

theorem Sound.logError (e : ErrorEvent) : Sound (Machine.logError s e) := by
  unfold Machine.logError
  split
  · exact h
  · exact { h with }

omit h in
theorem within_dcStatBits (e : ErrorEvent) : within 0x1F (dcStatBits e) = true := by
  unfold dcStatBits
  split
  case h_8 => split <;> decide
  all_goals decide

theorem Sound.errorEvent (e : ErrorEvent) : Sound (errorEvent s e) := by
  have hlog := h.logError e
  have hiStat : within 0x000001FFE0000000
      (if e.kind = .icacheParity then (Machine.logError s e).iStat ||| 0x20000000 else (Machine.logError s e).iStat) = true := by
    split
    · exact within_or hlog.iStat (by decide)
    · exact hlog.iStat
  have hicache : (if flushesIcache e.kind then [] else (Machine.logError s e).icache).Pairwise fun b c => samePlace b c = false := by
    split
    · exact List.Pairwise.nil
    · exact hlog.icache
  exact sound_ite { hlog with dcStat := within_or hlog.dcStat (within_dcStatBits e), iStat := hiStat, icache := hicache } h

/-! ### Resets and the wake-up -/

theorem Sound.clearDcache : Sound (clearDcache s) :=
  { h with mem := mainMemory_wf h.mem, cached := List.Pairwise.nil, below := nofun }

theorem Sound.loadSrom : Sound (loadSrom s) := by
  rw [loadSrom_frame]
  exact { h with icache := loadSrom_apart s }

theorem Sound.resetEntry {base : Word} (hbase : within 0x00000FFFFFFF8000 base = true) : Sound (resetEntry s base) :=
  { h with pc := aligned_palBase_or base (by decide), palBase := hbase }

omit h in
theorem setEnabled_or {v : Word} (i : Nat) (hi : v.extractLsb' i 2 = BitVec.allOnes 2) (x : Word) :
    (x ||| v).extractLsb' i 2 ≠ 0#2 := by
  rw [BitVec.extractLsb'_or, hi, BitVec.or_allOnes]
  decide

omit h in
theorem scrambleState_mem (s : State) : (Machine.scrambleState s).mem = s.mem := by simp only [Machine.scrambleState, scrambleRegs]

omit h in
theorem scrambleState_icache (s : State) : (Machine.scrambleState s).icache = s.icache := by
  simp only [Machine.scrambleState, scrambleRegs]

omit h in
theorem scrambleState_cached (s : State) : (Machine.scrambleState s).cached = s.cached := by
  simp only [Machine.scrambleState, scrambleRegs]

omit h in
theorem scrambleState_pc (s : State) : (Machine.scrambleState s).pc = s.pc := by simp only [Machine.scrambleState, scrambleRegs]

omit h in
theorem scrambleState_palBase (s : State) : (Machine.scrambleState s).palBase = s.palBase := by
  simp only [Machine.scrambleState, scrambleRegs]

omit h in
theorem scrambleState_length (s : State) : (Machine.scrambleState s).itb.length = 128 ∧
    (Machine.scrambleState s).dtb0.length = 128 ∧ (Machine.scrambleState s).dtb1.length = 128 :=
  ⟨(List.length_map _).trans List.length_range, (List.length_map _).trans List.length_range,
    (List.length_map _).trans List.length_range⟩

/-- The free registers of a reset are masked to their implemented bits; what is not free is kept. Whether a cache set is enabled is left
to what follows. -/
theorem Sound.scrambleState {iCtl dcCtl : Word} (hiCtl : within iCtlMask iCtl = true) (hicEn : iCtl.extractLsb' 1 2 ≠ 0#2)
    (hdcCtl : within 0xF3 dcCtl = true) (hsetEn : dcCtl.extractLsb' 0 2 ≠ 0#2) :
    Sound { Machine.scrambleState s with iCtl := iCtl, dcCtl := dcCtl } where
  mem := by simpa only [scrambleState_mem] using h.mem
  icache := by simpa only [scrambleState_icache] using h.icache
  cached := by simpa only [scrambleState_cached] using h.cached
  below := by simpa only [scrambleState_cached] using h.below
  pc := by simpa only [scrambleState_pc] using h.pc
  palBase := by simpa only [scrambleState_palBase] using h.palBase
  itb := (scrambleState_length s).1
  dtb0 := (scrambleState_length s).2.1
  dtb1 := (scrambleState_length s).2.2
  fpcr := within_and_mask _ _
  ierCm := within_and_mask _ _
  sirr := within_and_mask _ _
  iCtl := hiCtl
  vaCtl := within_and_mask _ _
  mCtl := within_and_mask _ _
  dcCtl := hdcCtl
  dcStat := within_and_mask _ _
  iStat := within_and_mask _ _
  pctx := within_and_mask _ _
  pmpc := within_and_mask _ _
  excAddr := within_and_mask _ _
  icEn := hicEn
  setEn := hsetEn

theorem Sound.faultReset : Sound (faultReset s) := by
  have hiCtl : within iCtlMask (s.iCtl ||| 0x6) = true := within_or h.iCtl (by decide)
  have hpctx : within 0x00007F8000001FE6 (s.pctx ||| 0x4) = true := within_or h.pctx (by decide)
  exact sound_ite h { h.resetEntry h.palBase with
    iCtl := hiCtl, icEn := setEnabled_or 1 (by decide) _, pctx := hpctx, excAddr := within_and_mask _ _ }

theorem Sound.warmReset : Sound (warmReset s) := by
  have hx := h.clearDcache.scrambleState (iCtl := 0x6) (dcCtl := 0x3) (by decide) (by decide) (by decide) (by decide)
  have hload := loadSrom_frame (Machine.scrambleState (Machine.clearDcache s))
  have hic := loadSrom_apart (Machine.scrambleState (Machine.clearDcache s))
  unfold Machine.warmReset
  generalize Machine.scrambleState (Machine.clearDcache s) = x at hx hload hic ⊢
  generalize (Machine.loadSrom x).icache = ic at hload hic
  generalize (Machine.loadSrom x).writeOnce = wo at hload
  rw [hload]
  have hpal := hx.resetEntry (base := 0) (by decide)
  have hpctx : within 0x00007F8000001FE6 0x4 = true := by decide
  have hmCtl : within 0x3E 0 = true := by decide
  exact { hpal with icache := hic, vaCtl := within_and hx.vaCtl _, pctx := hpctx, mCtl := hmCtl }

theorem Sound.wakeUp : Sound (wakeUp s) := by
  have hx := h.clearDcache.scrambleState (iCtl := (Machine.scrambleState (Machine.clearDcache s)).iCtl ||| 0x6)
    (dcCtl := (Machine.scrambleState (Machine.clearDcache s)).dcCtl ||| 0x3)
    (within_or (within_and_mask _ _) (by decide)) (setEnabled_or 1 (by decide) _) (within_or (within_and_mask _ _) (by decide))
    (setEnabled_or 0 (by decide) _)
  unfold Machine.wakeUp
  generalize Machine.scrambleState (Machine.clearDcache s) = x at hx ⊢
  have hpal := hx.resetEntry h.palBase
  have hpctx : within 0x00007F8000001FE6 (mergeMask x.pctx 0x1FE0 s.pctx ||| 0x4) = true :=
    within_or (within_mergeMask hx.pctx (by decide) _) (by decide)
  exact { hpal with ierCm := h.ierCm, sirr := h.sirr, pctx := hpctx, icache := List.Pairwise.nil }

/-! ### The schedule -/

theorem Sound.remoteStore (pa : BitVec 43) (v : Byte) : Sound (remoteStore s pa v) := by
  have hmem : Sound { s with mem := s.mem.writeByte pa.toNat v } := { h with mem := Memory.wf_writeByte h.mem _ _ }
  exact sound_ite h (hmem.loseBlock _)

theorem Sound.victimBlock (b : BitVec 38) : Sound (victimBlock s b) := sound_ite h (h.evictBlock b)

theorem Sound.deliver (e : EnvEvent) : Sound (deliver e s) := by
  cases e with
  | run => exact h
  | irq levels => exact { h with }
  | serial level => exact { h with }
  | remoteWrite pa v => exact h.remoteStore pa v
  | probe block next => exact h.probeBlock block next
  | victim block => exact h.victimBlock block
  | stcAnswer grant => exact { h with }
  | hold held => exact { h with }
  | memoryMap l => exact { h with }
  | error e => exact h.errorEvent e
  | badParityFill => exact { h with }
  | icacheFill va => exact h.prefetchFill va
  | icacheDrop n => exact h.withIcache (h.icache.sublist (List.eraseIdx_sublist _ n))
  | faultReset => exact h.faultReset
  | warmReset => exact h.warmReset

theorem Sound.withEnv (rest : List EnvEvent) : Sound { s with env := rest } := { h with }

/-! ### The step -/

theorem Sound.beginInstr : Sound (beginInstr s) := { h with }

omit h in
/-- What ends a step, given a sound outcome. -/
theorem keepsSound_settle {o : Out} {f : State → State} (ho : KeepsSound o) (hf : ∀ u, Sound u → Sound (f u)) :
    KeepsSound (settle f o) := by
  cases o with
  | next u => exact keepsSound_next (hf u (ho u rfl))
  | fault f => exact keepsSound_fault f
  | refused r => exact keepsSound_refused r

omit h in
theorem keepsSound_evictAfter {o : Out} (ho : KeepsSound o) (w : BitVec 32) (t : State) : KeepsSound (evictAfter w t o) := by
  intro v hv
  obtain ⟨u, rfl, rfl | ⟨b, rfl⟩⟩ := evictAfter_next hv
  · exact ho _ rfl
  · exact (ho u rfl).evictBlock b

theorem keepsSound_runWord (pre : State) (w : BitVec 32) : KeepsSound (runWord pre w s) := by
  have hword := wordKeepsSound_execWord h w
  unfold runWord
  split
  · next o ho =>
    split
    · exact keepsSound_refused _
    · exact keepsSound_settle (keepsSound_evictAfter (hword o ho) w s) fun u hu => hu.makeRoom.account pre (some w)
  · exact keepsSound_next (h.opcdecTrap.account pre (some w))
  · exact keepsSound_refused _

theorem keepsSound_runFetched : KeepsSound (runFetched s) := by
  have hfetch := fetchKeepsSound_fetch h
  unfold runFetched
  cases hf : fetch s with
  | word w t =>
    rw [hf] at hfetch
    exact keepsSound_runWord (Sound.beginInstr hfetch) s w
  | trap t =>
    rw [hf] at hfetch
    exact keepsSound_next (Sound.account hfetch s none)
  | stop f => exact keepsSound_fault f

theorem keepsSound_coreStep : KeepsSound (coreStep s) := by
  have hmchk : Sound { s with mchkIReq := false } := { h with }
  exact keepsSound_ite (keepsSound_next (sound_ite h.wakeUp h))
    (keepsSound_ite (keepsSound_next ((hmchk.faultException _ _).account s none))
      (keepsSound_ite (keepsSound_next ((h.faultException _ _).account s none)) (keepsSound_runFetched h)))

theorem keepsSound_step : KeepsSound (step s) := by
  unfold step runStep
  split
  · exact keepsSound_coreStep h
  · exact keepsSound_coreStep (h.withEnv _)
  · exact keepsSound_next ((h.withEnv _).deliver _)

end

/-- Settles O3. -/
theorem everyStepKeepsTheStateSound : Obligations.EveryStepKeepsTheStateSound := fun _ t hs ht => keepsSound_step hs t ht

/-- Settles O2. -/
theorem resetStateIsSound : Obligations.ResetStateIsSound where
  mem := rfl
  itb := List.length_replicate
  dtb0 := List.length_replicate
  dtb1 := List.length_replicate
  pc := by decide
  fpcr := by decide
  ierCm := by decide
  sirr := by decide
  palBase := by decide
  iCtl := by decide
  vaCtl := by decide
  mCtl := by decide
  dcCtl := by decide
  dcStat := by decide
  iStat := by decide
  pctx := by decide
  pmpc := by decide
  excAddr := by decide
  icache := List.Pairwise.nil
  cached := List.Pairwise.nil
  below := nofun
  icEn := by decide
  setEn := by decide

end Sys2Proof.Machine
end


/-! # Settling O1, O13, O15, O16, O17, O20, O37, O38 and O52: registers, operands, transfers and the reserved opcodes -/

section

namespace Sys2Proof.Machine

/-! ### Fixed states and words -/

/-- Settles O1. -/
theorem resetHoldsTheStatedValues : Obligations.ResetHoldsTheStatedValues := by
  refine ⟨rfl, rfl, rfl, rfl, rfl, ?iCtl, rfl, rfl, ?pctx, rfl, rfl, rfl, rfl, rfl, rfl, rfl, rfl, rfl, rfl, rfl, rfl, rfl, rfl⟩
  all_goals decide

/-- Settles O13. -/
theorem wordsOfTheSpecDecode : Obligations.WordsOfTheSpecDecode := by
  unfold Obligations.WordsOfTheSpecDecode
  simp only [List.forall_mem_cons (l := _ :: _), List.forall_mem_singleton]
  and_intros <;> rfl

/-! ### Register numbers -/

section
variable {s : State} {r : Reg}

theorem shadowSlot_shadowed (k : Fin 8) (hr : r.toNat = if k.val < 4 then 4 + k.val else 16 + k.val) : shadowSlot r = some k := by
  have hall : ∀ (r : Reg) (k : Fin 8), r.toNat = (if k.val < 4 then 4 + k.val else 16 + k.val) →
      shadowSlot r = some k := by decide
  exact hall r k hr

theorem shadowSlot_plain (hr : r.toNat ∉ [4, 5, 6, 7, 20, 21, 22, 23]) : shadowSlot r = none := by
  have hall : ∀ r : Reg, r.toNat ∉ [4, 5, 6, 7, 20, 21, 22, 23] → shadowSlot r = none := by decide
  exact hall r hr

theorem activeSlot_shadowed (hpal : s.palMode = true) (hsde : s.iCtl.getLsbD 7 = true) {k : Fin 8}
    (hr : r.toNat = if k.val < 4 then 4 + k.val else 16 + k.val) : activeSlot s r = some k := by
  have hactive : shadowActive s = true := by rw [shadowActive, hpal, hsde, Bool.and_self]
  rw [activeSlot, if_pos hactive, shadowSlot_shadowed k hr]

theorem activeSlot_plain (h : (s.palMode && s.iCtl.getLsbD 7) = false ∨ r.toNat ∉ [4, 5, 6, 7, 20, 21, 22, 23]) :
    activeSlot s r = none := by
  unfold activeSlot shadowActive
  obtain hoff | hplain := h
  · rw [if_neg (Bool.not_eq_true _ ▸ hoff)]
  · rw [shadowSlot_plain hplain, ite_self]

end

/-- Settles O16. -/
theorem registerNumbers : Obligations.RegisterNumbers := by
  unfold Obligations.RegisterNumbers
  intro s r
  refine ⟨⟨readInt_31 s, readFp_31 s, fun v => ⟨writeInt_31 s v, writeFp_31 s v⟩⟩, fun hpal hsde k hr => ?shadowed,
    fun hplain k hr => ?plain, fun k hr => ?floating⟩
  case shadowed =>
    have hslot := activeSlot_shadowed hpal hsde hr
    refine ⟨?_, fun v => ?_⟩
    · rw [readInt, hslot]
    · rw [writeInt, hslot]
  case plain =>
    have hslot := activeSlot_plain hplain
    have hlt : r.toNat < 31 := hr ▸ k.isLt
    refine ⟨?_, fun v => ?_⟩
    · simp only [readInt, hslot, hr, k.isLt, dite_true, Fin.getElem_fin]
    · simp only [writeInt, hslot, hr, k.isLt, dite_true]
  case floating =>
    refine ⟨?_, fun v => ?_⟩
    · simp only [readFp, hr, k.isLt, dite_true, Fin.getElem_fin]
    · simp only [writeFp, hr, k.isLt, dite_true]

/-! ### Operands and addresses -/

/-- Settles O17. -/
theorem operandFormsAndAddresses : Obligations.OperandFormsAndAddresses := by
  unfold Obligations.OperandFormsAndAddresses
  intro s r v d h b
  refine ⟨rfl, ?lit, ?mem, ?hw, ?bra⟩
  case lit => exact BitVec.toNat_setWidth_of_le (by norm_num)
  case mem => rw [effAddr_eq_ofInt, Int.one_mul]
  case hw =>
    rw [hwEffAddr, add_eq_ofInt, BitVec.toInt_signExtend_of_le (by norm_num)]
  case bra =>
    rw [branchTarget_eq_ofInt, BitVec.ofInt_add, BitVec.ofInt_add, BitVec.ofInt_toInt]
    rfl

/-! ### The integer branches and jumps -/

/-- A conditional branch; for a constructor the first and the third hypothesis are `rfl`. -/
theorem opcode_and_completes_branch {i : Instr} {op : Nat} {ra : Reg} {disp : BitVec 21} {s : State} {test taken : Bool}
    (henc : encode i = packBra (BitVec.ofNat 6 op) ra disp) (hop : op < 2 ^ 6) (hexec : exec i s = branchIf test disp s)
    (htest : test = taken) :
    Opcode i op ∧ Completes (exec i s)
      (OnlyPc s (if taken then s.pc + 4 + BitVec.ofInt 64 (4 * disp.toInt) else s.pc + 4)) := by
  rw [hexec, htest]
  exact ⟨opcode_packBra henc hop, completes_branchIf taken disp s⟩

/-- The link of a transfer, but for the pc and the mark that a jump set it. -/
theorem wroteInt_link (s : State) (ra : Reg) : WroteInt s ra (s.pc + 4) { writeInt s ra (s.pc + 4) with pc := s.pc + 4 } :=
  WroteInt.of_eq (by rw [writeInt_eq]; rfl)

theorem completes_branchLink (ra : Reg) (disp : BitVec 21) (s : State) : Completes (branchLink ra disp s) fun t =>
    t.pc = s.pc + 4 + BitVec.ofInt 64 (4 * disp.toInt) ∧ WroteInt s ra (s.pc + 4) { t with pc := s.pc + 4 } :=
  completes_next ⟨branchTarget_eq_ofInt s disp, wroteInt_link s ra⟩

/-- Settles O37: one case for each branch, by the sign of the register that its test reads. -/
theorem integerBranches : Obligations.IntegerBranches := by
  unfold Obligations.IntegerBranches
  simp only [List.forall_mem_cons (l := _ :: _), List.forall_mem_singleton]
  refine ⟨⟨?blbc, ?beq, ?blt, ?ble, ?blbs, ?bne, ?bge, ?bgt⟩, ?br, ?bsr⟩ <;> intro ra disp s
  case blbc => exact opcode_and_completes_branch rfl (by norm_num) rfl rfl
  case beq => exact opcode_and_completes_branch rfl (by norm_num) rfl (isZero_eq_decide _)
  case blt => exact opcode_and_completes_branch rfl (by norm_num) rfl (isNegative_eq_decide _)
  case ble => exact opcode_and_completes_branch rfl (by norm_num) rfl (isNegative_or_isZero_eq_decide _)
  case blbs => exact opcode_and_completes_branch rfl (by norm_num) rfl rfl
  case bne => exact opcode_and_completes_branch rfl (by norm_num) rfl (not_isZero_eq_decide _)
  case bge => exact opcode_and_completes_branch rfl (by norm_num) rfl (not_isNegative_eq_decide _)
  case bgt => exact opcode_and_completes_branch rfl (by norm_num) rfl (not_isNegative_and_not_isZero_eq_decide _)
  case br => exact ⟨opcode_packBra rfl (by norm_num), completes_branchLink ra disp s⟩
  case bsr => exact ⟨opcode_packBra rfl (by norm_num), completes_branchLink ra disp s⟩

/-- The target is read before the link is written. -/
theorem completes_jumpLink (ra rb : Reg) (s : State) : Completes (jumpLink ra rb s) fun t =>
    t.pc = readInt s rb &&& ~~~3#64 ∧ t.viaJump = true ∧
      WroteInt s ra (s.pc + 4) { t with pc := s.pc + 4, viaJump := s.viaJump } :=
  completes_next ⟨rfl, rfl, WroteInt.of_eq (by rw [writeInt_eq]; rfl)⟩

theorem jumpCode_and_completes {i : Instr} {op : Nat} {h : BitVec 2} {ra rb : Reg} {d : BitVec 14} {s : State}
    (henc : encode i = packJump h ra rb d) (hh : h.toNat = op) (hexec : exec i s = jumpLink ra rb s) :
    Opcode i 0x1A ∧ ((encode i).extractLsb' 14 2).toNat = op ∧ Completes (exec i s) fun t =>
      t.pc = readInt s rb &&& ~~~3#64 ∧ t.viaJump = true ∧
        WroteInt s ra (s.pc + 4) { t with pc := s.pc + 4, viaJump := s.viaJump } := by
  obtain ⟨hop, hkind⟩ := jumpCode_pack henc
  rw [hexec]
  exact ⟨hop, hkind.trans hh, completes_jumpLink ra rb s⟩

/-- Settles O38. -/
theorem jumps : Obligations.Jumps := by
  unfold Obligations.Jumps
  simp only [List.forall_mem_cons (l := _ :: _), List.forall_mem_singleton]
  refine ⟨?jmp, ?jsr, ?ret, ?jsrCoroutine⟩ <;> intro ra rb hint s <;> exact jumpCode_and_completes rfl rfl rfl

/-! ### The overflow forms -/

/-- A value fits a field of `w` bits if the field's number is the value. -/
theorem fitsSigned_iff {w : Nat} (hw : 0 < w) (x : Int) : fitsSigned w x = true ↔ -2 ^ (w - 1) ≤ x ∧ x < 2 ^ (w - 1) := by
  rw [fitsSigned, beq_iff_eq]
  constructor
  · intro hfit
    have hlow := BitVec.le_toInt (BitVec.ofInt w x)
    have hhigh := BitVec.toInt_lt (x := BitVec.ofInt w x)
    rw [hfit] at hlow hhigh
    exact ⟨hlow, hhigh⟩
  · rintro ⟨hlow, hhigh⟩
    exact BitVec.toInt_ofInt_eq_self hw hlow hhigh

theorem trapPc_writeInt (s : State) (r : Reg) (v : Word) : trapPc (writeInt s r v) = trapPc s := by
  rw [writeInt_eq]
  rfl

section
variable {s : State} {rc : Reg} {w : Nat} {x : Int}

theorem completes_intOverflow_fits (hw : 0 < w) (h : rc = 31 ∨ (-2 ^ (w - 1) ≤ x ∧ x < 2 ^ (w - 1))) :
    Completes (intOverflow rc w x s) (WroteInt s rc ((BitVec.ofInt w x).signExtend 64)) := by
  refine completes_next (WroteInt.of_eq ?_)
  obtain rfl | hfit := h
  · exact (congrArg advance (writeInt_31 s _)).symm
  · rw [finishOverflow, if_pos ((fitsSigned_iff hw x).mpr hfit)]
    split
    · next h31 => exact h31 ▸ (congrArg advance (writeInt_31 s _)).symm
    · rfl

theorem completes_intOverflow_traps (hw : 0 < w) (hrc : rc ≠ 31) (h : ¬(-2 ^ (w - 1) ≤ x ∧ x < 2 ^ (w - 1))) :
    Completes (intOverflow rc w x s) fun t =>
      Entered (writeInt s rc ((BitVec.ofInt w x).signExtend 64)) .arith 0x600 (trapPc s) t ∧
        t.excSum = { excSumOf 0 with int := true, iov := true, reg := rc, setIov := !s.fpcr.getLsbD 57 } := by
  have hfit : ¬fitsSigned w x = true := fun hfit => h ((fitsSigned_iff hw x).mp hfit)
  refine completes_next ?_
  rw [if_neg hrc, finishOverflow, if_neg hfit, ← trapPc_writeInt s rc ((BitVec.ofInt w x).signExtend 64)]
  exact ⟨entered_takeException _ .arith _ 0x600 _ rfl, rfl⟩

end

theorem oprCode_and_overflow {i : Instr} {op f : Nat} {ra : Reg} {rb : Operand} {rc : Reg} {s : State} {w : Nat} {x : Int}
    {y : Nat → Int}
    (henc : encode i = packOpr (BitVec.ofNat 6 op) (BitVec.ofNat 7 f) ra rb rc) (hcode : op < 2 ^ 6 ∧ f < 2 ^ 7) (hw : 0 < w)
    (hexec : exec i s = intOverflow rc w x s) (hy : y w = x) :
    OprCode i op f ∧ ∀ (w' : Nat) (x' : Int), w' = w → x' = y w' →
      (rc = 31 ∨ (-2 ^ (w' - 1) ≤ x' ∧ x' < 2 ^ (w' - 1)) →
        Completes (exec i s) (WroteInt s rc ((BitVec.ofInt w' x').signExtend 64))) ∧
      (rc ≠ 31 → ¬(-2 ^ (w' - 1) ≤ x' ∧ x' < 2 ^ (w' - 1)) → Completes (exec i s) fun t =>
        Entered (writeInt s rc ((BitVec.ofInt w' x').signExtend 64)) .arith 0x600 (trapPc s) t ∧
          t.excSum = { excSumOf 0 with int := true, iov := true, reg := rc, setIov := !s.fpcr.getLsbD 57 }) := by
  refine ⟨oprCode_pack henc hcode.1 hcode.2, ?_⟩
  rintro _ _ rfl rfl
  rw [hy]
  rw [hexec]
  exact ⟨completes_intOverflow_fits hw, completes_intOverflow_traps hw⟩

theorem toInt_setWidth_32 (v : Word) : (v.setWidth 32).toInt = longInt v := by
  rw [longInt, longOf, ← BitVec.setWidth_eq_extractLsb' (by norm_num)]

/-- Settles O20. -/
theorem overflowFormsWriteThenTrap : Obligations.OverflowFormsWriteThenTrap := by
  unfold Obligations.OverflowFormsWriteThenTrap
  simp only [List.forall_mem_cons (l := _ :: _), List.forall_mem_singleton]
  refine ⟨?addlV, ?sublV, ?mullV, ?addqV, ?subqV, ?mulqV⟩ <;> intro ra rb rc s
  case addlV | sublV | mullV =>
    refine oprCode_and_overflow rfl (by decide) (by decide) rfl ?_
    rw [toInt_setWidth_32, toInt_setWidth_32]
  case addqV | subqV | mulqV =>
    refine oprCode_and_overflow rfl (by decide) (by decide) rfl ?_
    rw [BitVec.setWidth_eq, BitVec.setWidth_eq]

/-! ### The reserved opcodes -/

/-- Every instruction runs as the compiled path runs its word. -/
theorem execWordCompiled_encode (i : Instr) (s : State) : execWordCompiled (encode i) s = .ok (exec i s) := by
  rw [← execWord_compiled, execWord, decode_encode]
  rfl

/-- The five PAL-reserved opcodes. -/
theorem exec_palReserved {i : Instr} (h : (encode i).extractLsb' 26 6 ∈ [0x19#6, 0x1B#6, 0x1D#6, 0x1E#6, 0x1F#6]) (s : State) :
    ∃ k, exec i s = palReserved s k := by
  have hrun := execWordCompiled_encode i s
  simp only [List.mem_cons, List.not_mem_nil, or_false] at h
  unfold execWordCompiled at hrun
  obtain hop | hop | hop | hop | hop := h <;> rw [show Sys2Proof.opcodeOf (encode i) = _ from hop] at hrun <;>
    exact ⟨_, (Except.ok.inj hrun).symm⟩

/-- Settles O15. -/
theorem reservedAndPrivilegedOpcodesTakeOpcdec : Obligations.ReservedAndPrivilegedOpcodesTakeOpcdec := by
  unfold Obligations.ReservedAndPrivilegedOpcodesTakeOpcdec
  simp only [List.forall_mem_cons (l := _ :: _), List.forall_mem_singleton]
  refine ⟨?reserved, fun s i hnative hdenied hop => ?privileged⟩
  case reserved =>
    and_intros <;> exact fun rest s => ⟨opcode_packRest rfl (by norm_num), completes_next (entered_opcdecTrap s)⟩
  case privileged =>
    obtain ⟨k, hexec⟩ := exec_palReserved hop s
    have hillegal : ¬palLegal s = true := by
      rw [palLegal, hnative, Bool.false_or, Bool.and_eq_true, beq_iff_eq]
      rintro ⟨hhwe, hmode⟩
      obtain hoff | huser := hdenied
      · rw [hoff] at hhwe
        exact Bool.false_ne_true hhwe
      · exact huser hmode
    rw [hexec, palReserved, if_neg hillegal]
    exact completes_next (entered_opcdecTrap s)

/-! ### CALL_PAL -/

theorem callPalLegal_iff (s : State) (fn : BitVec 26) :
    callPalLegal s fn = true ↔ (fn.toNat ≤ 0x3F ∧ currentMode s = 0) ∨ (0x80 ≤ fn.toNat ∧ fn.toNat ≤ 0xBF) := by
  by_cases hmode : currentMode s = 0
  · simp only [callPalLegal, hmode, Bool.not_eq_true', Bool.or_eq_false_iff, Bool.and_eq_false_iff, decide_eq_false_iff_not,
      bne_self_eq_false, and_true, or_true]
    omega
  · have hne : (currentMode s != 0) = true := bne_iff_ne.mpr hmode
    simp only [callPalLegal, hne, hmode, Bool.not_eq_true', Bool.or_eq_false_iff, Bool.and_eq_false_iff, decide_eq_false_iff_not,
      and_false, false_or, Bool.true_eq_false, or_false]
    omega

/-- The entries are 64 bytes apart: bit 7 of the function selects the second group of 64, its low six bits the entry. -/
theorem callPal_offset (group : BitVec 1) (entry : BitVec 6) :
    (0x2000 : Word) ||| (group.setWidth 64 <<< 12) ||| (entry.setWidth 64 <<< 6) =
        BitVec.ofNat 64 (0x2000 + 0x1000 * group.toNat + 64 * entry.toNat) ∧
      0x00000FFFFFFF8000#64 &&& ((0x2000 : Word) ||| (group.setWidth 64 <<< 12) ||| (entry.setWidth 64 <<< 6)) = 0#64 := by
  revert group entry
  decide

theorem callPalPc_eq (s : State) (fn : BitVec 26) : callPalPc s fn = (s.palBase &&& 0x00000FFFFFFF8000) +
    BitVec.ofNat 64 (0x2000 + 0x1000 * (fn.toNat / 0x80 % 2) + 64 * (fn.toNat % 0x40)) := by
  obtain ⟨hoffset, hdisjoint⟩ := callPal_offset (fn.extractLsb' 7 1) (fn.extractLsb' 0 6)
  have hassoc : callPalPc s fn = (s.palBase &&& 0x00000FFFFFFF8000#64) |||
      ((0x2000 : Word) ||| ((fn.extractLsb' 7 1).setWidth 64 <<< 12) ||| ((fn.extractLsb' 0 6).setWidth 64 <<< 6)) := by
    rw [callPalPc, BitVec.or_assoc, BitVec.or_assoc, BitVec.or_assoc]
    rfl
  rw [hassoc, palBase_or _ _ hdisjoint, hoffset, BitVec.extractLsb'_toNat, BitVec.extractLsb'_toNat,
    Nat.shiftRight_eq_div_pow, Nat.shiftRight_zero]
  rfl

/-- Settles O52. -/
theorem callPal : Obligations.CallPal := by
  unfold Obligations.CallPal
  intro fn s
  have hexec : exec (.callPal fn) s = .next (if callPalLegal s fn then callPalEntry s fn else opcdecTrap s) := rfl
  refine ⟨opcode_packRest rfl (by norm_num), ?_⟩
  rintro _ rfl
  rw [hexec]
  refine ⟨fun hlegal => ?_, fun hillegal => ?_⟩
  · rw [if_pos ((callPalLegal_iff s fn).mpr hlegal)]
    refine completes_next ⟨?_, WroteInt.of_eq (by rw [callPalEntry, writeInt_eq]; rfl)⟩
    have hoffset : 0x2000 + 0x1000 * (fn.toNat / 0x80 % 2) + 64 * (fn.toNat % 0x40) =
        if fn.toNat ≤ 0x3F then 0x2000 + 64 * fn.toNat else 0x3000 + 64 * (fn.toNat - 0x80) := by
      split <;> omega
    rw [← hoffset]
    exact callPalPc_eq s fn
  · rw [if_neg fun hlegal => hillegal ((callPalLegal_iff s fn).mp hlegal)]
    exact completes_next (entered_opcdecTrap s)

end Sys2Proof.Machine
end


/-! # Settling O4, O5, O6, O7, O8, O9 and O14: the step, the time between two instructions, and the fetch -/

section

namespace Sys2Proof.Machine

/-! ### The schedule -/

/-- The schedule lets the core run, and `rest` of it remains. -/
abbrev CoreRuns (s : State) (rest : List EnvEvent) : Prop := (s.env = [] ∧ rest = []) ∨ s.env = .run :: rest

theorem step_of_coreRuns {s : State} {rest : List EnvEvent} (h : CoreRuns s rest) : step s = coreStep { s with env := rest } := by
  obtain ⟨henv, rfl⟩ | henv := h
  · have hsame : { s with env := [] } = s := by rw [← henv]
    rw [hsame, step, runStep, henv]
  · rw [step, runStep, henv]

section
variable {s t : State} {rest : List EnvEvent} {w : BitVec 32} (henv : CoreRuns s rest)
  (hawake : s.asleep = false)
include henv hawake

theorem step_of_fetch (hmchk : mchkPending { s with env := rest } = false) (hint : interruptPending { s with env := rest } = false)
    (hfetch : fetch { s with env := rest } = .word w t) : step s = runWord { s with env := rest } w (beginInstr t) := by
  rw [step_of_coreRuns henv, coreStep, if_neg (by simp only [hawake, Bool.false_eq_true, not_false_iff]),
    if_neg (by simp only [hmchk, Bool.false_eq_true, not_false_iff]),
    if_neg (by simp only [hint, Bool.false_eq_true, not_false_iff]), runFetched, hfetch]

end

theorem execWord_of_decode {w : BitVec 32} {i : Instr} (h : decode w = .ok i) (s : State) : execWord w s = .ok (exec i s) := by
  rw [execWord, h]
  rfl

theorem runWord_of_restriction {w : BitVec 32} {t : State} {i : Instr} {r : Refusal} (h : decode w = .ok i)
    (hr : restriction t w = some r) (pre : State) : runWord pre w t = .refused r := by
  rw [runWord, execWord_of_decode h]
  simp only [hr]

/-! ### ECB -/

/-- The opcode comes back when a decoded word is encoded again. -/
theorem opcode_encode_of_decode {w : BitVec 32} {i : Instr} (h : decode w = .ok i) :
    (encode i).extractLsb' 26 6 = w.extractLsb' 26 6 := by
  rw [encodeInvertsDecode w i h]
  split
  · have hmask : (~~~0xE000#32).extractLsb' 26 6 = BitVec.allOnes 6 := by decide
    rw [BitVec.extractLsb'_and, hmask, BitVec.and_allOnes]
  · rfl

/-- Outside the Opr format encoding gives the whole word back. -/
theorem encode_of_decode_opcode {w : BitVec 32} {i : Instr} (h : decode w = .ok i)
    (hop : ((encode i).extractLsb' 26 6).toNat ∉ [0x10, 0x11, 0x12, 0x13, 0x1C]) : encode i = w := by
  rw [opcode_encode_of_decode h] at hop
  rw [encodeInvertsDecode w i h, if_neg]
  simp only [List.mem_cons, List.not_mem_nil, or_false, not_or] at hop ⊢
  tauto

theorem eq_ecb_of_isEcb {w : BitVec 32} {i : Instr} (h : decode w = .ok i) (hecb : isEcb w = true) :
    i = .ecb (w.extractLsb' 21 5) (w.extractLsb' 16 5) := by
  obtain ⟨hop, hlow⟩ : Sys2Proof.opcodeOf w = 0x18#6 ∧ w.extractLsb' 0 16 = 0xE800#16 := by
    rwa [isEcb, Bool.and_eq_true, beq_iff_eq, beq_iff_eq] at hecb
  have hmisc : decode w = decodeMisc w := by
    unfold decode
    rw [hop]
    rfl
  rw [hmisc, decodeMisc, hlow] at h
  exact (Except.ok.inj h).symm

theorem isEcb_of_decode {w : BitVec 32} {ra rb : Reg} (h : decode w = .ok (.ecb ra rb)) :
    isEcb w = true ∧ w.extractLsb' 16 5 = rb := by
  obtain ⟨hop, hfn⟩ : MiscCode (.ecb ra rb) 0xE800 := miscCode_pack rfl (by norm_num)
  have hw : encode (.ecb ra rb) = w := encode_of_decode_opcode h (by rw [hop]; decide)
  rw [hw] at hop hfn
  refine ⟨?_, ?_⟩
  · rw [isEcb, Bool.and_eq_true, beq_iff_eq, beq_iff_eq]
    exact ⟨BitVec.eq_of_toNat_eq hop, BitVec.eq_of_toNat_eq hfn⟩
  · rw [← hw]
    exact fieldB_packMem _ _ _ _

/-- ECB at an address that translates evicts its block; where the lookup is not defined, the step stops. -/
theorem evictAfter_ecb {w : BitVec 32} {t : State} (hecb : isEcb w = true) {r : DataRef}
    (hr : r = evictRef t (readInt t (w.extractLsb' 16 5))) :
    (∀ f, translateData t r = .error (.stop f) → ∀ o, evictAfter w t o = .fault f) ∧
      (∀ acv fr fw, translateData t r = .error .miss ∨ translateData t r = .error (.violation acv fr fw) →
        ∀ o, evictAfter w t o = o) ∧
      ∀ pa, translateData t r = .ok pa → ∀ u,
        (inIoSpace pa = true → evictAfter w t (.next u) = .next u) ∧
          (inIoSpace pa = false → evictAfter w t (.next u) = .next (evictBlock u (pa.extractLsb' 6 38))) := by
  subst hr
  refine ⟨fun f hf o => ?stop, fun acv fr fw hdenied o => ?denied, fun pa hpa u => ⟨fun hio => ?io, fun hmem => ?mem⟩⟩
  case stop => simp only [evictAfter, hecb, if_true, hf]
  case denied =>
    obtain hmiss | hviol := hdenied
    · simp only [evictAfter, hecb, if_true, hmiss]
    · simp only [evictAfter, hecb, if_true, hviol]
  case io => simp only [evictAfter, hecb, if_true, hpa, settle, evictAt, hio]
  case mem => simp only [evictAfter, hecb, if_true, hpa, settle, evictAt, hmem, Bool.false_eq_true, if_false, blockOf]

/-- Settles O4. -/
theorem stepRunsTheDecodedInstruction : Obligations.StepRunsTheDecodedInstruction := by
  unfold Obligations.StepRunsTheDecodedInstruction
  intro s t rest w i henv s' hawake hmchk hint hfetch hdec after hafter
  subst hafter
  have hstep : step s = runWord s' w (beginInstr t) := step_of_fetch henv hawake hmchk hint hfetch
  refine ⟨fun hfree => ?runs, fun r hr => ?refused, fun hother o => ?other, ?ecb⟩
  case runs => rw [hstep, runWord_ok (execWord_of_decode hdec _) hfree]
  case refused => rw [hstep, runWord_of_restriction hdec hr]
  case other =>
    refine evictAfter_other ?_ _ _
    rw [← Bool.not_eq_true]
    exact fun hecb => hother _ _ (eq_ecb_of_isEcb hdec hecb)
  case ecb =>
    rintro ra rb rfl r rfl
    obtain ⟨hecb, rfl⟩ := isEcb_of_decode hdec
    exact evictAfter_ecb hecb rfl

/-! ### The time between two instructions -/

/-- How much a fetched instruction counts in ProfileMe mode (R876). -/
def fetchedAmount (word : Option (BitVec 32)) : Nat := if (word.map isCondMove).getD false then 2 else 1

/-- Counter 0 counts the instruction that took the machine from `pre` to `s`. -/
def countsFetch (pre : State) (word : Option (BitVec 32)) (s : State) : Bool :=
  pctr0Enabled pre && pctr0Enabled s && pre.pctr.sl0 && !pre.pmStopped && !s.waiting &&
    !((word.map isPctrWrite).getD false && completed s)

theorem countFetched_eq (pre : State) (word : Option (BitVec 32)) (s : State) :
    countFetched pre word s =
      if countsFetch pre word s then
        if overflows pre.pctr.pctr0 (fetchedAmount word) then profile pre word s
        else { s with pctr := { s.pctr with pctr0 := s.pctr.pctr0 + BitVec.ofNat 20 (fetchedAmount word) } }
      else s := rfl

/-- What ProfileMe adds to a step changes neither CC nor anything that O5 does not name. -/
theorem countFetched_frame (pre : State) (word : Option (BitVec 32)) (s : State) :
    countFetched pre word s = { s with
      pctr := (countFetched pre word s).pctr, pc0Req := (countFetched pre word s).pc0Req,
      pc1Req := (countFetched pre word s).pc1Req, pmpc := (countFetched pre word s).pmpc,
      iStat := (countFetched pre word s).iStat, pmStopped := (countFetched pre word s).pmStopped,
      free := (countFetched pre word s).free } := by
  rw [countFetched_eq]
  split
  · split <;> rfl
  · rfl

theorem account_cc (pre : State) (word : Option (BitVec 32)) (s : State) :
    (account pre word s).cc =
      if s.ccEna then s.cc.extractLsb' 32 32 ++ (s.cc.extractLsb' 0 32 + BitVec.ofNat 32 (cyclesNow s)) else s.cc := by
  rw [account, countFetched_frame]
  rfl

/-- Settles O5. -/
theorem timeBetweenInstructions : Obligations.TimeBetweenInstructions := by
  unfold Obligations.TimeBetweenInstructions
  intro pre s w
  refine ⟨?frame, fun hoff => ?stopped, fun hon => ⟨rfl, ?high, ?low⟩⟩
  case frame =>
    rw [account, countFetched_frame]
    rfl
  case stopped => rw [account_cc, hoff, if_neg Bool.false_ne_true]
  case high =>
    rw [account_cc, if_pos hon]
    exact BitVec.extractLsb'_append_eq_left
  case low =>
    rw [account_cc, if_pos hon, BitVec.toNat_append, ← Nat.shiftLeft_add_eq_or_of_lt (BitVec.isLt _), Nat.shiftLeft_eq,
      BitVec.toNat_add, BitVec.extractLsb'_toNat, BitVec.extractLsb'_toNat, BitVec.toNat_ofNat]
    omega

/-! ### Interrupts and machine checks -/

/-- Settles O6. -/
theorem interruptsAndMachineChecksAreTakenBeforeTheFetch : Obligations.InterruptsAndMachineChecksAreTakenBeforeTheFetch := by
  unfold Obligations.InterruptsAndMachineChecksAreTakenBeforeTheFetch
  refine ⟨?native, fun s hpal => ?pal⟩
  case pal => simp only [mchkPending, interruptPending, hpal, Bool.not_true, Bool.false_and, and_self]
  case native =>
    intro s rest henv s' hawake hnative
    have hstep : step s = coreStep s' := step_of_coreRuns henv
    have hcore : ∀ b, b = s'.asleep → (if b then .next (if isum s' != 0 then wakeUp s' else s') else
        if mchkPending s' then .next (account s' none (takeMachineCheck s'))
        else if interruptPending s' then .next (account s' none (takeInterrupt s')) else runFetched s') = coreStep s' := by
      rintro _ rfl
      rfl
    rw [hstep, ← hcore false hawake.symm, if_neg Bool.false_ne_true]
    refine ⟨fun hheld => ?mchk, fun hd hi hrequest => ?interrupt⟩
    case mchk =>
      have hpending : mchkPending s' = true := by
        simp only [mchkPending, s', hnative, Bool.not_false, Bool.true_and, Bool.or_eq_true]
        exact hheld
      rw [if_pos hpending]
      exact ⟨_, rfl, entered_takeException { s' with mchkIReq := false } .mchk (faultPc s) 0x500 _ rfl⟩
    case interrupt =>
      have hfree : ¬mchkPending s' = true := by
        simp only [mchkPending, s', hnative, hd, hi, Bool.or_self, Bool.and_false, Bool.false_eq_true, not_false_iff]
      have hpending : interruptPending s' = true := by
        simp only [interruptPending, s', hnative, Bool.not_false, Bool.true_and, bne_iff_ne]
        exact hrequest
      rw [if_neg hfree, if_pos hpending]
      exact ⟨_, rfl, entered_takeException s' .interrupt (faultPc s) 0x680 _ rfl⟩

end Sys2Proof.Machine
end


/-! # Settling O7, O8, O9 and O14: requests, the fetch, and the words that are no instruction -/

section

namespace Sys2Proof.Machine

/-! ### ISUM -/

theorem getLsbD_bitAt {n : Nat} (hn : n < 64) (b : Bool) (i : Nat) : (bitAt n b).getLsbD i = (decide (i = n) && b) := by
  rw [bitAt, BitVec.getLsbD_shiftLeft, getLsbD_ofBool]
  grind

/-- A bit of a mask of the bits `lo` to `hi`, for every position. -/
theorem getLsbD_of_mask {m : Word} {lo hi : Nat} (h : ∀ i : Fin 64, m.getLsbD i.val = decide (lo ≤ i.val ∧ i.val ≤ hi)) (hhi : hi < 64)
    (i : Nat) : m.getLsbD i = decide (lo ≤ i ∧ i ≤ hi) := by
  by_cases hi64 : i < 64
  · exact h ⟨i, hi64⟩
  · rw [BitVec.getLsbD_of_ge m i (by omega), eq_comm, decide_eq_false_iff_not]
    omega

theorem getLsbD_interruptRequests (s : State) (i : Nat) : (interruptRequests s).getLsbD i =
    (decide (33 ≤ i) && s.irqPins.getLsbD (i - 33) || decide (i = 32) && s.slReq || decide (i = 31) && s.crReq ||
      decide (i = 30) && s.pc1Req || decide (i = 29) && s.pc0Req || s.sirr.getLsbD i && decide (14 ≤ i ∧ i ≤ 28)) := by
  have hmask := getLsbD_of_mask (m := 0x1FFFC000) (lo := 14) (hi := 28) (by decide) (by norm_num) i
  have hpins : (s.irqPins.setWidth 64 <<< 33).getLsbD i = (decide (33 ≤ i) && s.irqPins.getLsbD (i - 33)) := by
    rw [BitVec.getLsbD_shiftLeft, BitVec.getLsbD_setWidth]
    grind
  simp only [interruptRequests, BitVec.getLsbD_or, BitVec.getLsbD_and, hpins, hmask, getLsbD_bitAt (show 32 < 64 by norm_num),
    getLsbD_bitAt (show 31 < 64 by norm_num), getLsbD_bitAt (show 30 < 64 by norm_num), getLsbD_bitAt (show 29 < 64 by norm_num)]

theorem getLsbD_isum (s : State) (i : Nat) : (isum s).getLsbD i =
    ((interruptRequests s).getLsbD i && s.ierCm.getLsbD i && decide (14 ≤ i ∧ i ≤ 38) || decide (i = 3) && astPending s 0 ||
      decide (i = 4) && astPending s 1 || decide (i = 9) && astPending s 2 || decide (i = 10) && astPending s 3) := by
  have hmask := getLsbD_of_mask (m := 0x0000007FFFFFC000) (lo := 14) (hi := 38) (by decide) (by norm_num) i
  simp only [isum, BitVec.getLsbD_or, BitVec.getLsbD_and, hmask, getLsbD_bitAt (show 3 < 64 by norm_num),
    getLsbD_bitAt (show 4 < 64 by norm_num), getLsbD_bitAt (show 9 < 64 by norm_num), getLsbD_bitAt (show 10 < 64 by norm_num)]

/-- Settles O7. -/
theorem isumCollectsTheEnabledRequests : Obligations.IsumCollectsTheEnabledRequests := by
  unfold Obligations.IsumCollectsTheEnabledRequests
  intro s
  simp only [List.forall_mem_cons (l := _ :: _), List.forall_mem_singleton, getLsbD_isum, getLsbD_interruptRequests]
  refine ⟨fun n hn => ?pins, ?sl, ?cr, ?pc1, ?pc0, fun n hlow hhigh => ?software, ?ast, fun n hn hout => ?others⟩
  case pins => grind
  case software => grind
  case ast => refine ⟨?_, ?_, ?_, ?_⟩ <;> simp [astPending]
  case others => grind
  all_goals simp

/-! ### Physical addresses -/

/-- An entry's page frame above the bits of its group, the address below them (R304). -/
theorem getLsbD_tbPhys (e : TbEntry) (va : Word) {b : Nat} (hb : b < 44) : (tbPhys e va).getLsbD b =
    if b < 13 + 3 * e.gh.toNat then va.getLsbD b else e.pfn.getLsbD (b - 13) := by
  have hlow : (BitVec.ofNat 44 (2 ^ (13 + 3 * e.gh.toNat) - 1)).getLsbD b = decide (b < 13 + 3 * e.gh.toNat) := by
    rw [BitVec.getLsbD_ofNat, Nat.testBit_two_pow_sub_one, decide_eq_true hb, Bool.true_and]
  have hpfn : (e.pfn ++ 0#13 : PhysAddr).getLsbD b = if b < 13 then false else e.pfn.getLsbD (b - 13) := by
    rw [BitVec.getLsbD_append]
    grind
  simp only [tbPhys, BitVec.getLsbD_or, BitVec.getLsbD_and, BitVec.getLsbD_not, BitVec.getLsbD_setWidth, hlow, hpfn]
  grind

/-- Every superpage form passes the low 30 bits of the address through (R302). -/
theorem getLsbD_superpage {spe : BitVec 3} {va : Word} {pa : PhysAddr} (h : superpage spe va = some pa) {b : Nat} (hb : b < 30) :
    pa.getLsbD b = va.getLsbD b := by
  unfold superpage at h
  split at h
  · obtain rfl := Option.some.inj h
    rw [BitVec.getLsbD_setWidth, decide_eq_true (by omega), Bool.true_and]
  split at h
  · obtain rfl := Option.some.inj h
    rw [BitVec.getLsbD_signExtend]
    grind
  split at h
  · obtain rfl := Option.some.inj h
    grind
  · cases h

/-- A fetch stays at its place in the page. -/
theorem getLsbD_translateFetch {s : State} {va : Word} {a : FetchAddr} (h : translateFetch s va = .ok a) {b : Nat} (hb : b < 13) :
    a.pa.getLsbD b = va.getLsbD b := by
  unfold translateFetch at h
  split at h
  · obtain rfl := Except.ok.inj h
    rw [BitVec.getLsbD_setWidth, decide_eq_true (by omega), Bool.true_and]
  split at h
  · next hsuper =>
    split at h
    · obtain rfl := Except.ok.inj h
      exact getLsbD_superpage hsuper (by omega)
    · cases h
  split at h
  · cases h
  · cases h
  · split at h
    · obtain rfl := Except.ok.inj h
      rw [getLsbD_tbPhys _ _ (by omega), if_pos (by omega)]
    · cases h

/-! ### The faults of a fetch -/

theorem fetch_checked {s : State} (hready : s.palMode = true ∨ s.itbInit = true) (hsign : signOk (s.iCtl.getLsbD 15) s.pc = true) :
    fetch s = fetchChecked s := by
  rw [fetch, if_pos hsign, if_pos (by rwa [Bool.or_eq_true])]

theorem fetchChecked_hit {s : State} {b : IcacheBlock} (hb : s.icache.find? (icacheHits s s.pc) = some b) :
    fetchChecked s = if s.palMode || b.re.getLsbD (currentMode s).toNat then .word (blockWord b s.pc) s else .trap (iacvTrap s false) := by
  rw [fetchChecked, hb]

theorem fetchChecked_miss {s : State} (hmiss : s.icache.find? (icacheHits s s.pc) = none) :
    (∀ a, translateFetch s s.pc = .ok a → inIoSpace a.pa = false →
      fetchChecked s = .word (blockWord (fillBlock s s.pc a) s.pc) (installBlock s (fillBlock s s.pc a))) ∧
    (translateFetch s s.pc = .error .violation → fetchChecked s = .trap (iacvTrap s false)) ∧
    (translateFetch s s.pc = .error .miss → fetchChecked s = .trap (itbMissTrap s)) := by
  refine ⟨fun a ha hmem => ?_, fun h => ?_, fun h => ?_⟩
  · rw [fetchChecked, hmiss, ha]
    exact if_neg (by rw [hmem]; exact Bool.false_ne_true)
  · rw [fetchChecked, hmiss, h]
  · rw [fetchChecked, hmiss, h]

/-- In native mode a superpage address is for kernel mode only. -/
theorem translateFetch_superpage {s : State} {va : Word} {pa : PhysAddr} (hnative : s.palMode = false)
    (hpa : superpage (s.iCtl.extractLsb' 3 3) va = some pa) :
    translateFetch s va = if currentMode s = 0 then .ok { pa := pa, asm := true, re := 1 } else .error .violation := by
  rw [translateFetch, hnative, if_neg Bool.false_ne_true, hpa]

/-- Outside the superpages the one ITB entry that matches translates. -/
theorem translateFetch_itb {s : State} {va : Word} (hnative : s.palMode = false)
    (hnone : superpage (s.iCtl.extractLsb' 3 3) va = none) :
    (s.itb.filter (fun e => tbHits e (currentAsn s) va) = [] → translateFetch s va = .error .miss) ∧
    ∀ e, s.itb.filter (fun e => tbHits e (currentAsn s) va) = [e] → translateFetch s va =
      if e.re.getLsbD (currentMode s).toNat then .ok { pa := tbPhys e va, asm := e.asm, re := e.re } else .error .violation := by
  refine ⟨fun h => ?_, fun e h => ?_⟩
  all_goals
    rw [translateFetch, hnative, if_neg Bool.false_ne_true, hnone, lookupItb, h]
    rfl

theorem iacvTrap_enters (s : State) (overflow : Bool) :
    Entered s .iacv 0x480 (faultPc s) (iacvTrap s overflow) ∧ (iacvTrap s overflow).excSum.badIva = false ∧
      (iacvTrap s overflow).excSum.pcOvfl = overflow :=
  ⟨entered_takeException s .iacv (faultPc s) 0x480 _ rfl, rfl, rfl⟩

theorem getLsbD_mergeMask (a b m : Word) (i : Nat) :
    (mergeMask a m b).getLsbD i = if m.getLsbD i then b.getLsbD i else a.getLsbD i := by
  rw [mergeMask]
  grind

theorem mergeMask_and (a b m : Word) : mergeMask a m b &&& m = b &&& m := by
  rw [mergeMask]
  ext i hi
  simp only [BitVec.getElem_and, BitVec.getElem_or, BitVec.getElem_not]
  grind

/-- BAD_IVA: VA holds the target but for bit 0, EXC_ADDR the mode in bit 0 and zero in bit 1. -/
theorem badTargetTrap_enters (s : State) :
    ∃ va ea, Entered { s with va := va } .iacv 0x480 ea (badTargetTrap s) ∧ (badTargetTrap s).excSum.badIva = true ∧
      (badTargetTrap s).excSum.pcOvfl = false ∧ va &&& ~~~1#64 = s.pc &&& ~~~1#64 ∧
      ea.getLsbD 0 = s.palMode ∧ ea.getLsbD 1 = false := by
  refine ⟨mergeMask (Config.freeQuad s.free) (~~~1#64) s.pc, mergeMask (Config.freeQuad s.free) 3 (ofBool s.palMode),
    ?_, rfl, rfl, ?_, ?_, ?_⟩
  · exact ⟨rfl, rfl, entryPc_eq _ _, rfl, rfl⟩
  · exact mergeMask_and _ _ _
  · rw [getLsbD_mergeMask, if_pos (by decide), getLsbD_ofBool]
    simp
  · rw [getLsbD_mergeMask, if_pos (by decide), getLsbD_ofBool]
    simp

/-- Settles O9: the sign check, the block that hits, the superpage and the ITB each deny in one way. -/
theorem fetchFaults : Obligations.FetchFaults := by
  unfold Obligations.FetchFaults
  refine ⟨fun s hnative hinit hsign => ?native, fun s hsign hjump => ?overflow, fun s hsign hjump => ?target⟩
  case native =>
    rw [fetch_checked (.inr hinit) hsign]
    refine ⟨fun b hb hdenied => ?hit, fun hmiss pa hpa huser => ?superpage, fun hmiss hnone => ⟨fun hempty => ?missing, fun e he hdenied => ?denied⟩⟩
    case hit =>
      rw [fetchChecked_hit hb, hnative, hdenied, Bool.or_self, if_neg Bool.false_ne_true]
      exact ⟨_, rfl, iacvTrap_enters s false⟩
    case superpage =>
      have hviolation := (translateFetch_superpage hnative hpa).trans (if_neg huser)
      exact ⟨_, (fetchChecked_miss hmiss).2.1 hviolation, iacvTrap_enters s false⟩
    case missing =>
      have hitb := (translateFetch_itb hnative hnone).1 hempty
      exact ⟨_, (fetchChecked_miss hmiss).2.2 hitb, entered_takeException s .itbMiss (faultPc s) 0x580 _ rfl⟩
    case denied =>
      have hviolation := ((translateFetch_itb hnative hnone).2 e he).trans (if_neg (by rw [hdenied]; exact Bool.false_ne_true))
      exact ⟨_, (fetchChecked_miss hmiss).2.1 hviolation, iacvTrap_enters s false⟩
  case overflow =>
    refine ⟨iacvTrap s true, ?_, iacvTrap_enters s true⟩
    rw [fetch, hsign, hjump, if_neg Bool.false_ne_true, if_neg Bool.false_ne_true]
  case target =>
    obtain ⟨va, ea, hentered⟩ := badTargetTrap_enters s
    refine ⟨badTargetTrap s, va, ea, ?_, hentered⟩
    rw [fetch, hsign, hjump, if_neg Bool.false_ne_true, if_pos rfl]

/-! ### The words of a block -/

theorem toNat_clearLow (pa : PhysAddr) (n : Nat) : (pa &&& BitVec.allOnes 44 <<< n).toNat = pa.toNat / 2 ^ n * 2 ^ n := by
  have hshift : pa &&& BitVec.allOnes 44 <<< n = (pa >>> n) <<< n := by
    refine BitVec.eq_of_getLsbD_eq fun i hi => ?_
    rw [BitVec.getLsbD_and, BitVec.getLsbD_shiftLeft, BitVec.getLsbD_allOnes, BitVec.getLsbD_shiftLeft, BitVec.getLsbD_ushiftRight,
      decide_eq_true hi, Bool.true_and, decide_eq_true (show i - n < 44 by omega), Bool.and_true, Bool.and_comm]
    by_cases hin : i < n
    · rw [decide_eq_true hin]
      rfl
    · rw [Nat.add_sub_cancel' (Nat.le_of_not_lt hin)]
  have hle : pa.toNat / 2 ^ n * 2 ^ n ≤ pa.toNat := Nat.div_mul_le_self _ _
  rw [hshift, BitVec.toNat_shiftLeft, BitVec.toNat_ushiftRight, Nat.shiftLeft_eq, Nat.shiftRight_eq_div_pow,
    Nat.mod_eq_of_lt (by omega)]

/-- The instruction at an address is word VA[5:2] of the block of its physical address. -/
theorem toNat_longAddr {pa : PhysAddr} {va : Word} (h : ∀ b < 13, pa.getLsbD b = va.getLsbD b) :
    (pa &&& ~~~3#44).toNat = (pa &&& ~~~63#44).toNat + 4 * (va.extractLsb' 2 4).toNat := by
  have hword : pa.extractLsb' 2 4 = va.extractLsb' 2 4 := by
    ext i hi
    rw [BitVec.getElem_extractLsb', BitVec.getElem_extractLsb', h _ (by omega)]
  have h3 : ~~~3#44 = BitVec.allOnes 44 <<< 2 := by decide
  have h63 : ~~~63#44 = BitVec.allOnes 44 <<< 6 := by decide
  rw [h3, h63, toNat_clearLow, toNat_clearLow, ← hword, BitVec.extractLsb'_toNat, Nat.shiftRight_eq_div_pow]
  omega

theorem getD_readWords (m : Memory) (a : Nat) {n k : Nat} (hk : k < n) :
    (readWords m a n).getD k 0 = longOf (m.read (a + 4 * k) 4) := by
  induction n generalizing a k with
  | zero => omega
  | succ n ih =>
    cases k with
    | zero => rfl
    | succ k =>
      rw [readWords, List.getD_cons_succ, ih (a + 4) (by omega)]
      congr 2
      omega

theorem byte_longOf (v : Word) {i : Nat} (hi : i < 4) : (longOf v).extractLsb' (8 * i) 8 = byteOf v i := by
  ext j hj
  simp only [longOf, byteOf, BitVec.getElem_extractLsb', BitVec.getLsbD_extractLsb']
  grind

/-- Each byte of a fill is the byte of memory at its place, ones where memory is absent. -/
theorem byte_fillWords {s : State} {pa : PhysAddr} {byte : Nat → Byte}
    (hbyte : ∀ a, byte a = if absent s pa then 0xFF else s.mem.readByte a) {k i : Nat} (hk : k < 16) (hi : i < 4) :
    ((fillWords s pa).getD k 0).extractLsb' (8 * i) 8 = byte ((pa &&& ~~~63#44).toNat + (4 * k + i)) := by
  rw [hbyte, fillWords]
  split
  · rw [List.getD_replicate _ hk]
    interval_cases i <;> decide
  · rw [getD_readWords _ _ hk, byte_longOf _ hi, byteOf_read _ _ _ (by norm_num) _ (by omega), if_pos hi, Nat.add_assoc]

/-! ### The block that a fill brings in -/

/-- The new block in its place. -/
def placedBlock (s : State) (b : IcacheBlock) : IcacheBlock :=
  { b with way := fillWay s b ((Config.freeQuad s.free).getLsbD 0) }

theorem installBlock_icache (s : State) (b : IcacheBlock) : (installBlock s b).icache =
    placedBlock s b :: s.icache.filter (fun d => !samePlace (placedBlock s b) d) := rfl

/-- The filled block hits the address that it was filled for. -/
theorem find_installBlock (s : State) (a : FetchAddr) : (installBlock s (fillBlock s s.pc a)).icache.find?
    (icacheHits (installBlock s (fillBlock s s.pc a)) s.pc) = some (placedBlock s (fillBlock s s.pc a)) := by
  rw [installBlock_icache, List.find?_cons_of_pos]
  simp [icacheHits, placedBlock, fillBlock, installBlock, currentAsn]

theorem mem_installBlock {s : State} {b c : IcacheBlock} (h : c ∈ (installBlock s b).icache) : c = placedBlock s b ∨ c ∈ s.icache := by
  rw [installBlock_icache, List.mem_cons] at h
  exact h.imp_right fun h => (List.mem_filter.1 h).1

/-- Only a block in the place of the new one leaves. -/
theorem mem_installBlock_of_apart {s : State} {b c : IcacheBlock} (hc : c ∈ s.icache)
    (h : c.way ≠ (placedBlock s b).way ∨ icacheIndex c ≠ icacheIndex (placedBlock s b)) : c ∈ (installBlock s b).icache := by
  rw [installBlock_icache]
  refine List.mem_cons_of_mem _ (List.mem_filter.2 ⟨hc, ?_⟩)
  rw [samePlace, Bool.not_eq_true', Bool.and_eq_false_iff, beq_eq_false_iff_ne, beq_eq_false_iff_ne]
  exact h.imp Ne.symm Ne.symm

/-- With IC_EN not zero the new block stands in an enabled set. -/
theorem wayEnabled_placedBlock {s : State} (b : IcacheBlock) (h : s.iCtl.extractLsb' 1 2 ≠ 0#2) :
    s.iCtl.getLsbD (if (placedBlock s b).way then 2 else 1) = true := by
  refine wayEnabled_fillWay (s := s) ?_ b _
  by_contra hoff
  rw [not_or, Bool.not_eq_true, Bool.not_eq_true] at hoff
  obtain ⟨h1, h2⟩ : s.iCtl.getLsbD 1 = false ∧ s.iCtl.getLsbD 2 = false := hoff
  refine h ?_
  refine BitVec.eq_of_getLsbD_eq fun i hi => ?_
  interval_cases i
  · rw [BitVec.getLsbD_extractLsb', h1]
    rfl
  · rw [BitVec.getLsbD_extractLsb', h2]
    rfl

/-- The three translations of a fetch that the statement of O8 lists. -/
theorem translateFetch_of_listed {s : State} {pa : PhysAddr} {asm : Bool} {re : BitVec 4}
    (h : s.palMode = true ∧ pa = s.pc.setWidth 44 ∧ asm = true ∧ re = 0xF ∨
      s.palMode = false ∧ currentMode s = 0 ∧ superpage (s.iCtl.extractLsb' 3 3) s.pc = some pa ∧ asm = true ∧ re = 1 ∨
      s.palMode = false ∧ superpage (s.iCtl.extractLsb' 3 3) s.pc = none ∧
        (∃ e, s.itb.filter (fun e => tbHits e (currentAsn s) s.pc) = [e] ∧ e.re.getLsbD (currentMode s).toNat = true ∧
          pa = tbPhys e s.pc ∧ asm = e.asm ∧ re = e.re)) :
    translateFetch s s.pc = .ok { pa := pa, asm := asm, re := re } := by
  obtain ⟨hpal, rfl, rfl, rfl⟩ | ⟨hnative, hkernel, hpa, rfl, rfl⟩ | ⟨hnative, hnone, e, he, hallowed, rfl, rfl, rfl⟩ := h
  · rw [translateFetch, if_pos hpal]
  · rw [translateFetch_superpage hnative hpa, if_pos hkernel]
  · rw [(translateFetch_itb hnative hnone).2 e he, if_pos hallowed]

/-- Settles O8. -/
theorem fetchReadsTheIcacheThenMemory : Obligations.FetchReadsTheIcacheThenMemory := by
  unfold Obligations.FetchReadsTheIcacheThenMemory
  intro s hready hsign
  rw [fetch_checked hready hsign]
  refine ⟨fun b hb hallowed => ?hit, fun hmiss pa asm re hlisted hmem byte hbyte => ?fill⟩
  case hit => rw [fetchChecked_hit hb, if_pos (by rwa [Bool.or_eq_true]), blockWord]
  case fill =>
    have ha := translateFetch_of_listed hlisted
    have hplace := toNat_longAddr fun b hb => getLsbD_translateFetch ha hb
    have hindex : (s.pc.extractLsb' 2 4).toNat < 16 := (s.pc.extractLsb' 2 4).isLt
    refine ⟨_, _, _, (fetchChecked_miss hmiss).1 _ ha hmem, fun i hi => ?_, rfl, find_installBlock s _, rfl, rfl, rfl, rfl, rfl,
      fun k i hk hi => byte_fillWords hbyte hk hi, wayEnabled_placedBlock _, fun c hc => mem_installBlock hc,
      fun c hc hapart => mem_installBlock_of_apart hc hapart⟩
    rw [hplace, Nat.add_assoc]
    exact byte_fillWords hbyte hindex hi

end Sys2Proof.Machine

/-! ### The words that the decoder rejects -/

namespace Sys2Proof

/-- A code is in no row of a table. -/
theorem lookup_eq_none {n : Nat} {β : Type} (l : List (BitVec n × β)) (a : BitVec n) :
    l.lookup a = none ↔ a.toNat ∉ l.map fun p => p.1.toNat := by
  rw [List.lookup_eq_none_iff, List.mem_map, not_exists]
  refine forall_congr' fun p => ?_
  rw [not_and, bne_iff_ne, ne_eq, ← BitVec.toNat_inj, eq_comm (a := a.toNat)]

theorem decodeFp_error {t : FpTable} {miss r : Reject} {w : BitVec 32} :
    decodeFp t miss w = .error r ↔ r = miss ∧ (fpFunction w).toNat ∉ t.map fun p => p.1.toNat := by
  rw [← lookup_eq_none, decodeFp]
  split
  · next k hk => exact ⟨fun h => (by cases h), fun h => absurd (hk.symm.trans h.2) (Option.some_ne_none k)⟩
  · next hk => exact ⟨fun h => ⟨(Except.error.inj h).symm, hk⟩, fun h => by rw [h.1]⟩

theorem decodeOpr_error {t : OprTable} {miss r : Reject} {w : BitVec 32} :
    decodeOpr t miss w = .error r ↔ r = miss ∧ (oprFunction w).toNat ∉ t.map fun p => p.1.toNat := by
  rw [← lookup_eq_none, decodeOpr]
  split
  · next k hk => exact ⟨fun h => (by cases h), fun h => absurd (hk.symm.trans h.2) (Option.some_ne_none k)⟩
  · next hk => exact ⟨fun h => ⟨(Except.error.inj h).symm, hk⟩, fun h => by rw [h.1]⟩

/-- The opcodes with function codes are the only ones that have words without meaning. -/
def RejectsIn (w : BitVec 32) (r : Reject) : Nat → Prop
  | 0x10 => r = .unlisted 0x10
  | 0x11 => r = .unlisted 0x11
  | 0x12 => r = .unlisted 0x12
  | 0x13 => r = .unlisted 0x13
  | 0x14 => decodeFp itfpTable .opcdec w = .error r
  | 0x15 => r = .unlisted 0x15
  | 0x16 => decodeFlti w = .error r
  | 0x17 => r = .unlisted 0x17
  | 0x18 => r = .unlisted 0x18
  | 0x1C => decodeFpti w = .error r
  | _ => False

theorem rejectsIn_of_decode {w : BitVec 32} {r : Reject} (h : decode w = .error r) : RejectsIn w r (opcodeOf w).toNat := by
  unfold decode at h
  split at h
  case h_17 hop | h_18 hop | h_19 hop | h_20 hop => rw [hop]; exact (decodeOpr_error.1 h).1
  case h_21 hop | h_23 hop | h_29 hop => rw [hop]; exact h
  case h_22 hop | h_24 hop => rw [hop]; exact (decodeFp_error.1 h).1
  case h_25 hop =>
    rw [hop]
    unfold decodeMisc at h
    split at h
    · cases h
    · exact (Except.error.inj h).symm
  case h_27 hop =>
    unfold decodeJump at h
    split at h <;> cases h
  all_goals cases h

/-- The codes of opcode 14 (R345 to R348). -/
theorem itfpTable_codes (n : Nat) : n ∈ itfpTable.map (fun p => p.1.toNat) ↔ n ∈
    [0x004, 0x00A, 0x00B, 0x014, 0x024, 0x02A, 0x02B, 0x04B, 0x06B, 0x08A, 0x08B, 0x0AA, 0x0AB, 0x0CB, 0x0EB,
      0x10A, 0x10B, 0x12A, 0x12B, 0x14B, 0x16B, 0x18A, 0x18B, 0x1AA, 0x1AB, 0x1CB, 0x1EB, 0x40A, 0x42A, 0x48A,
      0x4AA, 0x50A, 0x50B, 0x52A, 0x52B, 0x54B, 0x56B, 0x58A, 0x58B, 0x5AA, 0x5AB, 0x5CB, 0x5EB, 0x70B, 0x72B,
      0x74B, 0x76B, 0x78B, 0x7AB, 0x7CB, 0x7EB] :=
  ⟨fun h => (show itfpTable.map (fun p => p.1.toNat) ⊆ _ by decide) h,
    fun h => (show _ ⊆ itfpTable.map (fun p => p.1.toNat) by decide) h⟩

/-- No listed code of opcode 16 names the extended-precision source field. -/
theorem fltiTable_no_xFloating : ∀ n ∈ fltiTable.map (fun p => p.1.toNat), n / 16 % 4 ≠ 1 := by
  have hall : (fltiTable.map fun p => p.1.toNat).all (fun n => decide (n / 16 % 4 ≠ 1)) = true := by
    simp only [fltiTable, List.map_append, List.all_append, Bool.and_eq_true]
    and_intros <;> rfl
  exact fun n hn => of_decide_eq_true (List.all_eq_true.1 hall n hn)

theorem decodeFlti_opcdec (w : BitVec 32) : decodeFlti w = .error .opcdec ↔ (w.extractLsb' 9 2).toNat = 1 := by
  have hsource : (w.extractLsb' 9 2).toNat = (fpFunction w).toNat / 16 % 4 := by
    rw [fpFunction, BitVec.extractLsb'_toNat, BitVec.extractLsb'_toNat, Nat.shiftRight_eq_div_pow, Nat.shiftRight_eq_div_pow]
    omega
  have hnames : namesXFloating w = true ↔ (w.extractLsb' 9 2).toNat = 1 := by
    rw [namesXFloating, beq_iff_eq, ← BitVec.toNat_inj]
    rfl
  rw [decodeFlti, decodeFp_error]
  by_cases hx : namesXFloating w = true
  · rw [if_pos hx, ← hnames]
    exact ⟨fun _ => hx, fun _ => ⟨rfl, fun hmem => fltiTable_no_xFloating _ hmem (hsource ▸ hnames.1 hx)⟩⟩
  · rw [if_neg hx, ← hnames]
    exact ⟨fun h => (nomatch h.1), fun h => absurd h hx⟩

theorem decodeFpti_opcdec (w : BitVec 32) : decodeFpti w = .error .opcdec ↔
    (oprFunction w).toNat ∉ [0x00, 0x01, 0x30, 0x31, 0x32, 0x33, 0x34, 0x35, 0x36, 0x37, 0x38, 0x39, 0x3A, 0x3B, 0x3C, 0x3D, 0x3E, 0x3F] ∧
      (fpFunction w).toNat ∉ [0x070, 0x078] := by
  have hcodes : fptiTable.map (fun p => p.1.toNat) =
    [0x00, 0x01, 0x30, 0x31, 0x32, 0x33, 0x34, 0x35, 0x36, 0x37, 0x38, 0x39, 0x3A, 0x3B, 0x3C, 0x3D, 0x3E, 0x3F] := rfl
  have hftoi : ftoiTable.map (fun p => p.1.toNat) = [0x070, 0x078] := rfl
  have hlow : (oprFunction w).toNat = (fpFunction w).toNat % 128 := by
    rw [oprFunction, fpFunction, BitVec.extractLsb'_toNat, BitVec.extractLsb'_toNat, Nat.shiftRight_eq_div_pow]
    omega
  rw [decodeFpti, ← hcodes, ← hftoi]
  split
  · next h =>
    rw [decodeFp_error]
    have hopr : (oprFunction w).toNat ∉ fptiTable.map fun p => p.1.toNat := by obtain h | h := h <;> rw [h] <;> decide
    exact ⟨fun h => ⟨hopr, h.2⟩, fun h => ⟨rfl, h.2⟩⟩
  · next h =>
    rw [decodeOpr_error]
    have hfp : (fpFunction w).toNat ∉ ftoiTable.map fun p => p.1.toNat := by
      intro hmem
      obtain hfp | hfp : (fpFunction w).toNat = 0x70 ∨ (fpFunction w).toNat = 0x78 := by simpa [hftoi] using hmem
      · exact h (.inl (BitVec.eq_of_toNat_eq (by rw [hlow, hfp]; rfl)))
      · exact h (.inr (BitVec.eq_of_toNat_eq (by rw [hlow, hfp]; rfl)))
    exact ⟨fun h => ⟨h.2, hfp⟩, fun h => ⟨rfl, h.1⟩⟩

theorem decode_eq_opcdec_iff (w : BitVec 32) : decode w = .error .opcdec ↔
    ((opcodeOf w).toNat = 0x14 ∧ decodeFp itfpTable .opcdec w = .error .opcdec) ∨
      ((opcodeOf w).toNat = 0x16 ∧ decodeFlti w = .error .opcdec) ∨
      ((opcodeOf w).toNat = 0x1C ∧ decodeFpti w = .error .opcdec) := by
  constructor
  · intro h
    have hrejects := rejectsIn_of_decode h
    generalize (opcodeOf w).toNat = n at hrejects
    unfold RejectsIn at hrejects
    split at hrejects
    case h_5 => exact .inl ⟨rfl, hrejects⟩
    case h_7 => exact .inr (.inl ⟨rfl, hrejects⟩)
    case h_10 => exact .inr (.inr ⟨rfl, hrejects⟩)
    all_goals cases hrejects
  · rintro (⟨hop, h⟩ | ⟨hop, h⟩ | ⟨hop, h⟩)
    all_goals
      rw [← h]
      unfold decode
      rw [hop]
      rfl

theorem opcodeOf_of_unlisted {w : BitVec 32} {op : BitVec 6} (h : decode w = .error (.unlisted op)) :
    op = opcodeOf w ∧ op.toNat ∈ [0x10, 0x11, 0x12, 0x13, 0x15, 0x16, 0x17, 0x18] := by
  have hrejects := rejectsIn_of_decode h
  generalize hop : (opcodeOf w).toNat = n at hrejects
  unfold RejectsIn at hrejects
  split at hrejects
  case h_5 => exact nomatch (decodeFp_error.1 hrejects).1
  case h_7 =>
    rw [decodeFlti, decodeFp_error] at hrejects
    obtain ⟨hrejects, -⟩ := hrejects
    split at hrejects
    · cases hrejects
    · cases hrejects
      exact ⟨(opcodeOf_eq_of_toNat hop).symm, by decide⟩
  case h_10 =>
    unfold decodeFpti at hrejects
    split at hrejects
    · exact nomatch (decodeFp_error.1 hrejects).1
    · exact nomatch (decodeOpr_error.1 hrejects).1
  case h_11 => exact hrejects.elim
  all_goals
    cases hrejects
    exact ⟨(opcodeOf_eq_of_toNat hop).symm, by decide⟩

end Sys2Proof

namespace Sys2Proof.Machine

theorem runWord_of_error {pre t : State} {w : BitVec 32} {e : Reject} (h : decode w = .error e) : runWord pre w t =
    match e with
    | .opcdec => .next (account pre (some w) (opcdecTrap t))
    | .unlisted op => .refused (.unlistedFunction op) := by
  have hexec : execWord w t = .error e := by rw [execWord, h, execDecoded]
  rw [runWord, hexec]
  cases e <;> rfl

/-- Settles O14. -/
theorem wordsThatAreNotInstructions : Obligations.WordsThatAreNotInstructions := by
  unfold Obligations.WordsThatAreNotInstructions
  refine ⟨fun w => ?_, fun w op h => opcodeOf_of_unlisted h, ?_⟩
  · rw [decode_eq_opcdec_iff, decodeFp_error, itfpTable_codes, decodeFlti_opcdec, decodeFpti_opcdec]
    simp only [true_and]
    rfl
  · intro s t rest w henv s' hawake hmchk hint hfetch
    have hstep : step s = runWord s' w (beginInstr t) := step_of_fetch henv hawake hmchk hint hfetch
    exact ⟨fun h => ⟨_, hstep.trans (runWord_of_error h), entered_opcdecTrap (beginInstr t)⟩,
      fun op h => hstep.trans (runWord_of_error h)⟩

end Sys2Proof.Machine
end


/-! # Settling O34, O51 and O53: data translation, the miscellaneous instructions and HW_RET -/

section

namespace Sys2Proof.Machine

/-! ### Data translation (spec/21_translation.md section 2) -/

theorem signOk_iff (va48 : Bool) (va : Word) : signOk va48 va = true ↔ va = (va.setWidth (if va48 then 48 else 43)).signExtend 64 := by
  cases va48 <;> exact beq_iff_eq (α := Word)

/-- The superpage regions by the numbers that R302 states. -/
theorem superpage_mCtl (s : State) (va : Word) : superpage (s.mCtl.extractLsb' 1 3) va =
    if s.mCtl.getLsbD 3 = true ∧ (va.extractLsb' 46 2).toNat = 2 then some (va.setWidth 44)
    else if s.mCtl.getLsbD 2 = true ∧ (va.extractLsb' 41 7).toNat = 0x7E then some ((va.setWidth 41).signExtend 44)
    else if s.mCtl.getLsbD 1 = true ∧ (va.extractLsb' 30 18).toNat = 0x3FFFE then some ((va.setWidth 30).setWidth 44)
    else none := by
  have hbit : ∀ i < 3, (s.mCtl.extractLsb' 1 3).getLsbD i = s.mCtl.getLsbD (1 + i) := fun i hi => by
    rw [BitVec.getLsbD_extractLsb', decide_eq_true hi, Bool.true_and]
  simp only [superpage, hbit 2 (by norm_num), hbit 1 (by norm_num), hbit 0 (by norm_num), Bool.and_eq_true, beq_iff_eq,
    ← BitVec.toNat_inj]
  rfl

/-- An address in an enabled superpage region: the regions are disjoint. -/
theorem superpage_of_region {s : State} {va : Word} {pa : PhysAddr}
    (h : s.mCtl.getLsbD 3 = true ∧ (va.extractLsb' 46 2).toNat = 2 ∧ pa = va.setWidth 44 ∨
      s.mCtl.getLsbD 2 = true ∧ (va.extractLsb' 41 7).toNat = 0x7E ∧ pa = (va.setWidth 41).signExtend 44 ∨
      s.mCtl.getLsbD 1 = true ∧ (va.extractLsb' 30 18).toNat = 0x3FFFE ∧ pa = (va.setWidth 30).setWidth 44) :
    superpage (s.mCtl.extractLsb' 1 3) va = some pa := by
  have h46 : (va.extractLsb' 46 2).toNat = va.toNat / 2 ^ 46 % 4 := by rw [BitVec.extractLsb'_toNat, Nat.shiftRight_eq_div_pow]
  have h41 : (va.extractLsb' 41 7).toNat = va.toNat / 2 ^ 41 % 128 := by rw [BitVec.extractLsb'_toNat, Nat.shiftRight_eq_div_pow]
  have h30 : (va.extractLsb' 30 18).toNat = va.toNat / 2 ^ 30 % 2 ^ 18 := by
    rw [BitVec.extractLsb'_toNat, Nat.shiftRight_eq_div_pow]
  rw [superpage_mCtl]
  obtain ⟨hon, hregion, rfl⟩ | ⟨hon, hregion, rfl⟩ | ⟨hon, hregion, rfl⟩ := h
  · rw [if_pos ⟨hon, hregion⟩]
  · rw [if_neg (by omega), if_pos ⟨hon, hregion⟩]
  · rw [if_neg (by omega), if_neg (by omega), if_pos ⟨hon, hregion⟩]

theorem tbHits_iff (e : TbEntry) (asn : BitVec 8) (va : Word) : tbHits e asn va = true ↔ EntryMatches e asn va := by
  have hgroup : sameGroup e.gh e.tag (vpnOf va) = true ↔
      e.tag.toNat / 2 ^ (3 * e.gh.toNat) = va.toNat / 2 ^ 13 % 2 ^ 35 / 2 ^ (3 * e.gh.toNat) := by
    rw [sameGroup, beq_iff_eq, ← BitVec.toNat_inj, BitVec.toNat_ushiftRight, BitVec.toNat_ushiftRight, vpnOf,
      BitVec.extractLsb'_toNat, Nat.shiftRight_eq_div_pow, Nat.shiftRight_eq_div_pow, Nat.shiftRight_eq_div_pow]
  rw [tbHits, Bool.and_eq_true, Bool.and_eq_true, Bool.or_eq_true, beq_iff_eq, hgroup, and_assoc]

/-- A list with one place that satisfies a test. -/
theorem filter_eq_singleton {α : Type} {p : α → Bool} {a : α} : ∀ {l : List α} {i : Nat}, l[i]? = some a → p a = true →
    (∀ j b, l[j]? = some b → p b = true → j = i) → l.filter p = [a]
  | [], _, h, _, _ => by simp at h
  | x :: l, 0, h, ha, honly => by
    obtain rfl : x = a := by simpa using h
    have hrest : l.filter p = [] := List.filter_eq_nil_iff.2 fun b hb hpb => by
      obtain ⟨j, hj⟩ := List.mem_iff_getElem?.1 hb
      exact absurd (honly (j + 1) b hj hpb) (Nat.succ_ne_zero j)
    rw [List.filter_cons_of_pos ha, hrest]
  | x :: l, i + 1, h, ha, honly => by
    have hx : ¬p x = true := fun hx => absurd (honly 0 x rfl hx) (Nat.succ_ne_zero i).symm
    rw [List.filter_cons_of_neg hx]
    exact filter_eq_singleton h ha fun j b hj hb => Nat.succ_injective (honly (j + 1) b hj hb)

/-- No entry of a bank matches. -/
theorem filter_tbHits_eq_nil {l : List DtbEntry} {asn : BitVec 8} {va : Word} (h : ∀ e ∈ l, ¬EntryMatches e.toTbEntry asn va) :
    l.filter (fun e => tbHits e.toTbEntry asn va) = [] :=
  List.filter_eq_nil_iff.2 fun e he hhit => h e he ((tbHits_iff _ _ _).1 hhit)

/-- One entry of a bank matches. -/
theorem filter_tbHits_eq_singleton {l : List DtbEntry} {asn : BitVec 8} {va : Word} {i : Nat} {e : DtbEntry} (hi : l[i]? = some e)
    (he : EntryMatches e.toTbEntry asn va) (honly : ∀ j b, l[j]? = some b → EntryMatches b.toTbEntry asn va → j = i) :
    l.filter (fun e => tbHits e.toTbEntry asn va) = [e] :=
  filter_eq_singleton hi ((tbHits_iff _ _ _).2 he) fun j b hj hb => honly j b hj ((tbHits_iff _ _ _).1 hb)

section
variable {s : State} {r : DataRef}

theorem translateData_superpage {pa : PhysAddr} (hsign : signOk (s.vaCtl.getLsbD 1) r.ea = true)
    (hpa : superpage (s.mCtl.extractLsb' 1 3) r.ea = some pa) :
    translateData s r = if r.mode = 0 then .ok pa else .error (.violation true false false) := by
  rw [translateData, if_pos hsign, hpa]

theorem translateData_dtb (hsign : signOk (s.vaCtl.getLsbD 1) r.ea = true)
    (hnone : superpage (s.mCtl.extractLsb' 1 3) r.ea = none) :
    (lookupDtb s r.ea = .ok none → translateData s r = .error .miss) ∧
      ∀ e, lookupDtb s r.ea = .ok (some e) → translateData s r = dtbPermits e r := by
  refine ⟨fun h => ?_, fun e h => ?_⟩
  all_goals rw [translateData, if_pos hsign, hnone, h]

end

/-- Settles O34. -/
theorem dataTranslation : Obligations.DataTranslation := by
  unfold Obligations.DataTranslation
  rintro s r k rfl
  rw [← signOk_iff, ne_eq, ← signOk_iff]
  refine ⟨fun hsign => if_neg hsign, fun hsign => ⟨fun pa hregion => ?super, fun h3 h2 h1 => ?dtb⟩⟩
  case super => exact translateData_superpage hsign (superpage_of_region hregion)
  case dtb =>
    have hnone : superpage (s.mCtl.extractLsb' 1 3) r.ea = none := by rw [superpage_mCtl, if_neg h3, if_neg h2, if_neg h1]
    obtain ⟨hmiss, hfound⟩ := translateData_dtb hsign hnone
    refine ⟨fun h0 h1 => hmiss ?_, ?_⟩
    · rw [lookupDtb, filter_tbHits_eq_nil h0, filter_tbHits_eq_nil h1]
      rfl
    · rintro i j e hi hj he0 he1 honly0 honly1 _ _ _ rfl rfl rfl
      have hlookup : lookupDtb s r.ea = .ok (some e) := by
        rw [lookupDtb, filter_tbHits_eq_singleton hi he0 honly0, filter_tbHits_eq_singleton hj he1 honly1]
        exact if_pos rfl
      rw [hfound e hlookup, dtbPermits]
      exact ⟨fun hdenied => if_pos hdenied, fun hallowed => ⟨tbPhys e.toTbEntry r.ea, if_neg (by rw [hallowed]; exact Bool.false_ne_true),
        fun b hb => getLsbD_tbPhys _ _ hb⟩⟩

/-! ### The instructions of opcode 18 (spec/47_misc.md) -/

theorem writeInt_setIntrFlag (s : State) (r : Reg) (v : Word) (b : Bool) :
    writeInt { s with intrFlag := b } r v = { writeInt s r v with intrFlag := b } := by
  have hslot : activeSlot { s with intrFlag := b } r = activeSlot s r := rfl
  unfold writeInt
  rw [hslot]
  split
  · rfl
  · split <;> rfl

/-- RC and RS read the interrupt flag and give it a new value (D28). -/
theorem completes_readFlag (s : State) (ra : Reg) (b : Bool) :
    Completes (.next (advance { writeInt s ra (ofBool s.intrFlag) with intrFlag := b }))
      (WroteInt { s with intrFlag := b } ra (if s.intrFlag then 1 else 0)) := by
  rw [← writeInt_setIntrFlag s]
  exact completes_next (wroteInt_advance _ _ _)

theorem scrambleQuads_frame (n : Nat) (pa : PhysAddr) (s : State) :
    scrambleQuads n pa s = { s with mem := (scrambleQuads n pa s).mem, free := (scrambleQuads n pa s).free } := by
  induction n generalizing pa s with
  | zero => rfl
  | succ n ih =>
    rw [scrambleQuads]
    exact ih _ _

/-- Open quadwords change no byte outside them. -/
theorem readByte_scrambleQuads (n : Nat) (pa : PhysAddr) (s : State) (hwf : s.mem.wf = true) (a : Nat)
    (hout : ∀ i < n, a < (pa + BitVec.ofNat 44 (8 * i)).toNat ∨ (pa + BitVec.ofNat 44 (8 * i)).toNat + 8 ≤ a) :
    (scrambleQuads n pa s).mem.readByte a = s.mem.readByte a := by
  induction n generalizing pa s with
  | zero => rfl
  | succ n ih =>
    have hhead : a < pa.toNat ∨ pa.toNat + 8 ≤ a := by simpa using hout 0 (Nat.succ_pos n)
    have hshift : ∀ i, pa + 8 + BitVec.ofNat 44 (8 * i) = pa + BitVec.ofNat 44 (8 * (i + 1)) := fun i => by
      rw [BitVec.add_assoc, Nat.mul_succ, Nat.add_comm, BitVec.ofNat_add]
      rfl
    rw [scrambleQuads, ih _ _ (Memory.wf_write hwf _ _ _) fun i hi => by rw [hshift]; exact hout (i + 1) (Nat.succ_lt_succ hi)]
    exact Memory.readByte_write_other hwf _ hhead

/-- WH64 leaves the other blocks of memory as they are. -/
theorem readByte_scrambleBlock {s : State} (hwf : s.mem.wf = true) (pa : PhysAddr) {a : Nat} (ha : a / 64 ≠ pa.toNat / 64) :
    (scrambleQuads 8 (pa &&& ~~~63#44) s).mem.readByte a = s.mem.readByte a := by
  have hblock : (pa &&& ~~~63#44).toNat = pa.toNat / 64 * 64 := by
    have hmask : ~~~63#44 = BitVec.allOnes 44 <<< 6 := by decide
    rw [hmask, toNat_clearLow]
    rfl
  have hlt := pa.isLt
  refine readByte_scrambleQuads 8 _ s hwf a fun i hi => ?_
  rw [BitVec.toNat_add, hblock, BitVec.toNat_ofNat]
  omega

section
variable {s : State} {ra rb : Reg} {pa : PhysAddr}

theorem exec_wh64 (hr : translateData s (writeHintRef s (readInt s rb)) = .ok pa) :
    exec (.wh64 ra rb) s = .next (advance (writeHint s pa)) := by
  show writeHintAt s (readInt s rb) = _
  rw [writeHintAt, hr]

theorem exec_wh64_denied {d : Denied} (hr : translateData s (writeHintRef s (readInt s rb)) = .error d) (hd : ∀ f, d ≠ .stop f) :
    exec (.wh64 ra rb) s = .next (advance s) := by
  show writeHintAt s (readInt s rb) = _
  rw [writeHintAt, hr]
  cases d with
  | stop f => exact absurd rfl (hd f)
  | miss | violation => rfl

theorem writeHint_memory (hio : inIoSpace pa = false) (habsent : absent s pa = false) : writeHint s pa =
    if s.writeMany.getLsbD 18 then scrambleQuads 8 (pa &&& ~~~63#44) { s with cached := dirtied s (blockOf pa) }
    else { s with cached := dirtied s (blockOf pa) } := by
  rw [writeHint, hio, habsent]
  exact if_neg Bool.false_ne_true

end

/-- WH64 (R731): its translation faults are suppressed, its block is Dirty. -/
theorem completes_wh64 (ra rb : Reg) (s : State) (r : DataRef) (hr : r = writeHintRef s (readInt s rb)) :
    (∀ acv fr fw, translateData s r = .error .miss ∨ translateData s r = .error (.violation acv fr fw) →
      Completes (exec (.wh64 ra rb) s) (OnlyPc s (s.pc + 4))) ∧
    ∀ pa : PhysAddr, translateData s r = .ok pa →
      (inIoSpace pa = true ∨ absent s pa = true → Completes (exec (.wh64 ra rb) s) (OnlyPc s (s.pc + 4))) ∧
      (inIoSpace pa = false → absent s pa = false → s.writeMany.getLsbD 18 = false →
        Completes (exec (.wh64 ra rb) s) (OnlyPc { s with cached := dirtied s (pa.extractLsb' 6 38) } (s.pc + 4))) ∧
      (inIoSpace pa = false → absent s pa = false → s.mem.wf = true → Completes (exec (.wh64 ra rb) s) fun t =>
        OnlyPc { s with mem := t.mem, free := t.free, cached := dirtied s (pa.extractLsb' 6 38) } (s.pc + 4) t ∧
        ∀ a, a / 64 ≠ pa.toNat / 64 → t.mem.readByte a = s.mem.readByte a) := by
  subst hr
  refine ⟨fun acv fr fw hdenied => ?denied, fun pa hpa => ?_⟩
  case denied =>
    obtain hmiss | hviolation := hdenied
    · rw [exec_wh64_denied hmiss fun _ => nofun]
      exact completes_next rfl
    · rw [exec_wh64_denied hviolation fun _ => nofun]
      exact completes_next rfl
  rw [exec_wh64 hpa]
  refine ⟨fun hnone => ?none, fun hio habsent hoff => ?kept, fun hio habsent hwf => ?scrambled⟩
  case none =>
    rw [writeHint, if_pos (by rwa [Bool.or_eq_true])]
    exact completes_next rfl
  case kept =>
    rw [writeHint_memory hio habsent, hoff]
    exact completes_next rfl
  case scrambled =>
    rw [writeHint_memory hio habsent]
    refine completes_next ⟨?_, fun a ha => ?_⟩
    · split
      · rw [scrambleQuads_frame]
        rfl
      · rfl
    · split
      · exact readByte_scrambleBlock (s := { s with cached := dirtied s (blockOf pa) }) hwf pa ha
      · rfl

/-- Settles O51. -/
theorem miscellaneousInstructions : Obligations.MiscellaneousInstructions := by
  unfold Obligations.MiscellaneousInstructions
  intro ra rb s
  have honly : ∀ i, exec i s = .next (advance s) → Completes (exec i s) (OnlyPc s (s.pc + 4)) := fun i hi => by
    rw [hi]
    exact completes_next rfl
  have hcode : ∀ (i : Instr) (d : Nat), encode i = packMem 0x18 ra rb (BitVec.ofNat 16 d) → d < 2 ^ 16 → MiscCode i d :=
    fun _ _ => miscCode_pack
  simp only [List.forall_mem_cons (l := _ :: _), List.forall_mem_singleton]
  refine ⟨⟨⟨?_, honly _ rfl⟩, ⟨?_, honly _ rfl⟩, ⟨?_, honly _ rfl⟩, ⟨?_, honly _ rfl⟩, ⟨?_, honly _ rfl⟩, ⟨?_, honly _ rfl⟩⟩,
    ?_, fun hfree => ?mb, fun hheld => ?mbHeld, ⟨?_, completes_next (wroteInt_advance s ra s.cc)⟩,
    ⟨?_, completes_readFlag s ra false⟩, ⟨?_, completes_readFlag s ra true⟩, ?_, completes_wh64 ra rb s⟩
  case mb =>
    refine honly _ ?_
    show execMb s = _
    rw [execMb, hfree, if_neg Bool.false_ne_true]
  case mbHeld =>
    show execMb s = _
    rw [execMb, if_pos hheld]
    rfl
  all_goals exact hcode _ _ rfl (by norm_num)

/-! ### HW_RET (spec/49_palcode_instr.md section 5) -/

theorem exec_hwRet {s : State} (h : palLegal s = true) (ra rb : Reg) (hint : BitVec 2) (stall : BitVec 1) (disp : BitVec 13) :
    exec (.hwRet ra rb hint stall disp) s = finishHwRet s ra (readInt s rb) stall := if_pos h

/-- Settles O53. -/
theorem hwRet : Obligations.HwRet := by
  unfold Obligations.HwRet
  intro ra rb hint stall disp s
  refine ⟨?_, fun hlegal hra => ?refused, fun hlegal hra u hu => ⟨fun hstall => ?plain, fun hstall => ?stall⟩⟩
  · exact opcode_packHwRet rfl
  case refused => rw [exec_hwRet hlegal, finishHwRet, if_neg hra]
  case plain =>
    rw [exec_hwRet hlegal, finishHwRet, if_pos hra, if_neg (by rw [hstall]; decide), hu]
    exact completes_next rfl
  case stall =>
    rw [exec_hwRet hlegal, finishHwRet, if_pos hra, if_pos hstall, hu]
    exact completes_next rfl

end Sys2Proof.Machine
end


/-! # Settling O36: other agents, probes, victims and the room in the caches -/

section

namespace Sys2Proof.Machine

/-! ### Events between two steps of the core -/

theorem step_of_event {s : State} {e : EnvEvent} {rest : List EnvEvent} (henv : s.env = e :: rest) (he : e ≠ .run) :
    step s = .next (deliver e { s with env := rest }) := by
  rw [step, runStep, henv]
  cases e with
  | run => exact absurd rfl he
  | _ => rfl

/-- What is lost with a block: its record, and the lock that is held on it. -/
theorem loseBlock_eq (s : State) (b : BitVec 38) : loseBlock s b = { s with
    cached := otherBlocks s b
    lockFlag := s.lockFlag && decide (s.lockBlock ≠ b)
    lockWatch := { s.lockWatch with stolen := s.lockWatch.stolen || (s.lockFlag && decide (s.lockBlock = b)) } } := by
  rw [loseBlock]
  by_cases hb : s.lockBlock = b
  · by_cases hf : s.lockFlag = true <;> simp [hb, hf]
  · simp [hb]

/-- The lock watch by what happened to the flag. -/
theorem lost_of_flag (held : Bool) (locked b : BitVec 38) :
    (held && !(held && decide (locked ≠ b))) = (held && decide (locked = b)) := by
  by_cases h : locked = b <;> cases held <;> simp [h]

/-- A store of another agent. -/
theorem completes_remoteWrite {s : State} {rest : List EnvEvent} {a : BitVec 43} {v : Byte} (henv : s.env = .remoteWrite a v :: rest)
    (habsent : absent s (a.setWidth 44) = false) (hwf : s.mem.wf = true) : Completes (step s) fun t =>
      (∀ b, t.mem.readByte b = if b = a.toNat then v else s.mem.readByte b) ∧
      t.cached = s.cached.filter (fun c => c.block != (a.setWidth 44).extractLsb' 6 38) ∧
      t.lockFlag = (s.lockFlag && decide (s.lockBlock ≠ (a.setWidth 44).extractLsb' 6 38)) ∧
      t.lockWatch = { s.lockWatch with stolen := s.lockWatch.stolen || (s.lockFlag && !t.lockFlag) } ∧
      { t with mem := s.mem, cached := s.cached, lockFlag := s.lockFlag, lockWatch := s.lockWatch, env := s.env } = s ∧ t.env = rest := by
  have hdeliver : deliver (.remoteWrite a v) { s with env := rest } =
      loseBlock { s with mem := s.mem.writeByte a.toNat v, env := rest } (blockOf (a.setWidth 44)) :=
    if_neg (by rw [show absent { s with env := rest } (a.setWidth 44) = false from habsent]; exact Bool.false_ne_true)
  rw [step_of_event henv nofun, hdeliver, loseBlock_eq]
  refine completes_next ⟨fun b => Memory.readByte_writeByte hwf _ _ _, rfl, rfl, ?_, rfl, rfl⟩
  rw [lost_of_flag]

/-! ### A block of memory -/

theorem byteOf_eq_shift (x : Word) (i : Nat) : byteOf x i = (x >>> (8 * i)).setWidth 8 := by
  ext j hj
  rw [byteOf, BitVec.getElem_extractLsb', BitVec.getElem_setWidth, BitVec.getLsbD_ushiftRight]

theorem getD_readQuads (m : Memory) (a : Nat) {n k : Nat} (hk : k < n) : (m.readQuads a n).getD k 0 = m.read (a + 8 * k) 8 := by
  induction n generalizing a k with
  | zero => omega
  | succ n ih =>
    cases k with
    | zero => rfl
    | succ k =>
      rw [Memory.readQuads, List.getD_cons_succ, ih (a + 8) (by omega)]
      congr 1
      omega

theorem byteOf_readQuads (m : Memory) (a : Nat) {i : Nat} (hi : i < 64) :
    byteOf ((m.readQuads a 8).getD (i / 8) 0) (i % 8) = m.readByte (a + i) := by
  rw [getD_readQuads m a (by omega), byteOf_read _ _ _ (Nat.le_refl 8) _ (by omega), if_pos (by omega)]
  congr 1
  omega

/-- The bytes of memory after a block is written back. -/
theorem readByte_writeBlock {m : Memory} (hwf : m.wf = true) (b : BitVec 38) {l : List Word} (hl : l.length = 8) (a : Nat) :
    (m.writeQuads (64 * b.toNat) l).readByte a =
      if a / 64 = b.toNat then byteOf (l.getD (a % 64 / 8) 0) (a % 8) else m.readByte a := by
  rw [Memory.readByte_writeQuads hwf, hl, byteOf_eq_shift]
  by_cases ha : a / 64 = b.toNat
  · have hquad : (a - 64 * b.toNat) / 8 = a % 64 / 8 := by omega
    have hbyte : (a - 64 * b.toNat) % 8 = a % 8 := by omega
    rw [if_pos ha, if_pos (by omega), hquad, hbyte]
  · rw [if_neg ha, if_neg (by omega)]

/-! ### Victims -/

section
variable {s : State} {b : BitVec 38}

theorem evictBlock_plain (h : initMode s = false ∨ writtenOver s b = none) : evictBlock s b = { s with cached := otherBlocks s b } := by
  rw [evictBlock]
  obtain h | h := h
  · rw [h]
    rfl
  · rw [h]
    split <;> rfl

theorem evictBlock_init (h : initMode s = true) {l : List Word} (hl : writtenOver s b = some l) :
    evictBlock s b = { s with cached := otherBlocks s b, mem := s.mem.writeQuads (64 * b.toNat) l } := by
  rw [evictBlock, if_pos h, hl]
  rfl

theorem isLocked_iff : isLocked s b = true ↔ s.lockFlag = true ∧ s.lockBlock = b := by
  rw [isLocked, Bool.and_eq_true, beq_iff_eq]

end

/-! ### The room in the caches -/

/-- The places of the Bcache by its BC_SIZE, and of the Dcache without it. -/
def placesOf : Option (BitVec 4) → Nat
  | some size => (size.toNat + 1) * 2 ^ 14
  | none => 2 ^ 7

/-- How many competing blocks have room there. -/
def roomOf : Option (BitVec 4) → Nat
  | some _ => 1
  | none => 8

theorem places_of_size {s : State} {size : Option (BitVec 4)}
    (h : size = if s.writeMany.getLsbD 0 then some (s.writeMany.extractLsb' 2 4) else none) :
    placeCount s = placesOf size ∧ roomFor s = roomOf size := by
  subst h
  rw [placeCount, roomFor, bcacheOn]
  split
  · exact ⟨Nat.mul_div_assoc _ (by norm_num), rfl⟩
  · exact ⟨rfl, rfl⟩

theorem makeRoom_of_no_victims {s : State} (h : victims s = []) : makeRoom s = s := by rw [makeRoom, h]

/-- One of the victims leaves. -/
theorem makeRoom_of_victims {s : State} (h : victims s ≠ []) :
    ∃ d ∈ victims s, ∃ n, makeRoom s = evictBlock { s with free := n } d.block := by
  rw [makeRoom]
  split
  · next hnone => exact absurd hnone h
  · next v hv => exact ⟨v, hv ▸ List.mem_singleton_self v, s.free, rfl⟩
  · next v more hmore hv =>
    have hpick : (Config.freeQuad s.free).toNat % (more.length + 1) < (v :: more).length := Nat.mod_lt _ (Nat.succ_pos _)
    refine ⟨_, ?_, s.free + 1, rfl⟩
    rw [hv, List.getD_eq_getElem _ _ hpick]
    exact List.getElem_mem hpick

/-- The victims are the rivals that are not locked, once the rivals have no room. -/
theorem victims_cons {s : State} {c : CachedBlock} {older : List CachedBlock} (h : s.cached = c :: older) : victims s =
    if (older.filter fun d => compete s c.block d.block).length < roomFor s then []
    else (older.filter fun d => compete s c.block d.block).filter fun d => !isLocked s d.block := by
  rw [victims, h, List.filter_filter]
  simp only [Bool.and_comm]

theorem mem_unlocked {s : State} {l : List CachedBlock} {d : CachedBlock} :
    d ∈ l.filter (fun d => !isLocked s d.block) ↔ d ∈ l ∧ ¬(s.lockFlag = true ∧ s.lockBlock = d.block) := by
  rw [List.mem_filter, Bool.not_eq_true', ← Bool.not_eq_true, isLocked_iff]

/-- A newly dirtied block displaces one of its rivals that is not locked, where they have no room beside it. -/
theorem makeRoom_cons {s : State} {c : CachedBlock} {older rivals : List CachedBlock} {places room : Nat} (h : s.cached = c :: older)
    (hplaces : placeCount s = places) (hroom : roomFor s = room)
    (hrivals : rivals = older.filter (fun d => d.block.toNat % places == c.block.toNat % places)) :
    (rivals.length < room → makeRoom s = s) ∧
    (room ≤ rivals.length →
      ((∀ d ∈ rivals, s.lockFlag = true ∧ s.lockBlock = d.block) → makeRoom s = s) ∧
      ((∃ d ∈ rivals, ¬(s.lockFlag = true ∧ s.lockBlock = d.block)) →
        ∃ d ∈ rivals, ¬(s.lockFlag = true ∧ s.lockBlock = d.block) ∧ ∃ n, makeRoom s = evictBlock { s with free := n } d.block)) := by
  have hvictims : victims s = if rivals.length < room then [] else rivals.filter fun d => !isLocked s d.block := by
    subst hplaces hroom hrivals
    exact victims_cons h
  refine ⟨fun hfit => makeRoom_of_no_victims (by rw [hvictims, if_pos hfit]), fun hfull => ?_⟩
  rw [if_neg (Nat.not_lt.2 hfull)] at hvictims
  refine ⟨fun hlocked => makeRoom_of_no_victims ?_, fun ⟨d, hd, hfree⟩ => ?_⟩
  · rw [hvictims, List.eq_nil_iff_forall_not_mem]
    exact fun d hd => (mem_unlocked.1 hd).2 (hlocked d (mem_unlocked.1 hd).1)
  · have hsome : victims s ≠ [] := hvictims ▸ List.ne_nil_of_mem (mem_unlocked.2 ⟨hd, hfree⟩)
    obtain ⟨v, hv, hleaves⟩ := makeRoom_of_victims hsome
    rw [hvictims, mem_unlocked] at hv
    exact ⟨v, hv.1, hv.2, hleaves⟩

/-! ### Probes -/

section
variable {s : State} {b : BitVec 38} {next : ProbeNext}

/-- A block is Dirty: written and not shared. -/
theorem dirty_iff (s : State) (b : BitVec 38) : ((writtenOver s b).isSome && !isShared s b) = true ↔
    ∃ c, s.cached.find? (fun c => c.block == b) = some c ∧ c.shared = false ∧ c.below ≠ none := by
  rw [writtenOver, isShared, cachedBlock]
  cases s.cached.find? fun c => c.block == b with
  | none => simp
  | some c => simp [Option.isSome_iff_ne_none, and_comm]

theorem probeBlock_taken (h : next = .invalid ∨ next = .transition3 ∧
    ∃ c, s.cached.find? (fun c => c.block == b) = some c ∧ c.shared = false ∧ c.below ≠ none) :
    probeBlock s b next = loseBlock s b := by
  obtain rfl | ⟨rfl, hdirty⟩ := h
  · rfl
  · exact if_pos ((dirty_iff s b).2 hdirty)

theorem probeBlock_kept (h : ¬(next = .invalid ∨ next = .transition3 ∧
    ∃ c, s.cached.find? (fun c => c.block == b) = some c ∧ c.shared = false ∧ c.below ≠ none)) :
    ∀ p ∈ ([(.clean, otherBlocks s b), (.cleanShared, { block := b, shared := true, below := none } :: otherBlocks s b),
        (.dirtyShared, { block := b, shared := true, below := some (memoryBelow s b) } :: otherBlocks s b),
        (.transition1, { block := b, shared := true, below := writtenOver s b } :: otherBlocks s b),
        (.transition3, { block := b, shared := true, below := none } :: otherBlocks s b)] : List (ProbeNext × List CachedBlock)),
      next = p.1 → probeBlock s b next = { s with cached := p.2 } := by
  simp only [List.forall_mem_cons (l := _ :: _), List.forall_mem_singleton]
  refine ⟨?_, ?_, ?_, ?_, ?_⟩
  case refine_5 =>
    rintro rfl
    exact if_neg fun hdirty => h (.inr ⟨rfl, (dirty_iff s b).1 hdirty⟩)
  all_goals
    rintro rfl
    rfl

end

/-- Settles O36. -/
theorem lockIsLostToOtherAgents : Obligations.LockIsLostToOtherAgents := by
  unfold Obligations.LockIsLostToOtherAgents
  refine ⟨fun s rest a v henv habsent hwf => completes_remoteWrite henv habsent hwf,
    fun m a i hi => ⟨Memory.length_readQuads m a 8, byteOf_readQuads m a hi⟩, fun s => ⟨fun hnone => ?empty, ?room⟩, ?blocks⟩
  case empty => exact makeRoom_of_no_victims (by rw [victims, hnone])
  case room =>
    intro c older rivals hcached
    simp only [List.forall_mem_cons (l := _ :: _), List.forall_mem_singleton]
    have hsize : ∀ {size : Option (BitVec 4)} {places room : Nat},
        size = (if s.writeMany.getLsbD 0 then some (s.writeMany.extractLsb' 2 4) else none) →
        placesOf size = places → roomOf size = room → placeCount s = places ∧ roomFor s = room :=
      fun h hplaces hroom => ⟨(places_of_size h).1.trans hplaces, (places_of_size h).2.trans hroom⟩
    refine ⟨fun h => ?_, fun h => ?_, fun h => ?_, fun h => ?_, fun h => ?_, fun h => ?_⟩
    all_goals
      obtain ⟨hplaces, hroom⟩ := hsize h rfl rfl
      exact makeRoom_cons hcached hplaces hroom
  case blocks =>
    rintro s rest b _ _ _ _ taken next rfl rfl rfl rfl
    refine ⟨fun hinit => if_pos hinit, fun hinit => if_neg (by rw [hinit]; exact Bool.false_ne_true), fun h => evictBlock_plain h,
      fun hinit hwf l hl hlength => ?squashed, fun henv => ?victim, fun henv htaken => ⟨fun hnop => ?nop, fun h => ?lost, fun h p hp hnext => ?state⟩⟩
    case squashed =>
      rw [evictBlock_init hinit hl]
      exact ⟨rfl, fun a => readByte_writeBlock hwf b hlength a⟩
    case victim =>
      rw [step_of_event henv nofun]
      show Host.Outcome.next (if isLocked s b then _ else _) = _
      simp only [isLocked_iff]
      rfl
    case nop =>
      rw [step_of_event henv nofun, hnop]
      rfl
    case lost =>
      rw [step_of_event henv nofun]
      show Host.Outcome.next (probeBlock { s with env := rest } b next) = _
      rw [probeBlock_taken (s := { s with env := rest }) (htaken.1 h), loseBlock_eq]
      rfl
    case state =>
      rw [step_of_event henv nofun]
      show Host.Outcome.next (probeBlock { s with env := rest } b next) = _
      rw [probeBlock_kept (s := { s with env := rest }) (fun hnot => h (htaken.2 hnot)) p hp hnext]

end Sys2Proof.Machine
end


/-! # Settling O54: what HW_MFPR reads -/

section

namespace Sys2Proof.Machine

/-! ### Words put together from fields -/

/-- A field of `n` bits at position `k`. -/
theorem getLsbD_fieldAt {n : Nat} (v : BitVec n) {k : Nat} (h : n + k ≤ 64) (i : Nat) :
    (v.setWidth 64 <<< k).getLsbD i = (decide (k ≤ i) && v.getLsbD (i - k)) := by
  have hzero : n ≤ i - k → v.getLsbD (i - k) = false := BitVec.getLsbD_of_ge v _
  rw [BitVec.getLsbD_shiftLeft, BitVec.getLsbD_setWidth]
  grind

/-- Bits [63:48] as copies of one bit. -/
theorem getLsbD_copies (b : Bool) (i : Nat) :
    (((if b then 0xFFFF000000000000 else 0 : Nat) : Word)).getLsbD i = (b && decide (48 ≤ i ∧ i ≤ 63)) := by
  rw [← getLsbD_of_mask (m := 0xFFFF000000000000) (lo := 48) (hi := 63) (by decide) (by norm_num)]
  cases b with
  | true => rfl
  | false => exact BitVec.getLsbD_zero

theorem extractLsb'_eq_iff {w n k : Nat} {v : BitVec w} {x : BitVec n} :
    v.extractLsb' k n = x ↔ ∀ i < n, v.getLsbD (k + i) = x.getLsbD i := by
  constructor
  · rintro rfl i hi
    rw [BitVec.getLsbD_extractLsb', decide_eq_true hi, Bool.true_and]
  · intro h
    refine BitVec.eq_of_getLsbD_eq fun i hi => ?_
    rw [BitVec.getLsbD_extractLsb', decide_eq_true hi, Bool.true_and, h i hi]

/-- A sixteen-bit field of copies of one bit. -/
theorem getLsbD_copies16 (b : Bool) {i : Nat} (hi : i < 16) : (if b then 0xFFFF else 0 : BitVec 16).getLsbD i = b := by
  cases b with
  | true => interval_cases i <;> rfl
  | false => exact BitVec.getLsbD_zero

/-! ### EXC_SUM and I_CTL -/

theorem getLsbD_excSumWord (x : ExcSum) (i : Nat) : (excSumWord x).getLsbD i =
    (x.setIov && decide (48 ≤ i ∧ i ≤ 63) || decide (i = 47) && x.setIov || decide (i = 46) && x.setIne ||
      decide (i = 45) && x.setUnf || decide (i = 44) && x.setOvf || decide (i = 43) && x.setDze || decide (i = 42) && x.setInv ||
      decide (i = 41) && x.pcOvfl || decide (i = 13) && x.badIva || decide (8 ≤ i) && x.reg.getLsbD (i - 8) ||
      decide (i = 7) && x.int || decide (i = 6) && x.iov || decide (i = 5) && x.ine || decide (i = 4) && x.unf ||
      decide (i = 3) && x.fov || decide (i = 2) && x.dze || decide (i = 1) && x.inv || decide (i = 0) && x.swc) := by
  simp only [excSumWord, BitVec.getLsbD_or, getLsbD_copies, getLsbD_fieldAt x.reg (show 5 + 8 ≤ 64 by norm_num),
    getLsbD_bitAt (show 47 < 64 by norm_num), getLsbD_bitAt (show 46 < 64 by norm_num), getLsbD_bitAt (show 45 < 64 by norm_num),
    getLsbD_bitAt (show 44 < 64 by norm_num), getLsbD_bitAt (show 43 < 64 by norm_num), getLsbD_bitAt (show 42 < 64 by norm_num),
    getLsbD_bitAt (show 41 < 64 by norm_num), getLsbD_bitAt (show 13 < 64 by norm_num), getLsbD_bitAt (show 7 < 64 by norm_num),
    getLsbD_bitAt (show 6 < 64 by norm_num), getLsbD_bitAt (show 5 < 64 by norm_num), getLsbD_bitAt (show 4 < 64 by norm_num),
    getLsbD_bitAt (show 3 < 64 by norm_num), getLsbD_bitAt (show 2 < 64 by norm_num), getLsbD_bitAt (show 1 < 64 by norm_num),
    getLsbD_bitAt (show 0 < 64 by norm_num)]

theorem excSumOf_excSumWord (x : ExcSum) : excSumOf (excSumWord x) = x := by
  have hhigh : ∀ i, 5 ≤ i → x.reg.getLsbD i = false := fun i hi => BitVec.getLsbD_of_ge _ _ hi
  have hreg : (excSumWord x).extractLsb' 8 5 = x.reg := extractLsb'_eq_iff.2 fun i hi => by
    rw [getLsbD_excSumWord]
    grind
  simp only [excSumOf, hreg, getLsbD_excSumWord]
  simp

theorem excSumWord_fields (x : ExcSum) : (excSumWord x).extractLsb' 48 16 = (if x.setIov then 0xFFFF else 0) ∧
    (excSumWord x).extractLsb' 14 27 = 0 := by
  have hhigh : ∀ i, 5 ≤ i → x.reg.getLsbD i = false := fun i hi => BitVec.getLsbD_of_ge _ _ hi
  refine ⟨extractLsb'_eq_iff.2 fun i hi => ?_, extractLsb'_eq_iff.2 fun i hi => ?_⟩
  · rw [getLsbD_excSumWord, getLsbD_copies16 _ hi, hhigh _ (by omega)]
    grind
  · rw [getLsbD_excSumWord, hhigh _ (by omega), BitVec.ofNat_eq_ofNat, BitVec.getLsbD_zero]
    grind

theorem getLsbD_iCtlValue (s : State) {i : Nat} (hi : i < 64) : (iCtlValue s).getLsbD i =
    ((if i < 48 then s.iCtl.getLsbD i else s.iCtl.getLsbD 47) || decide (24 ≤ i) && Config.chipId.getLsbD (i - 24) ||
      decide (i = 23) && s.bistFail || decide (i = 14) && s.slRcv) := by
  simp only [iCtlValue, BitVec.getLsbD_or, getLsbD_fieldAt Config.chipId (show 6 + 24 ≤ 64 by norm_num),
    getLsbD_bitAt (show 23 < 64 by norm_num), getLsbD_bitAt (show 14 < 64 by norm_num)]
  rw [BitVec.getLsbD_signExtend, decide_eq_true hi, Bool.true_and]
  simp only [BitVec.msb_eq_getLsbD_last, BitVec.getLsbD_setWidth]
  grind

/-- From bit 30 on it is VPTB, sign-extended from bit 47. -/
theorem extractLsb'_iCtlValue (s : State) {k n : Nat} (hk : 30 ≤ k) (hn : k + n ≤ 64) :
    (iCtlValue s).extractLsb' k n = ((s.iCtl.setWidth 48).signExtend 64).extractLsb' k n := by
  have hchip : ∀ i, 6 ≤ i → Config.chipId.getLsbD i = false := fun i hi => BitVec.getLsbD_of_ge _ _ hi
  refine extractLsb'_eq_iff.2 fun i hi => ?_
  rw [getLsbD_iCtlValue s (by omega), BitVec.getLsbD_extractLsb', BitVec.getLsbD_signExtend, BitVec.msb_eq_getLsbD_last,
    BitVec.getLsbD_setWidth, BitVec.getLsbD_setWidth, hchip _ (by omega)]
  grind

theorem getLsbD_of_within {m v : Word} (h : within m v = true) {i : Nat} (hi : m.getLsbD i = false) : v.getLsbD i = false := by
  by_contra hset
  rw [Bool.not_eq_false] at hset
  exact Bool.false_ne_true (hi.symm.trans ((within_iff m v).1 h i hset))

/-- I_CTL as it is read: the stored bits and those that come from elsewhere (R118). -/
theorem iCtlValue_fields {s : State} (h : within iCtlMask s.iCtl = true) :
    iCtlValue s &&& iCtlMask = s.iCtl ∧ (iCtlValue s).extractLsb' 48 16 = (if s.iCtl.getLsbD 47 then 0xFFFF else 0) ∧
      (iCtlValue s).extractLsb' 24 6 = Config.chipId ∧ (iCtlValue s).getLsbD 23 = s.bistFail ∧ (iCtlValue s).getLsbD 14 = s.slRcv := by
  have hfin : ∀ i : Fin 64, iCtlMask.getLsbD i.val = decide (i.val < 48 ∧ i.val ≠ 14 ∧ ¬(23 ≤ i.val ∧ i.val ≤ 29)) := by decide
  have hmask : ∀ i < 64, iCtlMask.getLsbD i = decide (i < 48 ∧ i ≠ 14 ∧ ¬(23 ≤ i ∧ i ≤ 29)) := fun i hi => hfin ⟨i, hi⟩
  have hclear : ∀ i < 64, i = 14 ∨ 23 ≤ i ∧ i ≤ 29 ∨ 48 ≤ i → s.iCtl.getLsbD i = false := fun i hi hout =>
    getLsbD_of_within h ((hmask i hi).trans (decide_eq_false (by omega)))
  have hchip : ∀ i, 6 ≤ i → Config.chipId.getLsbD i = false := fun i hi => BitVec.getLsbD_of_ge _ _ hi
  refine ⟨BitVec.eq_of_getLsbD_eq fun i hi => ?_, extractLsb'_eq_iff.2 fun i hi => ?_, extractLsb'_eq_iff.2 fun i hi => ?_, ?_, ?_⟩
  · rw [BitVec.getLsbD_and, getLsbD_iCtlValue s hi, hmask i hi]
    grind
  · rw [getLsbD_iCtlValue s (by omega), getLsbD_copies16 _ hi, hchip _ (by omega)]
    grind
  · rw [getLsbD_iCtlValue s (by omega), hclear (24 + i) (by omega) (by omega)]
    grind
  · rw [getLsbD_iCtlValue s (by norm_num), if_pos (by norm_num), hclear 23 (by norm_num) (by norm_num)]
    simp
  · rw [getLsbD_iCtlValue s (by norm_num), if_pos (by norm_num), hclear 14 (by norm_num) (by norm_num)]
    simp

/-! ### PCTR_CTL -/

/-- The counters that a read of PCTR_CTL shows. -/
def shownPctr0 (s : State) (w : Word) : BitVec 20 := if pctr0Enabled s then s.pctr.pctr0 else s.pctr.pctr0 + quirk w

def shownPctr1 (s : State) (w : Word) : BitVec 20 :=
  if !s.pctr.sl0 && s.pctr.sl1 == 1 then w.extractLsb' 32 20
  else if pctr1Enabled s then s.pctr.pctr1 else s.pctr.pctr1 + (w.extractLsb' 8 1).setWidth 20

theorem getLsbD_pctrValue (s : State) (w : Word) (i : Nat) : (pctrValue s w).getLsbD i =
    ((shownPctr0 s w).getLsbD 19 && decide (48 ≤ i ∧ i ≤ 63) || decide (28 ≤ i) && (shownPctr0 s w).getLsbD (i - 28) ||
      decide (i = 27) && s.pctr.pmStalled || decide (i = 26) && s.pctr.pmKilledBm ||
      decide (6 ≤ i) && (shownPctr1 s w).getLsbD (i - 6) || decide (i = 4) && s.pctr.sl0 ||
      decide (2 ≤ i) && s.pctr.sl1.getLsbD (i - 2) || decide (i = 1) && s.pctr.val || decide (i = 0) && s.pctr.tak) := by
  rw [← getLsbD_fieldAt (shownPctr0 s w) (show 20 + 28 ≤ 64 by norm_num), ← getLsbD_fieldAt (shownPctr1 s w) (show 20 + 6 ≤ 64 by norm_num),
    ← getLsbD_fieldAt s.pctr.sl1 (show 2 + 2 ≤ 64 by norm_num), ← getLsbD_copies, ← getLsbD_bitAt (show 27 < 64 by norm_num),
    ← getLsbD_bitAt (show 26 < 64 by norm_num), ← getLsbD_bitAt (show 4 < 64 by norm_num), ← getLsbD_bitAt (show 1 < 64 by norm_num),
    ← getLsbD_bitAt (show 0 < 64 by norm_num)]
  simp only [← BitVec.getLsbD_or]
  rfl

theorem shownPctr0_le (s : State) (w : Word) : (shownPctr0 s w - s.pctr.pctr0).toNat ≤ 4 := by
  rw [shownPctr0]
  split
  · rw [BitVec.sub_self]
    exact Nat.zero_le 4
  · rw [BitVec.add_comm, BitVec.add_sub_cancel, quirk, BitVec.toNat_ofNat]
    omega

theorem pctrValue_fields (s : State) (w : Word) :
    (pctrValue s w).extractLsb' 28 20 = shownPctr0 s w ∧
      (pctrValue s w).extractLsb' 48 16 = (if (pctrValue s w).getLsbD 47 then 0xFFFF else 0) ∧
      (pctrValue s w).extractLsb' 6 20 = shownPctr1 s w ∧
      (pctrValue s w).getLsbD 27 = s.pctr.pmStalled ∧ (pctrValue s w).getLsbD 26 = s.pctr.pmKilledBm ∧
      (pctrValue s w).getLsbD 5 = false ∧ (pctrValue s w).getLsbD 4 = s.pctr.sl0 ∧
      (pctrValue s w).extractLsb' 2 2 = s.pctr.sl1 ∧ (pctrValue s w).getLsbD 1 = s.pctr.val ∧ (pctrValue s w).getLsbD 0 = s.pctr.tak := by
  have h0 : ∀ i, 20 ≤ i → (shownPctr0 s w).getLsbD i = false := fun i hi => BitVec.getLsbD_of_ge _ _ hi
  have h1 : ∀ i, 20 ≤ i → (shownPctr1 s w).getLsbD i = false := fun i hi => BitVec.getLsbD_of_ge _ _ hi
  have hsl : ∀ i, 2 ≤ i → s.pctr.sl1.getLsbD i = false := fun i hi => BitVec.getLsbD_of_ge _ _ hi
  refine ⟨extractLsb'_eq_iff.2 fun i hi => ?_, extractLsb'_eq_iff.2 fun i hi => ?_, extractLsb'_eq_iff.2 fun i hi => ?_, ?_, ?_, ?_,
    ?_, extractLsb'_eq_iff.2 fun i hi => ?_, ?_, ?_⟩
  · rw [getLsbD_pctrValue, h1 _ (by omega), hsl _ (by omega)]
    grind
  · rw [getLsbD_copies16 _ hi, getLsbD_pctrValue, getLsbD_pctrValue, h0 (48 + i - 28) (by omega), h1 (48 + i - 6) (by omega),
      hsl (48 + i - 2) (by omega), h1 (47 - 6) (by norm_num), hsl (47 - 2) (by norm_num)]
    grind
  · rw [getLsbD_pctrValue, hsl _ (by omega)]
    grind
  iterate 4
    rw [getLsbD_pctrValue]
    simp
  · rw [getLsbD_pctrValue]
    grind
  iterate 2
    rw [getLsbD_pctrValue]
    simp

/-! ### The read -/

section
variable {s : State} (hlegal : palLegal s = true) (ra rb : Reg) (index scbd : BitVec 8)
include hlegal

theorem completes_hwMfpr {v : Word} {n : Nat} (h : readIpr s index = (v, { s with free := n })) {P : State → Prop}
    (hP : ∀ t : State, t.free = n → WroteInt { s with free := t.free } ra v t → P t) : Completes (exec (.hwMfpr ra rb index scbd) s) P := by
  have hexec : exec (.hwMfpr ra rb index scbd) s = .next (advance (writeInt (readIpr s index).2 ra (readIpr s index).1)) := if_pos hlegal
  have hfree : (advance (writeInt { s with free := n } ra v)).free = n := by rw [advance_free, writeInt_free]
  rw [hexec, h]
  refine completes_next (hP _ hfree ?_)
  rw [hfree]
  exact wroteInt_advance _ _ _

/-- A register that reads as it is. -/
theorem completes_hwMfpr_of_some {v : Word} (h : readableIpr s index = some v) (hfree : ¬(index = 0x14 ∨ index = 0x2B)) :
    Completes (exec (.hwMfpr ra rb index scbd) s) (WroteInt s ra v) := by
  have hread : readIpr s index = (v, { s with free := s.free }) := by
    rw [readIpr, h]
    exact congrArg _ (if_neg hfree)
  exact completes_hwMfpr hlegal ra rb index scbd hread fun t ht hwrote => by rwa [ht] at hwrote

/-- A register with open bits. -/
theorem completes_hwMfpr_drawn {v : Word} (h : readableIpr s index = some v) (hfree : index = 0x14 ∨ index = 0x2B) {P : State → Prop}
    (hP : ∀ t : State, WroteInt { s with free := t.free } ra v t → P t) : Completes (exec (.hwMfpr ra rb index scbd) s) P := by
  have hread : readIpr s index = (v, { s with free := s.free + 1 }) := by
    rw [readIpr, h]
    exact congrArg _ (if_pos hfree)
  exact completes_hwMfpr hlegal ra rb index scbd hread fun t _ => hP t

end

/-- Every read changes no more than the counter of free values. -/
theorem readIpr_frame (s : State) (index : BitVec 8) : ∃ v n, readIpr s index = (v, { s with free := n }) := by
  rw [readIpr]
  split
  · split
    · exact ⟨_, s.free + 1, rfl⟩
    · exact ⟨_, s.free, rfl⟩
  · exact ⟨_, s.free + 1, rfl⟩

theorem readableIpr_pctx (s : State) {index : BitVec 8} (hlow : 0x40 ≤ index.toNat) (hhigh : index.toNat ≤ 0x7F) :
    readableIpr s index = some s.pctx := by
  unfold readableIpr
  split
  case h_21 => exact if_pos ⟨hlow, hhigh⟩
  all_goals omega

/-- The PTE address of the first two layouts and, below, of the third. -/
theorem readable_vaForm (s : State) : readableIpr s 0xC3 = vaFormat (s.vaCtl.getLsbD 1) (s.vaCtl.getLsbD 2) s.vaCtl s.va := rfl

theorem readable_ivaForm (s : State) : readableIpr s 0x07 =
    vaFormat (s.iCtl.getLsbD 15) (s.iCtl.getLsbD 16) ((s.iCtl.setWidth 48).signExtend 64) s.excAddr := by
  show vaFormat _ _ (iCtlValue s) _ = _
  cases s.iCtl.getLsbD 15 <;> cases s.iCtl.getLsbD 16
  · exact congrArg some (by rw [extractLsb'_iCtlValue s (by norm_num) (by norm_num)])
  · exact congrArg some (by rw [extractLsb'_iCtlValue s (by norm_num) (by norm_num)])
  · exact congrArg some (by rw [extractLsb'_iCtlValue s (by norm_num) (by norm_num)])
  · rfl

theorem extractLsb'_mergeMask (old new : Word) : (mergeMask old 0x3F new).extractLsb' 0 6 = new.extractLsb' 0 6 := by
  refine extractLsb'_eq_iff.2 fun i hi => ?_
  have hmask := getLsbD_of_mask (m := 0x3F) (lo := 0) (hi := 5) (by decide) (by norm_num) (0 + i)
  rw [getLsbD_mergeMask, hmask, BitVec.getLsbD_extractLsb']
  grind

/-- The three layouts of a virtual PTE address (R89, R102). -/
theorem completes_vaFormat {s : State} (hlegal : palLegal s = true) (ra rb : Reg) (scbd index : BitVec 8) {va48 form32 : Bool}
    {vptb va : Word} (h : readableIpr s index = vaFormat va48 form32 vptb va) (hfree : ¬(index = 0x14 ∨ index = 0x2B)) :
    (va48 = false → form32 = false → Completes (exec (.hwMfpr ra rb index scbd) s)
      (WroteInt s ra (vptb.extractLsb' 33 31 ++ va.extractLsb' 13 30 ++ 0#3))) ∧
    (va48 = true → form32 = false → Completes (exec (.hwMfpr ra rb index scbd) s)
      (WroteInt s ra (vptb.extractLsb' 43 21 ++ (va.extractLsb' 47 1).signExtend 5 ++ va.extractLsb' 13 35 ++ 0#3))) ∧
    (within iCtlMask s.iCtl = true → va48 = false → form32 = true → Completes (exec (.hwMfpr ra rb index scbd) s)
      (WroteInt s ra (vptb.extractLsb' 30 34 ++ 0#8 ++ va.extractLsb' 13 19 ++ 0#3))) := by
  refine ⟨?_, ?_, fun _ => ?_⟩
  all_goals
    rintro rfl rfl
    exact completes_hwMfpr_of_some hlegal ra rb index scbd h hfree

/-- Settles O54. -/
theorem hwMfpr : Obligations.HwMfpr := by
  unfold Obligations.HwMfpr
  intro ra rb scbd s hlegal
  refine ⟨fun index => ⟨opcode_packHwIpr rfl (by norm_num), ?every⟩, ?stored, fun index hlow hhigh => ?pctx, ?excSum, fun hwithin => ?iCtl,
    ?pctr, ?cData, ?form⟩
  case every =>
    obtain ⟨v, n, hread⟩ := readIpr_frame s index
    exact completes_hwMfpr hlegal ra rb index scbd hread fun t _ h => ⟨v, h⟩
  case stored =>
    have hstored : ∀ (index : BitVec 8) (v : Word), readableIpr s index = some v → ¬(index = 0x14 ∨ index = 0x2B) →
        Completes (exec (.hwMfpr ra rb index scbd) s) (WroteInt s ra v) :=
      fun index _ => completes_hwMfpr_of_some hlegal ra rb index scbd
    simp only [List.forall_mem_cons (l := _ :: _), List.forall_mem_singleton]
    refine ⟨?_, ?_, ?_, ?_, ?_, ?_, ?_, ?_, ?_, ?_, ?_, ?_, ?_, ?_⟩
    all_goals exact hstored _ _ rfl (by decide)
  case pctx =>
    refine completes_hwMfpr_of_some hlegal ra rb index scbd (readableIpr_pctx s hlow hhigh) ?_
    rintro (rfl | rfl) <;> exact absurd hlow (by decide)
  case excSum =>
    obtain ⟨t, hexec, hwrote⟩ := completes_hwMfpr_of_some hlegal ra rb 0x0F scbd (v := excSumWord s.excSum) rfl (by decide)
    obtain ⟨hcopies, hzero⟩ := excSumWord_fields s.excSum
    exact ⟨t, hexec, _, hwrote, excSumOf_excSumWord _, hcopies, hzero⟩
  case iCtl =>
    obtain ⟨t, hexec, hwrote⟩ := completes_hwMfpr_of_some hlegal ra rb 0x11 scbd (v := iCtlValue s) rfl (by decide)
    exact ⟨t, hexec, _, hwrote, iCtlValue_fields hwithin⟩
  case pctr =>
    obtain ⟨h0, hcopies, h1, hrest⟩ := pctrValue_fields s (Config.freeQuad s.free)
    refine completes_hwMfpr_drawn hlegal ra rb 0x14 scbd rfl (.inl rfl) fun t hwrote => ⟨_, hwrote, fun hon => ?_, ?_, hcopies,
      fun hon hdefined => ?_, hrest⟩
    · rw [h0, shownPctr0, if_pos hon]
    · rw [h0]
      exact shownPctr0_le s _
    · rw [h1, shownPctr1, if_neg, if_pos hon]
      rw [Bool.and_eq_true, Bool.not_eq_true', beq_iff_eq]
      rintro ⟨hoff, hone⟩
      obtain h | h := hdefined
      · exact Bool.false_ne_true (hoff.symm.trans h)
      · exact h hone
  case cData =>
    refine completes_hwMfpr_drawn hlegal ra rb 0x2B scbd rfl (.inr rfl) fun t hwrote => ⟨_, hwrote, ?_⟩
    rw [extractLsb'_mergeMask, ← BitVec.setWidth_eq_extractLsb' (by norm_num), BitVec.setWidth_setWidth_of_le _ (by norm_num),
      BitVec.setWidth_eq]
  case form =>
    simp only [List.forall_mem_cons (l := _ :: _), List.forall_mem_singleton]
    exact ⟨completes_vaFormat hlegal ra rb scbd 0xC3 (readable_vaForm s) (by decide),
      completes_vaFormat hlegal ra rb scbd 0x07 (readable_ivaForm s) (by decide)⟩

end Sys2Proof.Machine
end


/-! # Settling O60: fault reset, warm reset, sleep and the wake-up -/

section

namespace Sys2Proof.Machine

/-! ### What the unspecified registers leave alone -/

theorem scrambleState_kept (s : State) : (scrambleState s).irqPins = s.irqPins ∧ (scrambleState s).memMap = s.memMap ∧
    (scrambleState s).srom = s.srom ∧ (scrambleState s).env = s.env ∧ (scrambleState s).writeOnce = s.writeOnce ∧
    (scrambleState s).bistFail = s.bistFail := by
  simp only [scrambleState, scrambleRegs, and_self]

/-- Bits of unspecified registers that are not implemented. -/
theorem scrambleState_zeros (s : State) : (scrambleState s).pmpc.getLsbD 1 = false ∧ (scrambleState s).excAddr.getLsbD 1 = false ∧
    (scrambleState s).errorReg.extractLsb' 62 4 = 0#4 := by
  have hclear : ∀ w : Word, (w &&& ~~~2).getLsbD 1 = false := fun w => by
    rw [BitVec.getLsbD_and, show (~~~2 : Word).getLsbD 1 = false by decide, Bool.and_false]
  have herror : ∀ v w : BitVec 31, ((v ++ w).setWidth 66).extractLsb' 62 4 = 0#4 := fun v w => by
    refine extractLsb'_eq_iff.2 fun i hi => ?_
    rw [BitVec.getLsbD_setWidth, BitVec.getLsbD_of_ge _ _ (by omega), Bool.and_false, BitVec.getLsbD_zero]
  refine ⟨?_, ?_, ?_⟩ <;> simp only [scrambleState, scrambleRegs]
  · exact hclear _
  · exact hclear _
  · exact herror _ _

/-! ### The SROM image -/

/-- A block of the image holds four of its lines. -/
def HoldsLines (lines : List SromLine) (b : IcacheBlock) : Prop :=
  b.pal = true ∧ ∃ l0 l1 l2 l3, l0 ∈ lines ∧ l1 ∈ lines ∧ l2 ∈ lines ∧ l3 ∈ lines ∧
    l0.addr = b.tag.extractLsb' 0 38 ++ 0#6 ∧ l1.addr = l0.addr + 16 ∧ l2.addr = l0.addr + 32 ∧ l3.addr = l0.addr + 48 ∧
    b.words = l0.words ++ l1.words ++ l2.words ++ l3.words

/-- The line that follows by `16 * k` bytes. -/
theorem lineAt_eq_some {lines : List SromLine} {a : BitVec 44} {w : List (BitVec 32)}
    (h : (lines.find? fun l => l.addr == a).map SromLine.words = some w) : ∃ l ∈ lines, l.addr = a ∧ l.words = w := by
  obtain ⟨l, hfind, rfl⟩ := Option.map_eq_some_iff.1 h
  have haddr := List.find?_some hfind
  exact ⟨l, List.mem_of_find?_eq_some hfind, beq_iff_eq.1 haddr, rfl⟩

theorem holdsLines_sromBlock {lines : List SromLine} {first : SromLine} (hfirst : first ∈ lines) {b : IcacheBlock}
    (h : sromBlock lines first = some b) : HoldsLines lines b := by
  unfold sromBlock at h
  split at h
  · next hlow =>
    simp only at h
    split at h
    · next w1 w2 w3 h1 h2 h3 =>
      obtain ⟨l1, hl1, ha1, rfl⟩ := lineAt_eq_some h1
      obtain ⟨l2, hl2, ha2, rfl⟩ := lineAt_eq_some h2
      obtain ⟨l3, hl3, ha3, rfl⟩ := lineAt_eq_some h3
      obtain rfl := Option.some.inj h
      refine ⟨rfl, first, l1, l2, l3, hfirst, hl1, hl2, hl3, ?_, ha1, ha2, ha3, rfl⟩
      rw [extractLsb'_eq_iff] at hlow
      refine BitVec.eq_of_getLsbD_eq fun i hi => ?_
      rw [BitVec.getLsbD_append]
      by_cases hlt : i < 6
      · rw [if_pos hlt, ← hlow i hlt, Nat.zero_add]
      · simp only [if_neg hlt, BitVec.getLsbD_extractLsb', BitVec.getLsbD_setWidth]
        grind
    · cases h
  · cases h

/-- Only the set of a block of the image is chosen where it is placed. -/
theorem holdsLines_placeSrom {lines : List SromLine} {cache : List IcacheBlock} (hcache : ∀ b ∈ cache, HoldsLines lines b)
    {c : IcacheBlock} (hc : HoldsLines lines c) : ∀ b ∈ placeSrom cache c, HoldsLines lines b := by
  have hplaced : ∀ way, ∀ b ∈ { c with way := way } :: cache, HoldsLines lines b := fun way b hb => by
    obtain rfl | hb := List.mem_cons.1 hb
    · exact hc
    · exact hcache b hb
  unfold placeSrom
  simp only
  split
  · exact hplaced false
  · split
    · exact hplaced true
    · exact hcache

theorem holdsLines_foldl {lines : List SromLine} (bs : List IcacheBlock) (hbs : ∀ b ∈ bs, HoldsLines lines b) :
    ∀ cache : List IcacheBlock, (∀ b ∈ cache, HoldsLines lines b) → ∀ b ∈ bs.foldl placeSrom cache, HoldsLines lines b := by
  induction bs with
  | nil => exact fun _ hcache => hcache
  | cons c bs ih =>
    exact fun cache hcache => ih (fun b hb => hbs b (List.mem_cons_of_mem _ hb)) _ (holdsLines_placeSrom hcache (hbs c List.mem_cons_self))

theorem loadSrom_none {s : State} (h : s.srom = none) : (loadSrom s).icache = [] ∧ (loadSrom s).writeOnce = s.writeOnce := by
  rw [loadSrom, h]
  exact ⟨rfl, rfl⟩

theorem loadSrom_some {s : State} {img : SromImage} (h : s.srom = some img) :
    (loadSrom s).writeOnce = img.writeOnce ∧ ∀ b ∈ (loadSrom s).icache, HoldsLines img.lines b := by
  rw [loadSrom, h]
  refine ⟨rfl, holdsLines_foldl _ (fun b hb => ?_) [] nofun⟩
  obtain ⟨first, hfirst, hblock⟩ := List.mem_filterMap.1 hb
  exact holdsLines_sromBlock hfirst hblock

/-! ### Resets -/

theorem resetPc (s : State) : (s.palBase &&& 0x00000FFFFFFF8000) ||| 0x780 = (s.palBase &&& 0x00000FFFFFFF8000) + 0x780 :=
  palBase_or _ _ (by decide)

theorem faultReset_armed {s : State} (h : s.sleepArmed = true) : faultReset s = s := if_pos h

theorem faultReset_eq {s : State} (h : s.sleepArmed = false) : faultReset s = { s with
    pc := (s.palBase &&& 0x00000FFFFFFF8000) + 0x780, palMode := true, iCtl := s.iCtl ||| 6, pctx := s.pctx ||| 4, writeMany := 0,
    lockFlag := false, lockWatch := LockWatch.idle, excAddr := (faultReset s).excAddr, viaJump := false, trap := some .reset,
    tagErr := false, waiting := false, prefetches := [], blocks := [], free := (faultReset s).free } := by
  rw [← resetPc, faultReset, if_neg (by rw [h]; exact Bool.false_ne_true)]
  rfl

theorem isum_congr {s t : State} (hpins : t.irqPins = s.irqPins) (hsl : t.slReq = s.slReq) (hcr : t.crReq = s.crReq)
    (hpc1 : t.pc1Req = s.pc1Req) (hpc0 : t.pc0Req = s.pc0Req) (hsirr : t.sirr = s.sirr) (hier : t.ierCm = s.ierCm)
    (hast : ∀ i, 5 ≤ i → i ≤ 12 → t.pctx.getLsbD i = s.pctx.getLsbD i) : isum t = isum s := by
  have hpending : ∀ m < 4, astPending t m = astPending s m := fun m hm => by
    rw [astPending, astPending, hast _ (by omega) (by omega), hast _ (by omega) (by omega), currentMode, currentMode, hier]
  rw [isum, isum, interruptRequests, interruptRequests, hpins, hsl, hcr, hpc1, hpc0, hsirr, hier, hpending 0 (by norm_num),
    hpending 1 (by norm_num), hpending 2 (by norm_num), hpending 3 (by norm_num)]

/-- The AST bits of PCTX through a wake-up. -/
theorem getLsbD_wokenPctx (old new : Word) {i : Nat} (hlow : 5 ≤ i) (hhigh : i ≤ 12) :
    (mergeMask old 0x1FE0 new ||| 4).getLsbD i = new.getLsbD i := by
  have hmask := getLsbD_of_mask (m := 0x1FE0) (lo := 5) (hi := 12) (by decide) (by norm_num) i
  have hfour := getLsbD_of_mask (m := 4) (lo := 2) (hi := 2) (by decide) (by norm_num) i
  rw [BitVec.getLsbD_or, getLsbD_mergeMask, hmask, hfour]
  grind

/-- What the unspecified registers keep, and the zeros among them, when BiST has cleared the Dcache. -/
structure Cleared (s x : State) : Prop where
  mem : x.mem = mainMemory s
  cached : x.cached = []
  irqPins : x.irqPins = s.irqPins
  memMap : x.memMap = s.memMap
  srom : x.srom = s.srom
  env : x.env = s.env
  writeOnce : x.writeOnce = s.writeOnce
  bistFail : x.bistFail = s.bistFail
  pmpc : x.pmpc.getLsbD 1 = false
  excAddr : x.excAddr.getLsbD 1 = false
  errorReg : x.errorReg.extractLsb' 62 4 = 0#4

theorem cleared_scrambleState (s : State) : Cleared s (scrambleState (clearDcache s)) := by
  obtain ⟨hpins, hmap, hsrom, henv, honce, hbist⟩ := scrambleState_kept (clearDcache s)
  obtain ⟨hpmpc, hexc, herror⟩ := scrambleState_zeros (clearDcache s)
  exact ⟨scrambleState_mem _, scrambleState_cached _, hpins, hmap, hsrom, henv, honce, hbist, hpmpc, hexc, herror⟩

/-- The registers of Table 7-10 after a warm reset. -/
theorem warmReset_values (s : State) : (warmReset s).pc = 0x780 ∧ (warmReset s).palMode = true ∧ (warmReset s).palBase = 0 ∧
    (warmReset s).iCtl = 6 ∧ (warmReset s).pctx = 4 ∧ (warmReset s).writeMany = 0 ∧ (warmReset s).lockFlag = false ∧
    (warmReset s).vaCtl.extractLsb' 0 3 = 0#3 ∧ (warmReset s).mCtl = 0 := by
  have hpc : ((0 : Word) &&& 0x00000FFFFFFF8000) ||| 0x780 = 0x780 := by decide
  have hvaCtl : ∀ w : Word, (w &&& ~~~7#64).extractLsb' 0 3 = 0#3 := fun w => by
    rw [BitVec.extractLsb'_and, show (~~~7#64).extractLsb' 0 3 = 0#3 by decide, BitVec.and_zero]
  unfold warmReset
  generalize scrambleState (clearDcache s) = x
  exact ⟨hpc, rfl, rfl, rfl, rfl, rfl, rfl, hvaCtl _, rfl⟩

theorem warmReset_entries (s : State) : (warmReset s).dcCtl = 3 ∧ (warmReset s).dtbTag0 = 0 ∧ (warmReset s).dtbTag1 = 0 ∧
    (warmReset s).dtbPte0 = 0 ∧ (warmReset s).dtbPte1 = 0 ∧ (warmReset s).dtbAsn0 = 0 ∧ (warmReset s).dtbAsn1 = 0 ∧
    (warmReset s).itbPtr = 0 ∧ (warmReset s).dtbPtr = 0 ∧ (warmReset s).asleep = false ∧ (warmReset s).sleepArmed = false := by
  unfold warmReset
  generalize scrambleState (clearDcache s) = x
  exact ⟨rfl, rfl, rfl, rfl, rfl, rfl, rfl, rfl, rfl, rfl, rfl⟩

theorem warmReset_kept (s : State) : (warmReset s).cached = [] ∧ (warmReset s).mem = mainMemory s ∧
    (warmReset s).irqPins = s.irqPins ∧ (warmReset s).memMap = s.memMap ∧ (warmReset s).srom = s.srom ∧ (warmReset s).env = s.env ∧
    (warmReset s).pmpc.getLsbD 1 = false ∧ (warmReset s).excAddr.getLsbD 1 = false ∧
    (warmReset s).errorReg.extractLsb' 62 4 = 0#4 := by
  have hx := cleared_scrambleState s
  unfold warmReset
  generalize scrambleState (clearDcache s) = x at hx
  rw [loadSrom_frame]
  exact ⟨hx.cached, hx.mem, hx.irqPins, hx.memMap, hx.srom, hx.env, hx.pmpc, hx.excAddr, hx.errorReg⟩

/-- The Icache and the WRITE_ONCE chain come from the SROM image. -/
theorem warmReset_image (s : State) : (s.srom = none → (warmReset s).icache = [] ∧ (warmReset s).writeOnce = s.writeOnce) ∧
    ∀ img, s.srom = some img → (warmReset s).writeOnce = img.writeOnce ∧ ∀ b ∈ (warmReset s).icache, HoldsLines img.lines b := by
  have hx := cleared_scrambleState s
  unfold warmReset
  generalize scrambleState (clearDcache s) = x at hx
  refine ⟨fun h => ?_, fun img h => loadSrom_some (hx.srom.trans h)⟩
  obtain ⟨hicache, honce⟩ := loadSrom_none (hx.srom.trans h)
  exact ⟨hicache, honce.trans hx.writeOnce⟩

/-! ### Sleep -/

theorem wakeUp_values (s : State) : (wakeUp s).pc = (s.palBase &&& 0x00000FFFFFFF8000) + 0x780 ∧ (wakeUp s).palMode = true ∧
    (wakeUp s).palBase = s.palBase ∧ (wakeUp s).ierCm = s.ierCm ∧ (wakeUp s).sirr = s.sirr ∧ (wakeUp s).slReq = s.slReq ∧
    (wakeUp s).crReq = s.crReq ∧ (wakeUp s).pc0Req = s.pc0Req ∧ (wakeUp s).pc1Req = s.pc1Req := by
  rw [← resetPc]
  unfold wakeUp
  generalize scrambleState (clearDcache s) = x
  exact ⟨rfl, rfl, rfl, rfl, rfl, rfl, rfl, rfl, rfl⟩

theorem wakeUp_isum (s : State) : (wakeUp s).irqPins = s.irqPins ∧ isum (wakeUp s) = isum s := by
  have hpins := (cleared_scrambleState s).irqPins
  unfold wakeUp
  generalize scrambleState (clearDcache s) = x at hpins
  exact ⟨hpins, isum_congr hpins rfl rfl rfl rfl rfl rfl fun i hlow hhigh => getLsbD_wokenPctx _ _ hlow hhigh⟩

theorem wakeUp_cleared (s : State) : (wakeUp s).iCtl.extractLsb' 1 2 = 3#2 ∧ (wakeUp s).pctx.getLsbD 2 = true ∧
    (wakeUp s).writeMany = 0 ∧ (wakeUp s).lockFlag = false ∧ (wakeUp s).asleep = false ∧ (wakeUp s).sleepArmed = false ∧
    (wakeUp s).icache = [] ∧ (wakeUp s).cached = [] ∧ (wakeUp s).mem = mainMemory s ∧
    (wakeUp s).errorReg.extractLsb' 62 4 = 0#4 ∧ (wakeUp s).writeOnce = s.writeOnce ∧ (wakeUp s).bistFail = s.bistFail := by
  have hx := cleared_scrambleState s
  have hsets : ∀ w : Word, (w ||| 6).extractLsb' 1 2 = 3#2 := fun w => by
    rw [BitVec.extractLsb'_or, show (6 : Word).extractLsb' 1 2 = BitVec.allOnes 2 by decide, BitVec.or_allOnes]
    rfl
  have hfpe : ∀ w : Word, (w ||| 4).getLsbD 2 = true := fun w => by
    rw [BitVec.getLsbD_or, show (4 : Word).getLsbD 2 = true by decide, Bool.or_true]
  unfold wakeUp
  generalize scrambleState (clearDcache s) = x at hx
  exact ⟨hsets _, hfpe _, rfl, rfl, rfl, rfl, rfl, hx.cached, hx.mem, hx.errorReg, hx.writeOnce, hx.bistFail⟩

theorem step_asleep {s : State} (henv : s.env = []) (hasleep : s.asleep = true) :
    step s = .next (if isum s != 0 then wakeUp s else s) := by
  rw [step, runStep, henv]
  exact if_pos hasleep

/-- Settles O60. -/
theorem resetsAndWakeUp : Obligations.ResetsAndWakeUp := by
  unfold Obligations.ResetsAndWakeUp
  refine ⟨fun s rest henv => ⟨fun harmed => ?armed, fun hfree => ?fault⟩, fun s rest henv => ?warm, fun s a hwf hdistinct hbelow => ?main,
    fun s henv hasleep => ⟨fun hnone => ?sleeps, fun hsome => ?wakes⟩⟩
  case armed =>
    rw [step_of_event henv nofun]
    exact congrArg _ (faultReset_armed (s := { s with env := rest }) harmed)
  case fault =>
    rw [step_of_event henv nofun]
    exact completes_next (faultReset_eq (s := { s with env := rest }) hfree)
  case warm =>
    rw [step_of_event henv nofun]
    obtain ⟨hpc, hpal, hbase, hiCtl, hpctx, hmany, hlock, hvaCtl, hmCtl⟩ := warmReset_values { s with env := rest }
    obtain ⟨hdc, htag0, htag1, hpte0, hpte1, hasn0, hasn1, hitb, hdtb, hawake, hunarmed⟩ := warmReset_entries { s with env := rest }
    obtain ⟨hcached, hmem, hpins, hmap, hsrom, henv', hpmpc, hexc, herror⟩ := warmReset_kept { s with env := rest }
    obtain ⟨hnone, himage⟩ := warmReset_image { s with env := rest }
    exact completes_next ⟨hpc, hpal, hbase, hiCtl, hpctx, hmany, hlock, hvaCtl, hmCtl, hcached, hdc, htag0, htag1, hpte0, hpte1, hasn0,
      hasn1, hitb, hdtb, hawake, hmem, hunarmed, hpins, hmap, hsrom, henv', hpmpc, hexc, herror, hnone, himage⟩
  case main =>
    refine ⟨fun c hc l hl ha => ?_, fun h => mainMemory_other hwf hbelow h⟩
    rw [byteOf_eq_shift]
    exact mainMemory_written hwf hdistinct hbelow hc hl ha
  case sleeps => rw [step_asleep henv hasleep, hnone, if_neg (by decide)]
  case wakes =>
    rw [step_asleep henv hasleep, if_pos (bne_iff_ne.2 hsome)]
    obtain ⟨hpc, hpal, hbase, hier, hsirr, hsl, hcr, hpc0, hpc1⟩ := wakeUp_values s
    obtain ⟨hpins, hisum⟩ := wakeUp_isum s
    exact completes_next ⟨hpc, hpal, hbase, hier, hsirr, hsl, hcr, hpc0, hpc1, hpins, hisum, wakeUp_cleared s⟩

end Sys2Proof.Machine
end


/-! # Settling O10: the fetch blocks that PALcode may not hold (spec/71_palcode_restrictions.md) -/

section

namespace Sys2Proof.Machine

/-! ### Kinds of instruction words by their codes -/

/-- The function field of eleven bits. -/
theorem fpField_eq_iff {w : BitVec 32} {x : BitVec 11} : (w.extractLsb' 5 11 == x) = true ↔ (w.extractLsb' 5 11).toNat = x.toNat := by
  rw [beq_iff_eq, BitVec.toNat_inj]

theorem isRejected_encode (i : Instr) (u : State) : isRejected u (encode i) = false := by
  rw [← Bool.not_eq_true, isRejected_iff, (decodeInvertsEncode i).1]
  intro h
  cases h

/-- The codes of opcode 14 that end in 4 are those of ITOFx. -/
theorem itfpTable_itof : ∀ n ∈ itfpTable.map (fun p => p.1.toNat), n % 16 = 4 ↔ n ∈ [0x004, 0x014, 0x024] := by decide

theorem isItof_encode {i : Instr} (hop : opcodeOf (encode i) = 0x14) :
    isItof (encode i) = true ↔ ((encode i).extractLsb' 5 11).toNat ∈ [0x004, 0x014, 0x024] := by
  have hdecode : decodeFp itfpTable .opcdec (encode i) = .ok i := by
    have h := (decodeInvertsEncode i).1
    unfold decode at h
    rw [show (Sys2Proof.opcodeOf (encode i)).toNat = 0x14 from hop] at h
    exact h
  have hlisted : ((encode i).extractLsb' 5 11).toNat ∈ itfpTable.map fun p => p.1.toNat := by
    by_contra hnot
    have herror := (decodeFp_error (miss := .opcdec)).2 ⟨rfl, hnot⟩
    exact absurd (hdecode.symm.trans herror) fun h => by cases h
  have hlow : ((encode i).extractLsb' 5 4).toNat = ((encode i).extractLsb' 5 11).toNat % 16 := by
    rw [BitVec.extractLsb'_toNat, BitVec.extractLsb'_toNat]
    omega
  rw [← itfpTable_itof _ hlisted, isItof, hop, beq_self_eq_true, Bool.true_and, beq_iff_eq, ← BitVec.toNat_inj, hlow]
  rfl

theorem isFpRestricted_iff (i : Instr) : isFpRestricted (encode i) = true ↔
    opcodeOf (encode i) ∈ [0x15, 0x16, 0x17, 0x24, 0x25, 0x26, 0x27, 0x31, 0x32, 0x33, 0x35, 0x36, 0x37] ∨
      (opcodeOf (encode i) = 0x14 ∧ ((encode i).extractLsb' 5 11).toNat ∉ [0x004, 0x014, 0x024]) ∨
      (opcodeOf (encode i) = 0x1C ∧ ((encode i).extractLsb' 5 11).toNat ∈ [0x070, 0x078]) := by
  have hitof := isItof_encode (i := i)
  unfold isFpRestricted
  generalize opcodeOf (encode i) = op at hitof
  split
  case h_1 => rw [Bool.not_eq_true', ← Bool.not_eq_true, hitof rfl]; simp
  case h_5 => rw [Bool.or_eq_true, fpField_eq_iff, fpField_eq_iff]; simp
  case h_16 => simp_all
  all_goals simp

section
variable {u : State} {w : BitVec 32} (hacc : isRejected u w = false)
include hacc

theorem isTrappable_always (h : opcodeOf w ∈ [0x01, 0x02, 0x03, 0x04, 0x05, 0x06, 0x07, 0x0A, 0x0C, 0x0D, 0x0E, 0x0F, 0x1A, 0x20, 0x21,
    0x22, 0x23, 0x24, 0x25, 0x26, 0x27, 0x28, 0x29, 0x2A, 0x2B, 0x2C, 0x2D, 0x2E, 0x2F]) : isTrappable u w = true := by
  simp only [List.mem_cons, List.not_mem_nil, or_false] at h
  rw [isTrappable, hacc]
  rcases h with h | h | h | h | h | h | h | h | h | h | h | h | h | h | h | h | h | h | h | h | h | h | h | h | h | h | h | h | h
  all_goals simp only [h, Bool.or_true]

theorem isTrappable_never (h : opcodeOf w ∈ [0x08, 0x09, 0x11, 0x12, 0x18, 0x19, 0x1D, 0x30, 0x34, 0x38, 0x39, 0x3A, 0x3B, 0x3C, 0x3D,
    0x3E, 0x3F]) : isTrappable u w = false := by
  simp only [List.mem_cons, List.not_mem_nil, or_false] at h
  rw [isTrappable, hacc, needsFp]
  rcases h with h | h | h | h | h | h | h | h | h | h | h | h | h | h | h | h | h
  all_goals
    rw [h]
    rfl

theorem isTrappable_ldqU (h : opcodeOf w = 0x0B) : isTrappable u w = decide (w.extractLsb' 21 5 ≠ 31#5) := by
  rw [isTrappable, hacc, needsFp, h]
  simp [bne, beq_eq_decide]

/-- The /V forms that can overflow. -/
theorem isTrappable_integer (h : opcodeOf w ∈ [0x10, 0x13]) {fn : Nat} (hfn : fn = (w.extractLsb' 5 11).toNat) {overflows idle : Prop}
    (hoverflows : overflows ↔ 64 ≤ fn % 128 ∧ (opcodeOf w = 0x13 ∨ fn % 128 ∈ [0x40, 0x49, 0x60, 0x69]))
    (hidle : idle ↔ w.extractLsb' 0 5 = 31#5 ∨ (w.extractLsb' 21 5 = 31#5 ∧ w.extractLsb' 12 9 = 0b111110000#9)) :
    isTrappable u w = true ↔ overflows ∧ ¬idle := by
  have hbit : w.getLsbD 11 = true ↔ 64 ≤ fn % 128 := by
    rw [hfn, ← BitVec.testBit_toNat, Nat.testBit_eq_decide_div_mod_eq, decide_eq_true_iff, BitVec.extractLsb'_toNat,
      Nat.shiftRight_eq_div_pow]
    omega
  have hlow : ∀ x : BitVec 6, (w.extractLsb' 5 6 == x) = true ↔ fn % 64 = x.toNat := fun x => by
    rw [beq_iff_eq, ← BitVec.toNat_inj, hfn, BitVec.extractLsb'_toNat, BitVec.extractLsb'_toNat]
    omega
  have hcan : canOverflow w = true ↔ 64 ≤ fn % 128 ∧ ¬idle := by
    rw [canOverflow, Bool.and_eq_true, Bool.and_eq_true, hbit, hidle]
    simp [bne_iff_ne]
    tauto
  simp only [List.mem_cons, List.not_mem_nil, or_false] at h hoverflows
  obtain h | h := h
  · have htraps : isTrappable u w = ((w.extractLsb' 5 6 == 0x00#6 || w.extractLsb' 5 6 == 0x09#6 || w.extractLsb' 5 6 == 0x20#6 ||
        w.extractLsb' 5 6 == 0x29#6) && canOverflow w) := by
      rw [isTrappable, hacc, needsFp, h]
      rfl
    have hcode : 64 ≤ fn % 128 → ((((fn % 64 = 0 ∨ fn % 64 = 9) ∨ fn % 64 = 32) ∨ fn % 64 = 41) ↔
        fn % 128 = 0x40 ∨ fn % 128 = 0x49 ∨ fn % 128 = 0x60 ∨ fn % 128 = 0x69) := by omega
    rw [htraps, Bool.and_eq_true, hcan, hoverflows, h, Bool.or_eq_true, Bool.or_eq_true, Bool.or_eq_true, hlow, hlow, hlow, hlow]
    exact ⟨fun ⟨hA, hbig, hn⟩ => ⟨⟨hbig, .inr ((hcode hbig).1 hA)⟩, hn⟩,
      fun ⟨⟨hbig, hB⟩, hn⟩ => ⟨(hcode hbig).2 (hB.resolve_left (by norm_num)), hbig, hn⟩⟩
  · have htraps : isTrappable u w = canOverflow w := by
      rw [isTrappable, hacc, needsFp, h]
      rfl
    rw [htraps, hcan, hoverflows]
    exact ⟨fun ⟨hbig, hn⟩ => ⟨⟨hbig, .inl h⟩, hn⟩, fun ⟨⟨hbig, _⟩, hn⟩ => ⟨hbig, hn⟩⟩

/-- A floating operate or branch can trap where the unit is disabled, and some where it is enabled. -/
theorem isTrappable_floating (h : opcodeOf w ∈ [0x14, 0x15, 0x16, 0x17, 0x31, 0x32, 0x33, 0x35, 0x36, 0x37]) {fn : Nat}
    (hfn : fn = (w.extractLsb' 5 11).toNat) (hitof : opcodeOf w = 0x14 → (isItof w = true ↔ fn ∈ [0x004, 0x014, 0x024])) :
    isTrappable u w = true ↔ fpEnabled u = false ∨ (opcodeOf w = 0x17 ∧ fn = 0x024 ∧ u.palMode = false) ∨
      (w.extractLsb' 0 5 ≠ 31#5 ∧ ((opcodeOf w = 0x14 ∧ fn ∉ [0x004, 0x014, 0x024]) ∨
        (opcodeOf w = 0x15 ∧ fn ∉ [0x0BC, 0x03C, 0x0BE, 0x03E]) ∨ opcodeOf w = 0x16 ∨
        (opcodeOf w = 0x17 ∧ fn ∈ [0x030, 0x130, 0x530]))) := by
  have hcode : ∀ x : BitVec 11, w.extractLsb' 5 11 = x ↔ fn = x.toNat := fun x => by rw [hfn, BitVec.toNat_inj]
  simp only [List.mem_cons, List.not_mem_nil, or_false] at h
  rw [isTrappable, hacc, needsFp]
  rcases h with h | h | h | h | h | h | h | h | h | h
  case inl =>
    simp only [h, ← hitof h]
    simp [and_comm]
  case inr.inl =>
    simp [h, isVaxFromInt, hcode]
    tauto
  case inr.inr.inr.inl =>
    simp [h, hcode]
    tauto
  all_goals simp [h]

theorem isTrappable_callPal (h : opcodeOf w = 0x00) {f : Nat} (hf : f = (w.extractLsb' 0 26).toNat) :
    isTrappable u w = true ↔ 0x40 ≤ f ∧ f ≤ 0x7F ∨ 0xBF < f ∨ (f ≤ 0x3F ∧ currentMode u ≠ 0) := by
  have htraps : isTrappable u w = !callPalLegal u (w.extractLsb' 0 26) := by
    rw [isTrappable, hacc, needsFp, h]
    rfl
  rw [htraps, callPalLegal, Bool.not_not, ← hf]
  simp [bne_iff_ne, or_assoc]

theorem isTrappable_fpti (h : opcodeOf w = 0x1C) :
    isTrappable u w = (decide ((w.extractLsb' 5 11).toNat ∈ [0x070, 0x078]) && !fpEnabled u) := by
  have hmoves : (w.extractLsb' 5 11 == 0x070#11 || w.extractLsb' 5 11 == 0x078#11) =
      decide ((w.extractLsb' 5 11).toNat ∈ [0x070, 0x078]) := by
    rw [Bool.eq_iff_iff, Bool.or_eq_true, fpField_eq_iff, fpField_eq_iff]
    simp
  rw [← hmoves, isTrappable, hacc, needsFp, h]
  simp

theorem isTrappable_hwMem (h : opcodeOf w ∈ [0x1B, 0x1F]) : isTrappable u w = decide (2 ≤ (w.extractLsb' 13 3).toNat) := by
  simp only [List.mem_cons, List.not_mem_nil, or_false] at h
  rw [isTrappable, hacc, needsFp]
  obtain h | h := h
  all_goals
    rw [h]
    rfl

theorem isTrappable_hwRet (h : opcodeOf w = 0x1E) : isTrappable u w = !w.getLsbD 13 := by
  rw [isTrappable, hacc, needsFp, h]
  rfl

end

/-! ### The restrictions one by one -/

theorem isHwMtpr_iff (w : BitVec 32) : isHwMtpr w = true ↔ opcodeOf w = 0x1D := beq_iff_eq

theorem isFpRestricted_opcode {w : BitVec 32} (h : isFpRestricted w = true) : opcodeOf w ∉ [0x1B, 0x1D] := by
  intro hmem
  simp only [List.mem_cons, List.not_mem_nil, or_false] at hmem
  rw [isFpRestricted] at h
  obtain hop | hop := hmem
  all_goals
    rw [hop] at h
    cases h

section
variable {u : State} {w : BitVec 32}

/-- No restriction asks for other words than HW_LD, HW_MTPR and the floating ones. -/
theorem restriction_none (h : palLegal u = false ∨ (opcodeOf w ∉ [0x1B, 0x1D] ∧ isFpRestricted w = false)) : restriction u w = none := by
  obtain h | ⟨hop, hfp⟩ := h
  · exact restriction_user h w
  · simp only [List.mem_cons, List.not_mem_nil, or_false, not_or] at hop
    have hmtpr : isHwMtpr w = false := by rw [← Bool.not_eq_true, isHwMtpr_iff]; exact hop.2
    simp [restriction, hfp, hmtpr, hop.1]

variable (hlegal : palLegal u = true)
include hlegal

theorem restriction_hwLd (hop : opcodeOf w = 0x1B) : restriction u w =
    if w.extractLsb' 13 3 = 1#3 ∧ (u.pc.extractLsb' 2 2).toNat = 3 then some .lockedLoadFourth else none := by
  have hmtpr : isHwMtpr w = false := by rw [← Bool.not_eq_true, isHwMtpr_iff, hop]; decide
  have hfp : isFpRestricted w = false := by
    rw [← Bool.not_eq_true]
    exact fun h => isFpRestricted_opcode h (by simp [hop])
  simp [restriction, hlegal, hop, hmtpr, hfp, ← BitVec.toNat_inj]

theorem restriction_floating (hfp : isFpRestricted w = true) :
    ((∃ y ∈ blockWords u, opcodeOf y = 0x1D) → restriction u w = some .mixedFetchBlock) ∧
      ((∀ y ∈ blockWords u, opcodeOf y ≠ 0x1D) → restriction u w = none) := by
  have hop := isFpRestricted_opcode hfp
  simp only [List.mem_cons, List.not_mem_nil, or_false, not_or] at hop
  have hmtpr : isHwMtpr w = false := by rw [← Bool.not_eq_true, isHwMtpr_iff]; exact hop.2
  have hvalue : restriction u w = if (blockWords u).any isHwMtpr then some .mixedFetchBlock else none := by
    simp [restriction, hlegal, hop.1, hmtpr, hfp]
  rw [hvalue]
  exact ⟨fun ⟨y, hy, h⟩ => if_pos (List.any_eq_true.2 ⟨y, hy, (isHwMtpr_iff y).2 h⟩),
    fun hnone => if_neg fun hany => by
      obtain ⟨y, hy, h⟩ := List.any_eq_true.1 hany
      exact hnone y hy ((isHwMtpr_iff y).1 h)⟩

theorem restriction_hwMtpr (hop : opcodeOf w = 0x1D) : restriction u w =
    if (blockWords u).any isFpRestricted then some .mixedFetchBlock
    else if trappableTogether u (blockWords u) (u.pc.extractLsb' 2 2).toNat || (previousWords u).any (isTrappable u) then
      some .trappableWithMtpr
    else none := by
  have hfp : isFpRestricted w = false := by
    rw [← Bool.not_eq_true]
    exact fun h => isFpRestricted_opcode h (by simp [hop])
  have hmtpr : isHwMtpr w = true := (isHwMtpr_iff w).2 hop
  simp [restriction, hlegal, hop, hmtpr, hfp]

end

/-! ### The words beside a HW_MTPR -/

section
variable {block : List (BitVec 32)} {at_ : Nat → BitVec 32} (hat : ∀ k, at_ k = block.getD k 0)
include hat

/-- The block of R1042. -/
theorem isDelayedReturn_iff : isDelayedReturn block = true ↔
    (∀ k ∈ [0, 1], ((at_ k).extractLsb' 26 6).toNat = 0x13 ∧ ((at_ k).extractLsb' 5 7).toNat = 0x20) ∧
      ((at_ 2).extractLsb' 26 6).toNat = 0x1D ∧ ((at_ 2).extractLsb' 8 8).toNat = 0x27 ∧
      ((at_ 3).extractLsb' 26 6).toNat = 0x1E ∧ (at_ 3).getLsbD 13 = true := by
  simp only [isDelayedReturn, isMulq, isHwMtpr, isStalledReturn, wordAt, ← hat, opcodeOf, Bool.and_eq_true, beq_iff_eq,
    ← BitVec.toNat_inj, List.forall_mem_cons (l := _ :: _), List.forall_mem_singleton]
  exact ⟨fun ⟨⟨⟨⟨h0, h1⟩, h2⟩, hindex⟩, h3⟩ => ⟨⟨h0, h1⟩, h2, hindex, h3⟩,
    fun ⟨⟨h0, h1⟩, h2, hindex, h3⟩ => ⟨⟨⟨⟨h0, h1⟩, h2⟩, hindex⟩, h3⟩⟩

theorem returnsBehind_iff {m k : Nat} (hk : k < 4) : returnsBehind block m k = true ↔
    m < k ∧ ((at_ k).extractLsb' 26 6).toNat = 0x1E ∧ (at_ k).getLsbD 13 = true ∧ 0x17 < ((at_ m).extractLsb' 8 8).toNat ∧
      (at_ m).extractLsb' 14 2 ≠ 1#2 ∧ ∀ j, m < j → j < k → isCondBranch (at_ j) = false := by
  have hbranch : ((List.range 4).any fun j => decide (m < j) && decide (j < k) && isCondBranch (wordAt block j)) = false ↔
      ∀ j, m < j → j < k → isCondBranch (at_ j) = false := by
    rw [List.any_eq_false]
    refine ⟨fun h j hmj hjk => ?_, fun h j hj => ?_⟩
    · have hj := h j (List.mem_range.2 (by omega))
      rwa [decide_eq_true hmj, decide_eq_true hjk, Bool.true_and, Bool.true_and, wordAt, ← hat, Bool.not_eq_true] at hj
    · rw [Bool.and_eq_true, Bool.and_eq_true, decide_eq_true_iff, decide_eq_true_iff, wordAt, ← hat]
      rintro ⟨⟨hmj, hjk⟩, hbranch⟩
      exact Bool.false_ne_true ((h j hmj hjk).symm.trans hbranch)
  have hibox : writesIbox (wordAt block m) = false ↔ 0x17 < ((at_ m).extractLsb' 8 8).toNat ∧ (at_ m).extractLsb' 14 2 ≠ 1#2 := by
    rw [writesIbox, wordAt, ← hat, Bool.or_eq_false_iff, decide_eq_false_iff_not, beq_eq_false_iff_ne, BitVec.le_def]
    exact and_congr_left fun _ => Nat.not_le
  rw [returnsBehind, Bool.and_eq_true, Bool.and_eq_true, Bool.and_eq_true, decide_eq_true_iff, Bool.not_eq_true', Bool.not_eq_true',
    hbranch, hibox, isStalledReturn, Bool.and_eq_true, beq_iff_eq, wordAt, ← hat]
  exact ⟨fun ⟨⟨⟨hmk, hop, hstall⟩, hindex, hscbd⟩, hfree⟩ => ⟨hmk, hop, hstall, hindex, hscbd, hfree⟩,
    fun ⟨hmk, hop, hstall, hindex, hscbd, hfree⟩ => ⟨⟨⟨hmk, hop, hstall⟩, hindex, hscbd⟩, hfree⟩⟩

theorem trappableTogether_iff (u : State) (m : Nat) : trappableTogether u block m = true ↔
    isDelayedReturn block = false ∧ ∃ k, k < 4 ∧ (isTrappable u (at_ k) = true ∨
      (k < m ∧ isCondBranch (at_ k) = true ∧ (at_ k).extractLsb' 21 5 ≠ 31#5) ∨ returnsBehind block m k = true) := by
  rw [trappableTogether, Bool.and_eq_true, Bool.not_eq_true', List.any_eq_true]
  refine and_congr_right fun _ => exists_congr fun k => ?_
  rw [List.mem_range, Bool.or_eq_true, Bool.or_eq_true, Bool.and_eq_true, decide_eq_true_iff, isMispredictable, Bool.and_eq_true,
    bne_iff_ne, or_assoc, wordAt, ← hat]

end

/-- The present fetch block stands first in the record. -/
theorem blockWords_beginInstr (t : State) : blockWords (beginInstr t) = (fetchBlockAt t).words := by
  show (((enterBlock (fetchBlockAt t) t.blocks).head?).map FetchBlock.words).getD [] = _
  rw [enterBlock_head]
  rfl

theorem fetchBlockAt_words {t : State} {b : IcacheBlock} (h : t.icache.find? (icacheHits t t.pc) = some b) :
    (fetchBlockAt t).words = (b.words.drop (4 * (t.pc.extractLsb' 4 2).toNat)).take 4 := by rw [fetchBlockAt, h]

/-- Settles O10. -/
theorem restrictedFetchBlocks : Obligations.RestrictedFetchBlocks := by
  unfold Obligations.RestrictedFetchBlocks
  refine ⟨?kinds, fun u w h => ?rejected, ?steps⟩
  case kinds =>
    rintro i op fn rfl rfl
    refine ⟨isFpRestricted_iff i, fun u => ?_⟩
    have hacc := isRejected_encode i u
    exact ⟨isTrappable_always hacc, isTrappable_never hacc, isTrappable_ldqU hacc,
      fun h _ _ hoverflows hidle => isTrappable_integer hacc h rfl hoverflows hidle,
      fun h => isTrappable_floating hacc h rfl isItof_encode, fun h _ hf => isTrappable_callPal hacc h hf,
      isTrappable_fpti hacc, isTrappable_hwMem hacc, isTrappable_hwRet hacc⟩
  case rejected => rw [isTrappable, (isRejected_iff u w).2 h, Bool.true_or, Bool.true_or]
  case steps =>
    rintro s t rest w i henv s' hawake hmchk hint hfetch hdec op here before rfl rfl rfl
    refine ⟨fun b hb => (blockWords_beginInstr t).trans (fetchBlockAt_words hb), fun runs at_ m hruns hat hm => ?_⟩
    have hstep : step s = runWord s' w (beginInstr t) := step_of_fetch henv hawake hmchk hint hfetch
    have hrefused : ∀ {r}, restriction (beginInstr t) w = some r → step s = .refused r :=
      fun hr => hstep.trans (runWord_of_restriction hdec hr s')
    have hfree : restriction (beginInstr t) w = none → runs :=
      fun hr => hruns.2 (hstep.trans (runWord_ok (execWord_of_decode hdec _) hr))
    have hbegun : palLegal t = true → palLegal (beginInstr t) = true := id
    refine ⟨fun hother => hfree (restriction_none hother), fun hlegal hop => ⟨fun hfourth => ?_, fun hplace => ?_⟩,
      fun hlegal hfp => ⟨fun hbeside => ?_, fun hnone => ?_⟩, fun hlegal hop => ⟨fun ⟨y, hy, hfp⟩ => ?_, fun hnofp => ?_⟩⟩
    · exact hrefused ((restriction_hwLd (hbegun hlegal) hop).trans (if_pos ⟨hfourth.1, hm.symm.trans hfourth.2⟩))
    · exact hfree ((restriction_hwLd (hbegun hlegal) hop).trans (if_neg fun h => hplace ⟨h.1, hm.trans h.2⟩))
    · exact hrefused ((restriction_floating (hbegun hlegal) hfp).1 hbeside)
    · exact hfree ((restriction_floating (hbegun hlegal) hfp).2 hnone)
    · exact hrefused ((restriction_hwMtpr (hbegun hlegal) hop).trans (if_pos (List.any_eq_true.2 ⟨y, hy, hfp⟩)))
    · intro excepted beside hexcepted hbeside
      have hpure : ¬(blockWords (beginInstr t)).any isFpRestricted = true := fun hany => by
        obtain ⟨y, hy, hfp⟩ := List.any_eq_true.1 hany
        exact Bool.false_ne_true ((hnofp y hy).symm.trans hfp)
      have htrappable : (trappableTogether (beginInstr t) (blockWords (beginInstr t)) ((beginInstr t).pc.extractLsb' 2 2).toNat ||
          (previousWords (beginInstr t)).any (isTrappable (beginInstr t))) = true ↔
          (∃ y ∈ previousWords (beginInstr t), isTrappable (beginInstr t) y = true) ∨ (¬excepted ∧ beside) := by
        rw [Bool.or_eq_true, List.any_eq_true, trappableTogether_iff hat, ← Bool.not_eq_true, isDelayedReturn_iff hat, ← hexcepted, hbeside,
          or_comm, show ((beginInstr t).pc.extractLsb' 2 2).toNat = m from hm.symm]
        refine or_congr_right (and_congr_right fun _ => exists_congr fun k => and_congr_right fun hk => ?_)
        rw [returnsBehind_iff hat hk]
      have hvalue := (restriction_hwMtpr (hbegun hlegal) hop).trans (if_neg hpure)
      exact ⟨fun h => hrefused (hvalue.trans (if_pos (htrappable.2 h))), fun h => hfree (hvalue.trans (if_neg (h ∘ htrappable.1)))⟩

end Sys2Proof.Machine
end


/-! # Settling O56 and O55: what HW_MTPR writes -/

section

namespace Sys2Proof.Machine

/-! ### The write -/

section
variable {s : State} (hlegal : palLegal s = true) (ra rb : Reg) (index scbd : BitVec 8)
include hlegal

theorem exec_hwMtpr : exec (.hwMtpr ra rb index scbd) s =
    if barrierHeld s index then .next (wait s) else finishMtpr (writeIpr s index (readInt s rb)) := if_pos hlegal

variable {ra rb index scbd}

theorem exec_hwMtpr_ok (hfree : barrierHeld s index = false) {t : State} (h : writeIpr s index (readInt s rb) = .ok t) :
    exec (.hwMtpr ra rb index scbd) s = .next (advance t) := by
  rw [exec_hwMtpr hlegal, hfree, h, if_neg Bool.false_ne_true]
  rfl

theorem exec_hwMtpr_error (hfree : barrierHeld s index = false) {f : Fault} (h : writeIpr s index (readInt s rb) = .error f) :
    exec (.hwMtpr ra rb index scbd) s = .fault f := by
  rw [exec_hwMtpr hlegal, hfree, h, if_neg Bool.false_ne_true]
  rfl

theorem completes_hwMtpr (hfree : barrierHeld s index = false) {t : State} (h : writeIpr s index (readInt s rb) = .ok t)
    (hpc : t.pc = s.pc) : Completes (exec (.hwMtpr ra rb index scbd) s) (OnlyPc t (s.pc + 4)) := by
  rw [exec_hwMtpr_ok hlegal hfree h, ← hpc]
  exact completes_next rfl

end

theorem barrierHeld_other {s : State} {index : BitVec 8} (h : index ≠ 0x21#8 ∧ index ≠ 0x01#8) : barrierHeld s index = false := by
  rw [← Bool.not_eq_true, barrierHeld_iff]
  rintro ⟨-, -, hpte | ⟨hpte, -⟩⟩
  · exact h.1 hpte
  · exact h.2 hpte

/-! ### Invalidates -/

theorem getElem?_dropItb {p : TbEntry → Bool} {l : List TbEntry} {n : Nat} {e : TbEntry} (h : l[n]? = some e) :
    (dropItb p l)[n]? = some (if p e then { e with valid := false } else e) := by
  rw [dropItb, List.getElem?_map, h]
  rfl

theorem getElem?_dropDtb {p : TbEntry → Bool} {l : List DtbEntry} {n : Nat} {e : DtbEntry} (h : l[n]? = some e) :
    (dropDtb p l)[n]? = some (if p e.toTbEntry then { e with valid := false } else e) := by
  rw [dropDtb, List.getElem?_map, h]
  rfl

/-- The entries that a test names lose their valid bit, the others stay. -/
theorem dropItb_entry {p : TbEntry → Bool} {kept : TbEntry → Prop} (hp : ∀ e, p e = true ↔ ¬kept e) (l : List TbEntry) :
    (dropItb p l).length = l.length ∧ ∀ (n : Nat) (e : TbEntry), l[n]? = some e →
      (kept e → (dropItb p l)[n]? = some e) ∧ (¬kept e → (dropItb p l)[n]? = some { e with valid := false }) := by
  refine ⟨List.length_map _, fun n e he => ?_⟩
  rw [getElem?_dropItb he]
  exact ⟨fun hkept => by rw [if_neg fun h => (hp e).1 h hkept], fun hdropped => by rw [if_pos ((hp e).2 hdropped)]⟩

/-- A DTB bank in which the entries that `kept` does not name have lost their valid bit. -/
def DropsTo (kept : TbEntry → Prop) (l l' : List DtbEntry) : Prop :=
  l'.length = l.length ∧ ∀ (n : Nat) (e : DtbEntry), l[n]? = some e →
    (kept e.toTbEntry → l'[n]? = some e) ∧ (¬kept e.toTbEntry → l'[n]? = some { e with valid := false })

theorem dropDtb_entry {p : TbEntry → Bool} {kept : TbEntry → Prop} (hp : ∀ e, p e = true ↔ ¬kept e) (l : List DtbEntry) :
    DropsTo kept l (dropDtb p l) := by
  refine ⟨List.length_map _, fun n e he => ?_⟩
  rw [getElem?_dropDtb he]
  exact ⟨fun hkept => by rw [if_neg fun h => (hp e.toTbEntry).1 h hkept], fun hdropped => by rw [if_pos ((hp e.toTbEntry).2 hdropped)]⟩

/-- A bank that is not touched. -/
theorem undropped (l : List DtbEntry) : DropsTo (fun _ => True) l l :=
  ⟨rfl, fun _ _ he => ⟨fun _ => he, fun h => absurd trivial h⟩⟩

theorem not_asm_iff (e : TbEntry) : (!e.asm) = true ↔ ¬e.asm = true := by rw [Bool.not_eq_true', Bool.not_eq_true]

theorem tbSingle_iff (asn : BitVec 8) (v : Word) (e : TbEntry) : tbSingle e asn v = true ↔ ¬¬EntryMatches e asn v := by
  rw [tbSingle, tbHits_iff, not_not]

/-! ### Fills -/

theorem dtbHolds_iff (bank : List DtbEntry) (tag : BitVec 35) (asn : BitVec 8) :
    dtbHolds bank tag asn = true ↔ ∃ e ∈ bank, EntryMatches e.toTbEntry asn (tag.setWidth 64 <<< 13) := by
  have hvpn : vpnOf (tag.setWidth 64 <<< 13) = tag := extractLsb'_eq_iff.2 fun i hi => by
    rw [getLsbD_fieldAt tag (by norm_num), decide_eq_true (by omega), Bool.true_and, Nat.add_sub_cancel_left]
  have hhits : ∀ e : DtbEntry, (e.valid && (e.asm || e.asn == asn) && sameGroup e.gh e.tag tag) =
      tbHits e.toTbEntry asn (tag.setWidth 64 <<< 13) := fun e => by rw [tbHits, hvpn]
  simp only [dtbHolds, hhits, List.any_eq_true, tbHits_iff]

theorem fillBank_held {bank : List DtbEntry} {ptr : BitVec 7} {tag : BitVec 35} {pte : Word} {asn : BitVec 8} {held : Prop}
    (h : held ↔ ∃ e ∈ bank, EntryMatches e.toTbEntry asn (tag.setWidth 64 <<< 13)) :
    (held → fillBank bank ptr tag pte asn = bank) ∧
      (¬held → fillBank bank ptr tag pte asn = bank.set ptr.toNat (newDtbEntry tag pte asn)) := by
  rw [fillBank, h, ← dtbHolds_iff]
  exact ⟨fun hheld => if_pos hheld, fun hfree => if_neg hfree⟩

/-- Settles O56. -/
theorem hwMtprTranslationBuffers : Obligations.HwMtprTranslationBuffers := by
  unfold Obligations.HwMtprTranslationBuffers
  rintro ra rb scbd s _ rfl hlegal
  have hwrites : ∀ (index : BitVec 8) (t : State), index ≠ 0x21#8 ∧ index ≠ 0x01#8 → writeIpr s index (readInt s rb) = .ok t →
      t.pc = s.pc → Completes (exec (.hwMtpr ra rb index scbd) s) (OnlyPc t (s.pc + 4)) :=
    fun index t hindex => completes_hwMtpr hlegal (barrierHeld_other hindex)
  refine ⟨?holding, fun hfree => ?pte0, fun hheld => ?held, fun hnative => ?native, fun hpal => ?itb, ?dtb, ?fill⟩
  case holding =>
    simp only [List.forall_mem_cons (l := _ :: _), List.forall_mem_singleton]
    exact ⟨hwrites _ _ (by decide) rfl rfl, hwrites _ _ (by decide) rfl rfl, hwrites _ _ (by decide) rfl rfl,
      hwrites _ _ (by decide) rfl rfl⟩
  case pte0 => exact completes_hwMtpr hlegal (barrierHeld_free hfree _) rfl rfl
  case held =>
    rw [Bool.and_eq_true] at hheld
    obtain ⟨hack, hbarrier⟩ := hheld
    refine ⟨?_, fun hpal => ?_⟩
    · rw [exec_hwMtpr hlegal, if_pos ((barrierHeld_iff s 0x21).2 ⟨hack, hbarrier, .inl rfl⟩)]
      rfl
    · rw [exec_hwMtpr hlegal, if_pos ((barrierHeld_iff s 0x01).2 ⟨hack, hbarrier, .inr ⟨rfl, hpal⟩⟩)]
      rfl
  case native =>
    have hrefused : ∀ k, inPalMode s k = .error .itbWriteInNativeMode := fun k => if_neg (by rw [hnative]; exact Bool.false_ne_true)
    have hpte : barrierHeld s 0x01 = false := by simp [barrierHeld, hnative]
    simp only [List.forall_mem_cons (l := _ :: _), List.forall_mem_singleton]
    exact ⟨exec_hwMtpr_error hlegal (barrierHeld_other (by decide)) (hrefused _), exec_hwMtpr_error hlegal hpte (hrefused _),
      exec_hwMtpr_error hlegal (barrierHeld_other (by decide)) (hrefused _),
      exec_hwMtpr_error hlegal (barrierHeld_other (by decide)) (hrefused _),
      exec_hwMtpr_error hlegal (barrierHeld_other (by decide)) (hrefused _)⟩
  case itb =>
    have hallowed : ∀ k, inPalMode s k = .ok k := fun k => if_pos hpal
    have hdrops : ∀ (index : BitVec 8) (p : TbEntry → Bool) (kept : TbEntry → Prop) (ptr : BitVec 7) (init : Bool),
        index ≠ 0x21#8 ∧ index ≠ 0x01#8 → (∀ e, p e = true ↔ ¬kept e) →
        writeIpr s index (readInt s rb) = .ok { s with itb := dropItb p s.itb, itbPtr := ptr, itbInit := init } →
        Completes (exec (.hwMtpr ra rb index scbd) s) fun t =>
          OnlyPc { s with itb := t.itb, itbPtr := ptr, itbInit := init } (s.pc + 4) t ∧ t.itb.length = s.itb.length ∧
          ∀ (n : Nat) (e : TbEntry), s.itb[n]? = some e →
            (kept e → t.itb[n]? = some e) ∧ (¬kept e → t.itb[n]? = some { e with valid := false }) := by
      intro index p kept ptr init hindex hp hwrite
      rw [exec_hwMtpr_ok hlegal (barrierHeld_other hindex) hwrite]
      exact completes_next ⟨rfl, dropItb_entry hp s.itb⟩
    refine ⟨hwrites _ _ (by decide) (hallowed _) rfl, fun hfree => completes_hwMtpr hlegal (barrierHeld_free hfree _) (hallowed _) rfl, ?_⟩
    simp only [List.forall_mem_cons (l := _ :: _), List.forall_mem_singleton]
    exact ⟨hdrops _ _ _ _ _ (by decide) not_asm_iff (hallowed _),
      hdrops _ _ _ _ _ (by decide) (fun _ => ⟨fun _ h => h, fun _ => rfl⟩) (hallowed _),
      hdrops _ _ _ _ _ (by decide) (tbSingle_iff _ _) (hallowed _)⟩
  case dtb =>
    have hdrops : ∀ (index : BitVec 8) (kept0 kept1 : TbEntry → Prop) (ptr : BitVec 7) (l0 l1 : List DtbEntry),
        index ≠ 0x21#8 ∧ index ≠ 0x01#8 → DropsTo kept0 s.dtb0 l0 → DropsTo kept1 s.dtb1 l1 →
        writeIpr s index (readInt s rb) = .ok { s with dtb0 := l0, dtb1 := l1, dtbPtr := ptr } →
        Completes (exec (.hwMtpr ra rb index scbd) s) fun t =>
          OnlyPc { s with dtb0 := t.dtb0, dtb1 := t.dtb1, dtbPtr := ptr } (s.pc + 4) t ∧ t.dtb0.length = s.dtb0.length ∧
          t.dtb1.length = s.dtb1.length ∧
          (∀ (n : Nat) (e : DtbEntry), s.dtb0[n]? = some e →
            (kept0 e.toTbEntry → t.dtb0[n]? = some e) ∧ (¬kept0 e.toTbEntry → t.dtb0[n]? = some { e with valid := false })) ∧
          ∀ (n : Nat) (e : DtbEntry), s.dtb1[n]? = some e →
            (kept1 e.toTbEntry → t.dtb1[n]? = some e) ∧ (¬kept1 e.toTbEntry → t.dtb1[n]? = some { e with valid := false }) := by
      rintro index kept0 kept1 ptr l0 l1 hindex ⟨hlength0, h0⟩ ⟨hlength1, h1⟩ hwrite
      rw [exec_hwMtpr_ok hlegal (barrierHeld_other hindex) hwrite]
      exact completes_next ⟨rfl, hlength0, hlength1, h0, h1⟩
    have hall : ∀ e : TbEntry, true = true ↔ ¬False := fun _ => ⟨fun _ h => h, fun _ => rfl⟩
    simp only [List.forall_mem_cons (l := _ :: _), List.forall_mem_singleton]
    exact ⟨hdrops _ _ _ _ _ _ (by decide) (dropDtb_entry not_asm_iff _) (dropDtb_entry not_asm_iff _) rfl,
      hdrops _ _ _ _ _ _ (by decide) (dropDtb_entry (kept := fun _ => False) hall _)
        (dropDtb_entry (kept := fun _ => False) hall _) rfl,
      hdrops _ _ _ _ _ _ (by decide) (dropDtb_entry (tbSingle_iff _ _) _) (undropped _) rfl,
      hdrops _ _ _ _ _ _ (by decide) (undropped _) (dropDtb_entry (tbSingle_iff _ _) _) rfl⟩
  case fill =>
    intro held0 held1 h0 h1 new hnew
    have hnew' : ∀ tag pte asn, new tag pte asn = newDtbEntry tag pte asn := hnew
    have hboth : (dtbHolds s.dtb0 s.dtbTag0 s.dtbAsn0 && dtbHolds s.dtb1 s.dtbTag1 s.dtbAsn1) = true ↔ held0 ∧ held1 := by
      rw [Bool.and_eq_true, dtbHolds_iff, dtbHolds_iff, h0, h1]
    rw [exec_hwMtpr_ok hlegal (barrierHeld_other (by decide)) rfl, hnew', hnew']
    exact completes_next ⟨rfl, (fillBank_held h0).1, (fillBank_held h0).2, (fillBank_held h1).1, (fillBank_held h1).2,
      fun h => if_pos (hboth.2 h), fun h => if_neg (h ∘ hboth.1)⟩

end Sys2Proof.Machine
end


/-! # Settling O55: the registers that HW_MTPR writes -/

section

namespace Sys2Proof.Machine

/-! ### The bits that a mask implements, as fields -/

/-- Bits of a mask of three ranges. -/
theorem getLsbD_and_of {m : Word} {P : Nat → Bool} (h : ∀ i : Fin 64, m.getLsbD i.val = P i.val) (v : Word) {i : Nat} (hi : i < 64) :
    (v &&& m).getLsbD i = (v.getLsbD i && P i) := by rw [BitVec.getLsbD_and, h ⟨i, hi⟩]

theorem and_sirrMask (v : Word) : v &&& 0x1FFFC000 = 0#35 ++ v.extractLsb' 14 15 ++ 0#14 := by
  refine BitVec.eq_of_getLsbD_eq fun i hi => ?_
  rw [getLsbD_and_of (P := fun i => decide (14 ≤ i ∧ i ≤ 28)) (by decide) v hi]
  simp only [BitVec.getLsbD_append, BitVec.getLsbD_extractLsb', BitVec.getLsbD_zero]
  grind

theorem and_vaCtlMask (v : Word) : v &&& 0xFFFFFFFFC0000007 = v.extractLsb' 30 34 ++ 0#27 ++ v.extractLsb' 0 3 := by
  refine BitVec.eq_of_getLsbD_eq fun i hi => ?_
  rw [getLsbD_and_of (P := fun i => decide (i ≤ 2 ∨ 30 ≤ i)) (by decide) v hi]
  simp only [BitVec.getLsbD_append, BitVec.getLsbD_extractLsb', BitVec.getLsbD_zero]
  grind

theorem and_palBaseMask (v : Word) : v &&& 0x00000FFFFFFF8000 = 0#20 ++ v.extractLsb' 15 29 ++ 0#15 := by
  refine BitVec.eq_of_getLsbD_eq fun i hi => ?_
  rw [getLsbD_and_of (P := fun i => decide (15 ≤ i ∧ i ≤ 43)) (by decide) v hi]
  simp only [BitVec.getLsbD_append, BitVec.getLsbD_extractLsb', BitVec.getLsbD_zero]
  grind

theorem and_mCtlMask (v : Word) : v &&& 0x3E = 0#58 ++ v.extractLsb' 1 5 ++ 0#1 := by
  refine BitVec.eq_of_getLsbD_eq fun i hi => ?_
  rw [getLsbD_and_of (P := fun i => decide (1 ≤ i ∧ i ≤ 5)) (by decide) v hi]
  simp only [BitVec.getLsbD_append, BitVec.getLsbD_extractLsb', BitVec.getLsbD_zero]
  grind

theorem and_iCtlMask (v : Word) : v &&& iCtlMask =
    0#16 ++ v.extractLsb' 30 18 ++ 0#7 ++ v.extractLsb' 15 8 ++ 0#1 ++ v.extractLsb' 0 14 := by
  refine BitVec.eq_of_getLsbD_eq fun i hi => ?_
  rw [getLsbD_and_of (P := fun i => decide (i < 48 ∧ i ≠ 14 ∧ ¬(23 ≤ i ∧ i ≤ 29))) (by decide) v hi]
  simp only [BitVec.getLsbD_append, BitVec.getLsbD_extractLsb', BitVec.getLsbD_zero]
  grind

theorem and_dcCtlMask {v : Word} (h : v.getLsbD 2 = false) : v &&& 0xF7 = 0#56 ++ v.extractLsb' 4 4 ++ 0#2 ++ v.extractLsb' 0 2 := by
  refine BitVec.eq_of_getLsbD_eq fun i hi => ?_
  rw [getLsbD_and_of (P := fun i => decide (i ≤ 7 ∧ i ≠ 3)) (by decide) v hi]
  simp only [BitVec.getLsbD_append, BitVec.getLsbD_extractLsb', BitVec.getLsbD_zero]
  grind

/-- A write of CC replaces its high longword, a write of CC_CTL its low one but for four bits. -/
theorem mergeMask_cc (old v : Word) : mergeMask old 0xFFFFFFFF00000000 v = v.extractLsb' 32 32 ++ old.extractLsb' 0 32 := by
  refine BitVec.eq_of_getLsbD_eq fun i hi => ?_
  rw [getLsbD_mergeMask, getLsbD_of_mask (lo := 32) (hi := 63) (by decide) (by norm_num)]
  simp only [BitVec.getLsbD_append, BitVec.getLsbD_extractLsb']
  grind

theorem mergeMask_ccCtl (old v : Word) :
    mergeMask old 0xFFFFFFFF (v &&& 0xFFFFFFF0) = old.extractLsb' 32 32 ++ v.extractLsb' 4 28 ++ 0#4 := by
  refine BitVec.eq_of_getLsbD_eq fun i hi => ?_
  rw [getLsbD_mergeMask, getLsbD_of_mask (lo := 0) (hi := 31) (by decide) (by norm_num),
    getLsbD_and_of (P := fun i => decide (4 ≤ i ∧ i ≤ 31)) (by decide) v hi]
  simp only [BitVec.getLsbD_append, BitVec.getLsbD_extractLsb', BitVec.getLsbD_zero]
  grind

theorem mergeMask_zero (old new : Word) : mergeMask old 0 new = old := by
  rw [mergeMask, show ~~~(0 : Word) = BitVec.allOnes 64 by decide, BitVec.and_allOnes, BitVec.ofNat_eq_ofNat, BitVec.and_zero,
    BitVec.or_zero]

theorem shiftOut_eq (v : BitVec 66) : v.extractLsb' 0 60 ++ 0#6 = v <<< 6 := by
  refine BitVec.eq_of_getLsbD_eq fun i hi => ?_
  rw [BitVec.getLsbD_append, BitVec.getLsbD_extractLsb', BitVec.getLsbD_zero, BitVec.getLsbD_shiftLeft]
  grind

theorem getLsbD_optionalMask {m : Word} {P : Nat → Bool} (h : ∀ i : Fin 64, m.getLsbD i.val = P i.val) (b : Bool) {i : Nat}
    (hi : i < 64) : (if b then m else 0).getLsbD i = (b && P i) := by
  cases b with
  | true => exact h ⟨i, hi⟩
  | false => exact BitVec.getLsbD_zero

theorem getLsbD_ierCmMask (index : BitVec 8) {n : Nat} (hn : n < 64) : (ierCmMask index).getLsbD n =
    (index.getLsbD 1 && decide (13 ≤ n ∧ n ≤ 38) || index.getLsbD 0 && decide (n = 3 ∨ n = 4)) := by
  rw [ierCmMask, BitVec.getLsbD_or, getLsbD_optionalMask (P := fun n => decide (13 ≤ n ∧ n ≤ 38)) (by decide) _ hn,
    getLsbD_optionalMask (P := fun n => decide (n = 3 ∨ n = 4)) (by decide) _ hn]

theorem getLsbD_pctxMask (index : BitVec 8) {n : Nat} (hn : n < 64) : (pctxMask index).getLsbD n =
    (index.getLsbD 0 && decide (39 ≤ n ∧ n ≤ 46) || index.getLsbD 1 && decide (5 ≤ n ∧ n ≤ 8) ||
      index.getLsbD 2 && decide (9 ≤ n ∧ n ≤ 12) || index.getLsbD 3 && decide (n = 1) || index.getLsbD 4 && decide (n = 2)) := by
  rw [pctxMask, BitVec.getLsbD_or, BitVec.getLsbD_or, BitVec.getLsbD_or, BitVec.getLsbD_or,
    getLsbD_optionalMask (P := fun n => decide (39 ≤ n ∧ n ≤ 46)) (by decide) _ hn,
    getLsbD_optionalMask (P := fun n => decide (5 ≤ n ∧ n ≤ 8)) (by decide) _ hn,
    getLsbD_optionalMask (P := fun n => decide (9 ≤ n ∧ n ≤ 12)) (by decide) _ hn,
    getLsbD_optionalMask (P := fun n => decide (n = 1)) (by decide) _ hn,
    getLsbD_optionalMask (P := fun n => decide (n = 2)) (by decide) _ hn]

/-! ### Indices -/

/-- PCTX takes the indices 40 to 7F. -/
theorem writeIpr_pctx (s : State) {index : BitVec 8} (h : index.extractLsb' 6 2 = 1#2) (v : Word) :
    writeIpr s index v = keepsCounters s { s with pctx := mergeMask s.pctx (pctxMask index) v } := by
  have hrange : 0x40 ≤ index.toNat ∧ index.toNat ≤ 0x7F := by
    have hfield := congrArg BitVec.toNat h
    rw [BitVec.extractLsb'_toNat, Nat.shiftRight_eq_div_pow] at hfield
    have hone : (1#2).toNat = 1 := rfl
    omega
  unfold writeIpr
  split
  case h_39 => exact if_pos hrange
  all_goals omega

/-- A read-only or unassigned index. -/
theorem writeIpr_unassigned (s : State) {index : BitVec 8} (h : index.extractLsb' 6 2 ≠ 1#2)
    (hlist : index ∉ [0xC0, 0xC1, 0xC4, 0x00, 0x01, 0x02, 0x03, 0x04, 0x08, 0x09, 0x0A, 0x0B, 0x0C, 0x0E, 0x10, 0x11, 0x12, 0x13, 0x14,
      0x15, 0x16, 0x17, 0x20, 0xA0, 0x21, 0xA1, 0x26, 0xA2, 0xA3, 0x24, 0xA4, 0x25, 0xA5, 0x28, 0x29, 0x2A, 0x2B, 0x2C]) (v : Word) :
    writeIpr s index v = .ok s := by
  have hrange : ¬(0x40 ≤ index.toNat ∧ index.toNat ≤ 0x7F) := by
    rintro ⟨hlow, hhigh⟩
    refine h (BitVec.eq_of_toNat_eq ?_)
    rw [BitVec.extractLsb'_toNat, Nat.shiftRight_eq_div_pow]
    have hone : (1#2).toNat = 1 := rfl
    omega
  have hindex : ∀ n, index.toNat = n → BitVec.ofNat 8 n ∉ _ := fun n hn hmem => hlist (by rwa [← hn, BitVec.ofNat_toNat, BitVec.setWidth_eq] at hmem)
  unfold writeIpr
  split
  case h_39 => exact if_neg hrange
  all_goals
    next hn => exact absurd (by decide) (hindex _ hn)

/-! ### The counters -/

/-- What R1028 refuses of a write that leaves the counters as they are. -/
theorem stopsNearOverflow_iff {s t : State} (h : t.pctr = s.pctr) : stopsNearOverflow s t = true ↔
    pctr0Enabled s = true ∧ pctr0Enabled t = false ∧ 2 ^ 20 - 16 < s.pctr.pctr0.toNat ∨
      pctr1Enabled s = true ∧ pctr1Enabled t = false ∧ 2 ^ 20 - 4 < s.pctr.pctr1.toNat := by
  rw [stopsNearOverflow, nearOverflow0, nearOverflow1, h]
  simp only [Bool.or_eq_true, Bool.and_eq_true, Bool.not_eq_true', decide_eq_true_iff, and_assoc]

theorem keepsCounters_of {s t : State} {stops : Prop} (h : stopsNearOverflow s t = true ↔ stops) :
    (¬stops → keepsCounters s t = .ok t) ∧ (stops → keepsCounters s t = .error .counterNearOverflow) :=
  ⟨fun hkeeps => if_neg (hkeeps ∘ h.1), fun hstops => if_pos (h.2 hstops)⟩

/-- Counter 0 as a write of PCTR_CTL leaves it (R874). -/
def writtenPctr0 (s : State) (v : Word) : BitVec 20 :=
  if v.getLsbD 4 then v.extractLsb' 28 20 + quirk (Config.freeQuad s.free) else v.extractLsb' 28 20

theorem writtenPctr0_le (s : State) (v : Word) : (writtenPctr0 s v - v.extractLsb' 28 20).toNat ≤ 4 := by
  rw [writtenPctr0]
  split
  · rw [BitVec.add_comm, BitVec.add_sub_cancel, quirk, BitVec.toNat_ofNat]
    omega
  · rw [BitVec.sub_self]
    exact Nat.zero_le 4

theorem idleNearOverflow_writePctr (s : State) (v : Word) : idleNearOverflow (writePctr s v) = true ↔
    pctr0Enabled s = false ∧ 2 ^ 20 - 16 < (writtenPctr0 s v).toNat ∨
      pctr1Enabled s = false ∧ 2 ^ 20 - 4 < (v.extractLsb' 6 20).toNat := by
  have h : idleNearOverflow (writePctr s v) =
      (!pctr0Enabled s && decide (2 ^ 20 - 16 < (writtenPctr0 s v).toNat) ||
        !pctr1Enabled s && decide (2 ^ 20 - 4 < (v.extractLsb' 6 20).toNat)) := rfl
  rw [h]
  simp only [Bool.or_eq_true, Bool.and_eq_true, Bool.not_eq_true', decide_eq_true_iff]

/-! ### Sleep and the register map -/

theorem writeSleep_eq (s : State) : writeSleep s = { s with sleepArmed := true, asleep := s.sleepArmed || s.asleep } := by
  rw [writeSleep]
  split
  · next harmed =>
    rw [harmed, Bool.true_or, ← harmed]
  · next harmed =>
    rw [Bool.not_eq_true] at harmed
    rw [harmed, Bool.false_or]

theorem scrambleRegs_frame (s : State) : scrambleRegs s = { s with
    intRegs := (scrambleRegs s).intRegs, shadow := (scrambleRegs s).shadow, fpRegs := (scrambleRegs s).fpRegs,
    free := (scrambleRegs s).free } := by simp only [scrambleRegs]

/-! ### IER_CM -/

/-- The index of IER_CM names the parts that are written. -/
theorem ierCm_index (i1 i0 : Bool) : (0b000010#6 ++ BitVec.ofBool i1 ++ BitVec.ofBool i0 : BitVec 8).getLsbD 1 = i1 ∧
    (0b000010#6 ++ BitVec.ofBool i1 ++ BitVec.ofBool i0 : BitVec 8).getLsbD 0 = i0 := by revert i1 i0; decide

theorem writeIpr_ierCm (s : State) (i1 i0 : Bool) (v : Word) :
    writeIpr s (0b000010#6 ++ BitVec.ofBool i1 ++ BitVec.ofBool i0 : BitVec 8) v =
      .ok { s with ierCm := mergeMask s.ierCm (ierCmMask (0b000010#6 ++ BitVec.ofBool i1 ++ BitVec.ofBool i0 : BitVec 8)) v } := by
  cases i1 <;> cases i0 <;> rfl

/-- Settles O55. -/
theorem hwMtprRegisters : Obligations.HwMtprRegisters := by
  unfold Obligations.HwMtprRegisters
  intro ra rb scbd s v hv hlegal stops hstops
  have hfree : ∀ {index : BitVec 8}, index ≠ 0x21#8 ∧ index ≠ 0x01#8 → barrierHeld s index = false := barrierHeld_other
  have hwrites : ∀ {index : BitVec 8} {t : State}, index ≠ 0x21#8 ∧ index ≠ 0x01#8 → writeIpr s index v = .ok t →
      t.pc = s.pc → Completes (exec (.hwMtpr ra rb index scbd) s) (OnlyPc t (s.pc + 4)) :=
    fun hindex hwrite => completes_hwMtpr hlegal (hfree hindex) ((congrArg _ hv.symm).trans hwrite)
  have hfaults : ∀ {index : BitVec 8} {f : Fault}, index ≠ 0x21#8 ∧ index ≠ 0x01#8 → writeIpr s index v = .error f →
      exec (.hwMtpr ra rb index scbd) s = .fault f :=
    fun hindex hwrite => exec_hwMtpr_error hlegal (hfree hindex) ((congrArg _ hv.symm).trans hwrite)
  refine ⟨?plain, fun i1 i0 => ?ierCm, fun index w hindex hw => ?pctx, fun hsets t ht => ?iCtl, fun hsets => ?noSet, fun hhit hsets => ?dcCtl,
    fun hhit => ?forceHit, fun hhit hsets => ?noDcSet, ?pctr, ?map, ?shift, fun index hindex hlist => ?unassigned⟩
  case plain =>
    simp only [List.forall_mem_cons (l := _ :: _), List.forall_mem_singleton, ← mergeMask_cc, ← mergeMask_ccCtl, ← and_vaCtlMask,
      ← and_sirrMask, ← and_palBaseMask, ← and_mCtlMask, ← writeSleep_eq]
    refine ⟨?_, ?_, ?_, ?_, ?_, ?_, ?_, ?_, ?_, ?_, ?_, ?_, ?_, ?_, ?_⟩
    case refine_4 =>
      have hwrite : writeIpr s 0x08 v = .ok { s with ierCm := mergeMask s.ierCm 0 v } := rfl
      have hsame : writeIpr s 0x08 v = .ok s := by rw [hwrite, mergeMask_zero]
      exact hwrites (by decide) hsame rfl
    case refine_11 =>
      have hsleep : (writeSleep s).pc = s.pc := by rw [writeSleep_eq]
      exact hwrites (by decide) rfl hsleep
    all_goals exact hwrites (by decide) rfl rfl
  case ierCm =>
    obtain ⟨h1, h0⟩ := ierCm_index i1 i0
    have hindex : ∀ i1 i0 : Bool, (0b000010#6 ++ BitVec.ofBool i1 ++ BitVec.ofBool i0 : BitVec 8) ≠ 0x21#8 ∧
        (0b000010#6 ++ BitVec.ofBool i1 ++ BitVec.ofBool i0 : BitVec 8) ≠ 0x01#8 := by decide
    rw [exec_hwMtpr_ok hlegal (hfree (hindex i1 i0)) ((congrArg _ hv.symm).trans (writeIpr_ierCm s i1 i0 v))]
    refine completes_next ⟨rfl, fun n hn => ?_⟩
    show (mergeMask s.ierCm _ v).getLsbD n = _
    rw [getLsbD_mergeMask, getLsbD_ierCmMask _ hn, h1, h0]
  case pctx =>
    have hw' : w = mergeMask s.pctx (pctxMask index) v := BitVec.eq_of_getLsbD_eq fun n hn => by
      rw [hw n hn, getLsbD_mergeMask, getLsbD_pctxMask _ hn]
    have hplace : index ≠ 0x21#8 ∧ index ≠ 0x01#8 := by constructor <;> rintro rfl <;> exact absurd hindex (by decide)
    obtain ⟨hkeeps, hrefuses⟩ := keepsCounters_of ((stopsNearOverflow_iff (s := s) (t := { s with pctx := w }) rfl).trans
      (hstops { s with pctx := w }).symm)
    have hwrite := writeIpr_pctx s hindex v
    rw [← hw'] at hwrite
    exact ⟨fun h => hwrites hplace (hwrite.trans (hkeeps h)) rfl, fun h => hfaults hplace (hwrite.trans (hrefuses h))⟩
  case iCtl =>
    rw [← and_iCtlMask] at ht
    subst ht
    obtain ⟨hkeeps, hrefuses⟩ := keepsCounters_of ((stopsNearOverflow_iff (s := s) (t := { s with iCtl := v &&& iCtlMask }) rfl).trans
      (hstops { s with iCtl := v &&& iCtlMask }).symm)
    have hwrite : writeIpr s 0x11 v = keepsCounters s { s with iCtl := v &&& iCtlMask } := if_neg hsets
    exact ⟨fun h => hwrites (by decide) (hwrite.trans (hkeeps h)) rfl, fun h => hfaults (by decide) (hwrite.trans (hrefuses h))⟩
  case noSet => exact hfaults (by decide) (if_pos hsets)
  case dcCtl =>
    rw [← and_dcCtlMask hhit]
    have hwrite : writeIpr s 0x29 v = .ok { s with dcCtl := v &&& 0xF7 } :=
      (if_neg (by rw [hhit]; exact Bool.false_ne_true)).trans (if_neg hsets)
    exact hwrites (by decide) hwrite rfl
  case forceHit => exact hfaults (by decide) (if_pos hhit)
  case noDcSet => exact hfaults (by decide) ((if_neg (by rw [hhit]; exact Bool.false_ne_true)).trans (if_pos hsets))
  case pctr =>
    refine ⟨writtenPctr0 s v, fun hoff => if_neg (by rw [hoff]; exact Bool.false_ne_true), writtenPctr0_le s v, fun leaves hleaves => ?_⟩
    rw [← idleNearOverflow_writePctr] at hleaves
    have hwrite : writeIpr s 0x14 v = keepsWritten (writePctr s v) := rfl
    refine ⟨fun h => hfaults (by decide) (hwrite.trans (if_pos (hleaves.1 h))), fun h => ?_⟩
    have hok : keepsWritten (writePctr s v) = .ok (writePctr s v) := if_neg (h ∘ hleaves.2)
    rw [exec_hwMtpr_ok hlegal (hfree (by decide)) ((congrArg _ hv.symm).trans (hwrite.trans hok))]
    exact completes_next rfl
  case map =>
    have hwrite : writeIpr s 0x15 v = .ok (scrambleRegs s) := rfl
    rw [exec_hwMtpr_ok hlegal (hfree (by decide)) ((congrArg _ hv.symm).trans hwrite), scrambleRegs_frame]
    exact completes_next rfl
  case shift =>
    rw [← shiftOut_eq]
    exact hwrites (by decide) (t := shiftErrorReg s) rfl rfl
  case unassigned =>
    refine hwrites ?_ (writeIpr_unassigned s hindex hlist v) rfl
    simp only [List.mem_cons, not_or] at hlist
    tauto

end Sys2Proof.Machine
end


/-! # Settling O57: HW_LD and HW_ST by type (spec/49_palcode_instr.md section 4) -/

section

namespace Sys2Proof.Machine

/-! ### The datum and its place -/

theorem hwAlign_length (len : BitVec 1) (pa : PhysAddr) :
    hwAlign pa (hwLength len) = if len = 1 then pa &&& ~~~7#44 else pa &&& ~~~3#44 := by
  rw [hwAlign, hwLength]
  split <;> rfl

theorem hwLength_le (len : BitVec 1) : hwLength len ≤ 8 := by
  rw [hwLength]
  split <;> norm_num

theorem hwExtend_eq (len : BitVec 1) (v : Word) : hwExtend len v = (v.setWidth (8 * hwLength len)).signExtend 64 := by
  by_cases hlen : len = 1
  · subst hlen
    show v = (v.setWidth 64).signExtend 64
    rw [BitVec.setWidth_eq, BitVec.signExtend_eq]
  · have hlength : hwLength len = 4 := if_neg hlen
    rw [hwExtend, if_neg hlen, sextLong_eq, hlength]

section
variable {s : State} (hlegal : palLegal s = true) (ra rb : Reg) (ty : BitVec 3) (len : BitVec 1) (disp : BitVec 12)
include hlegal

theorem exec_hwLd : exec (.hwLd ra rb ty len disp) s = hwLoad s ra ty len (readInt s rb + disp.signExtend 64) := if_pos hlegal

theorem exec_hwSt : exec (.hwSt ra rb ty len disp) s = hwStore s ra ty len (readInt s rb + disp.signExtend 64) := if_pos hlegal

end

/-! ### Loads -/

section
variable {s : State} {ra : Reg} {len : BitVec 1} {ea : Word} {pa : PhysAddr}

/-- The physical types fault on nothing but a parity error. -/
theorem physReference_ok (h : tagParity s = false) (r : DataRef) (k : PhysAddr → Out) : physReference s r k = k (r.ea.setWidth 44) :=
  if_neg (by rw [h]; exact Bool.false_ne_true)

theorem finishHwLoad_prefetch (h : ra = 31) : finishHwLoad s ra len pa = notePrefetch s pa := if_pos h

/-- The datum of a HW_LD, and the state that it leaves. -/
theorem finishHwLoad_register (h : ra ≠ 31) : ∃ v u, Gets s (endianAddr s (hwAlign pa (hwLength len)) (hwLength len)) (hwLength len) v u ∧
    finishHwLoad s ra len pa = writeInt u ra ((v.setWidth (8 * hwLength len)).signExtend 64) := by
  refine ⟨_, _, gets_dataRead s (hwAlign pa (hwLength len)) (hwLength_le len), ?_⟩
  rw [finishHwLoad, if_neg h, hwExtend_eq]

theorem Gets.prefetches {n : Nat} {v : Word} {u : State} (h : Gets s pa n v u) : u.prefetches = s.prefetches := by
  rw [h.after]
  split <;> rfl

theorem Gets.lock {n : Nat} {v : Word} {u : State} (h : Gets s pa n v u) :
    u = { u with lockFlag := s.lockFlag, lockBlock := s.lockBlock, lockWatch := s.lockWatch } := by
  rw [h.after]
  split <;> rfl

theorem blockOf_setWidth (ea : Word) : (ea.setWidth 44).extractLsb' 6 38 = ea.extractLsb' 6 38 := by
  refine extractLsb'_eq_iff.2 fun i hi => ?_
  rw [BitVec.getLsbD_setWidth, BitVec.getLsbD_extractLsb']
  grind

/-- HW_LD Physical. -/
theorem completes_hwLoadPhysical (hpar : tagParity s = false) :
    (ra ≠ 31 → Completes (hwLoadPhysical s ra len ea false) fun t => ∃ v u,
      Gets s (endianAddr s (hwAlign (ea.setWidth 44) (hwLength len)) (hwLength len)) (hwLength len) v u ∧
        WroteInt { u with lockFlag := s.lockFlag, lockBlock := s.lockBlock, lockWatch := s.lockWatch } ra
          ((v.setWidth (8 * hwLength len)).signExtend 64) t) ∧
    (ra = 31 → Completes (hwLoadPhysical s ra len ea false) (OnlyPc (notePrefetch s (ea.setWidth 44)) (s.pc + 4))) := by
  rw [hwLoadPhysical, physReference_ok hpar]
  refine ⟨fun hra => ?_, fun hra => completes_next ?_⟩
  · obtain ⟨v, u, hgets, hdatum⟩ := finishHwLoad_register (s := s) (len := len) (pa := ea.setWidth 44) hra
    refine completes_next ⟨v, u, hgets, ?_⟩
    rw [← hgets.lock]
    show WroteInt u ra _ (advance (finishHwLoad s ra len (ea.setWidth 44)))
    rw [hdatum]
    exact wroteInt_advance _ _ _
  · show advance (finishHwLoad s ra len (ea.setWidth 44)) = _
    rw [finishHwLoad_prefetch hra]
    rfl

/-- HW_LD Physical/Lock. -/
theorem completes_hwLoadLocked (hpar : tagParity s = false) {near : Bool}
    (hnear : near = s.prefetches.any fun q => q.block == ea.extractLsb' 6 38 && decide (q.age ≤ 80)) :
    (ra ≠ 31 → Completes (hwLoadPhysical s ra len ea true) fun t => ∃ v u,
      Gets s (endianAddr s (hwAlign (ea.setWidth 44) (hwLength len)) (hwLength len)) (hwLength len) v u ∧
        WroteInt { u with
          lockFlag := true, lockBlock := ea.extractLsb' 6 38, lockWatch := { LockWatch.idle with prefetched := near } } ra
          ((v.setWidth (8 * hwLength len)).signExtend 64) t) ∧
    (ra = 31 → Completes (hwLoadPhysical s ra len ea true) (OnlyPc
      { s with lockFlag := true, lockBlock := ea.extractLsb' 6 38, lockWatch := { LockWatch.idle with prefetched := near } }
      (s.pc + 4))) := by
  rw [hwLoadPhysical, physReference_ok hpar]
  rw [← blockOf_setWidth] at hnear ⊢
  refine ⟨fun hra => ?_, fun hra => completes_next ?_⟩
  · obtain ⟨v, u, hgets, hdatum⟩ := finishHwLoad_register (s := s) (len := len) (pa := ea.setWidth 44) hra
    refine completes_next ⟨v, u, hgets, ?_⟩
    rw [hnear, ← hgets.prefetches]
    show WroteInt _ ra _ (advance (setLock (if ra = 31 then s else finishHwLoad s ra len (ea.setWidth 44)) (ea.setWidth 44)))
    rw [if_neg hra, hdatum]
    exact wroteInt_setLock _ _ _ _
  · show advance (setLock (if ra = 31 then s else finishHwLoad s ra len (ea.setWidth 44)) (ea.setWidth 44)) = _
    rw [if_pos hra, hnear]
    rfl

/-- The virtual types of HW_LD where the reference has a physical address. -/
theorem completes_hwLoadVirtual {mode : BitVec 2} {wrChk vpte : Bool} {r : DataRef}
    (hr : r = { ea := ea, opcode := 0x1B, reg := ra, write := false, checkRead := true, checkWrite := wrChk, mode := mode, vpte := vpte })
    (hpa : Reaches s r pa) :
    (ra ≠ 31 → Completes (hwLoadVirtual s ra len ea mode wrChk vpte) fun t => ∃ v u,
      Gets s (endianAddr s (hwAlign pa (hwLength len)) (hwLength len)) (hwLength len) v u ∧
        WroteInt u ra ((v.setWidth (8 * hwLength len)).signExtend 64) t) ∧
    (ra = 31 → Completes (hwLoadVirtual s ra len ea mode wrChk vpte) (OnlyPc (notePrefetch s pa) (s.pc + 4))) := by
  rw [hwLoadVirtual, ← hr, reference_ok hpa]
  refine ⟨fun hra => ?_, fun hra => ?_⟩
  · obtain ⟨v, u, hgets, hdatum⟩ := finishHwLoad_register (s := s) (len := len) (pa := pa) hra
    rw [hdatum]
    exact completes_next ⟨v, u, hgets, wroteInt_advance _ _ _⟩
  · rw [finishHwLoad_prefetch hra]
    exact completes_next rfl

/-- A virtual PTE fetch that is denied leaves VA and MM_STAT as they are. -/
theorem entered_vpteFault {r : DataRef} (hv : r.vpte = true) (e : Entry) (offset mm : Word) (h : entryOffset e = offset) :
    Entered s e offset (faultPc s) (dataFault s r e mm) ∧ (dataFault s r e mm).excSum.reg = r.reg := by
  have hfault : dataFault s r e mm = takeException s e (faultPc s) (some (withReg r.reg)) := by rw [dataFault, if_pos hv]
  rw [hfault]
  exact ⟨entered_takeException s e _ _ _ h, rfl⟩

theorem reference_vpte_miss {r : DataRef} (h : translateData s r = .error .miss) (hv : r.vpte = true) (k : PhysAddr → Out) :
    Completes (reference s r k) fun t => t.excSum.reg = r.reg ∧
      if s.iCtl.getLsbD 15 then Entered s .dtbmDouble4 0x180 (faultPc s) t else Entered s .dtbmDouble3 0x100 (faultPc s) t := by
  rw [reference, h]
  refine completes_next ?_
  rw [missEntry, if_pos hv]
  cases hva : s.iCtl.getLsbD 15 with
  | true =>
    obtain ⟨hentered, hreg⟩ := entered_vpteFault (s := s) hv .dtbmDouble4 0x180 (mmStatOf r false false false false) rfl
    exact ⟨hreg, hentered⟩
  | false =>
    obtain ⟨hentered, hreg⟩ := entered_vpteFault (s := s) hv .dtbmDouble3 0x100 (mmStatOf r false false false false) rfl
    exact ⟨hreg, hentered⟩

theorem reference_vpte_violation {r : DataRef} {acv fr fw : Bool} (h : translateData s r = .error (.violation acv fr fw))
    (hv : r.vpte = true) (k : PhysAddr → Out) :
    Completes (reference s r k) fun t => t.excSum.reg = r.reg ∧ Entered s .dfault 0x380 (faultPc s) t := by
  rw [reference, h]
  obtain ⟨hentered, hreg⟩ := entered_vpteFault (s := s) hv .dfault 0x380 (mmStatOf r false acv fr fw) rfl
  exact completes_next ⟨hreg, hentered⟩

/-! ### Stores -/

theorem completes_finishHwStore (hwf : s.mem.wf = true) : Completes (finishHwStore s ra len pa) fun t =>
    ∃ u, Puts s (endianAddr s (hwAlign pa (hwLength len)) (hwLength len)) (hwLength len) (readInt s ra) u ∧
      t = { u with pc := s.pc + 4 } := by
  have hputs := puts_dataWrite hwf (hwAlign pa (hwLength len)) (hwLength_le len) (readInt s ra)
  refine completes_next ⟨_, hputs, ?_⟩
  rw [← hputs.pc]
  rfl

/-- HW_ST Physical/Cond: the cases of STx_C, with the lock left as it is. -/
theorem completes_finishHwStoreCond (hwf : s.mem.wf = true) {a : PhysAddr} (ha : a = hwAlign pa (hwLength len))
    {waits erratum wins : Prop}
    (hwaits : waits ↔ s.ackHeld = true ∧ inIoSpace a = false ∧ absent s a = false ∧
      dirtyAckInternal s (a.extractLsb' 6 38) = false ∧ a.extractLsb' 6 38 = s.lockBlock ∧
      (s.lockFlag = true ∨ s.lockWatch.stolen = true ∧ s.lockWatch.prefetched = true))
    (herr : erratum ↔ inIoSpace a = false ∧ absent s a = false ∧ a.extractLsb' 6 38 = s.lockBlock ∧
      s.lockWatch.stolen = true ∧ s.lockWatch.prefetched = true)
    (hwins : wins ↔ inIoSpace a = true ∨ s.lockFlag = true ∧ a.extractLsb' 6 38 = s.lockBlock ∧
      platformGrants s (a.extractLsb' 6 38) = true ∧ absent s a = false) :
    (waits → finishHwStoreCond s ra len pa = .next { s with waiting := true }) ∧
    (¬waits → ¬erratum → wins → Completes (finishHwStoreCond s ra len pa) fun t =>
      ∃ u, Puts s (endianAddr s a (hwLength len)) (hwLength len) (readInt s ra) u ∧ WroteInt u ra 1 t) ∧
    (¬waits → ¬erratum → ¬wins → Completes (finishHwStoreCond s ra len pa) (WroteInt s ra 0)) ∧
    (¬waits → erratum → ∀ d : State, d = { s with free := s.free + 1 } → Completes (finishHwStoreCond s ra len pa) fun t =>
      (∃ u, Puts d (endianAddr s a (hwLength len)) (hwLength len) (readInt s ra) u ∧ WroteInt u ra 1 t) ∨ WroteInt d ra 0 t) := by
  subst ha
  rw [← condHeld_iff] at hwaits
  rw [← prefetchErratum_iff] at herr
  have hn := hwLength_le len
  have hgo : ¬waits → finishHwStoreCond s ra len pa = .next (advance (condStore s ra (hwLength len) (hwAlign pa (hwLength len)))) :=
    fun h => congrArg Host.Outcome.next (if_neg (h ∘ hwaits.2))
  have hoff : ¬erratum → prefetchErratum s (hwAlign pa (hwLength len)) = false := fun h => by rwa [herr, Bool.not_eq_true] at h
  refine ⟨fun h => congrArg Host.Outcome.next (if_pos (hwaits.1 h)), fun h he hwin => ?_, fun h he hlose => ?_, fun h he d hd => ?_⟩
  · obtain ⟨u, hu, hc⟩ := condStore_wins (ra := ra) hwf hn (hoff he) ((condSucceeds_iff s _ (hoff he)).2 (hwins.1 hwin))
    rw [hgo h, hc]
    exact completes_next ⟨u, hu, wroteInt_advance _ _ _⟩
  · have hc : condSucceeds s (hwAlign pa (hwLength len)) = false := by
      rw [← Bool.not_eq_true]
      exact fun hs => hlose (hwins.2 ((condSucceeds_iff s _ (hoff he)).1 hs))
    rw [hgo h, condStore_loses (hoff he) hc]
    exact completes_next (wroteInt_advance _ _ _)
  · rw [hgo h]
    obtain ⟨u, hu, hc⟩ | hc := condStore_erratum (ra := ra) hwf hn (herr.1 he) hd
    · rw [hc]
      exact completes_next (.inl ⟨u, hu, wroteInt_advance _ _ _⟩)
    · rw [hc]
      exact completes_next (.inr (wroteInt_advance _ _ _))

/-- Which checks and which mode each virtual type of HW_LD stands for. -/
theorem hwLoad_virtual {s : State} {ra : Reg} {len : BitVec 1} {ea : Word} :
    ∀ p ∈ ([(2, 0, false, true), (4, currentMode s, false, false), (5, currentMode s, true, false),
        (6, s.dtbAltMode, false, false), (7, s.dtbAltMode, true, false)] : List (BitVec 3 × BitVec 2 × Bool × Bool)),
      hwLoad s ra p.1 len ea = hwLoadVirtual s ra len ea p.2.1 p.2.2.1 p.2.2.2 := by
  simp only [List.forall_mem_cons (l := _ :: _), List.forall_mem_singleton]
  exact ⟨rfl, rfl, rfl, rfl, rfl⟩

theorem hwStore_virtual {s : State} {ra : Reg} {len : BitVec 1} {ea : Word} :
    ∀ p ∈ ([(2, currentMode s), (6, s.dtbAltMode)] : List (BitVec 3 × BitVec 2)),
      hwStore s ra p.1 len ea = hwStoreVirtual s ra len ea p.2 := by
  simp only [List.forall_mem_cons (l := _ :: _), List.forall_mem_singleton]
  exact ⟨rfl, rfl⟩

end

/-- Settles O57. -/
theorem hwLoadAndStore : Obligations.HwLoadAndStore := by
  unfold Obligations.HwLoadAndStore
  rintro ra rb len disp s _ n low hlegal rfl hn hlow
  obtain rfl : n = hwLength len := hn
  have hplace : ∀ pa, low pa = hwAlign pa (hwLength len) := fun pa => (hlow pa).trans (hwAlign_length len pa).symm
  simp only [hplace, exec_hwLd hlegal, exec_hwSt hlegal]
  generalize readInt s rb + disp.signExtend 64 = ea
  refine ⟨opcode_packHwMem rfl (by norm_num), opcode_packHwMem rfl (by norm_num), rfl, ?unused, ?physical, ?virtual, fun hwf hpar => ?store,
    ?storeVirtual⟩
  case unused =>
    simp only [List.forall_mem_cons (l := _ :: _), List.forall_mem_singleton]
    exact ⟨rfl, rfl, rfl, rfl⟩
  case physical =>
    simp only [List.forall_mem_cons (l := _ :: _), List.forall_mem_singleton]
    exact ⟨fun hpar _ _ => completes_hwLoadPhysical hpar, fun hpar near hnear => completes_hwLoadLocked hpar hnear⟩
  case virtual =>
    have hloads : ∀ (ty : BitVec 3) (mode : BitVec 2) (wrChk vpte : Bool),
        hwLoad s ra ty len ea = hwLoadVirtual s ra len ea mode wrChk vpte → ∀ r : DataRef,
        r = { ea := ea, opcode := 0x1B, reg := ra, write := false, checkRead := true, checkWrite := wrChk, mode := mode, vpte := vpte } →
        (∀ pa, Reaches s r pa →
          (ra ≠ 31 → Completes (hwLoad s ra ty len ea) fun t => ∃ v u,
            Gets s (endianAddr s (hwAlign pa (hwLength len)) (hwLength len)) (hwLength len) v u ∧
              WroteInt u ra ((v.setWidth (8 * hwLength len)).signExtend 64) t) ∧
          (ra = 31 → Completes (hwLoad s ra ty len ea) (OnlyPc (notePrefetch s pa) (s.pc + 4)))) ∧
        (translateData s r = .error .miss →
          (vpte = false → Completes (hwLoad s ra ty len ea) (Faulted s r .dtbmSingle 0x300 (mmWord 3 false false false false))) ∧
          (vpte = true → Completes (hwLoad s ra ty len ea) fun t => t.excSum.reg = ra ∧
            if s.iCtl.getLsbD 15 then Entered s .dtbmDouble4 0x180 (faultPc s) t else Entered s .dtbmDouble3 0x100 (faultPc s) t)) ∧
        ∀ acv fr fw, translateData s r = .error (.violation acv fr fw) →
          (vpte = false → Completes (hwLoad s ra ty len ea) (Faulted s r .dfault 0x380 (mmWord 3 fw fr acv false))) ∧
          (vpte = true → Completes (hwLoad s ra ty len ea) fun t => t.excSum.reg = ra ∧ Entered s .dfault 0x380 (faultPc s) t) := by
      intro ty mode wrChk vpte hty r hr
      rw [hty]
      refine ⟨fun pa hpa => completes_hwLoadVirtual hr hpa, fun hmiss => ?_, fun acv fr fw hviolation => ?_⟩
      · subst hr
        exact ⟨fun hv => reference_miss hmiss hv _, fun hv => reference_vpte_miss hmiss hv _⟩
      · subst hr
        exact ⟨fun hv => reference_violation hviolation hv _, fun hv => reference_vpte_violation hviolation hv _⟩
    exact fun p hp => hloads p.1 p.2.1 p.2.2.1 p.2.2.2 (hwLoad_virtual p hp)
  case store =>
    have hstore : hwStore s ra 0 len ea = finishHwStore s ra len (ea.setWidth 44) := physReference_ok hpar _ _
    have hcond : hwStore s ra 1 len ea = finishHwStoreCond s ra len (ea.setWidth 44) := physReference_ok hpar _ _
    rw [hstore, hcond]
    exact ⟨completes_finishHwStore hwf, fun pa hpa waits erratum wins hwaits herr hwins =>
      completes_finishHwStoreCond hwf hpa hwaits herr hwins⟩
  case storeVirtual =>
    have hstores : ∀ (ty : BitVec 3) (mode : BitVec 2), hwStore s ra ty len ea = hwStoreVirtual s ra len ea mode → ∀ r : DataRef,
        r = { ea := ea, opcode := 0x1F, reg := ra, write := true, checkRead := false, checkWrite := true, mode := mode, vpte := false } →
        (∀ pa, s.mem.wf = true → Reaches s r pa → Completes (hwStore s ra ty len ea) fun t =>
          ∃ u, Puts s (endianAddr s (hwAlign pa (hwLength len)) (hwLength len)) (hwLength len) (readInt s ra) u ∧
            t = { u with pc := s.pc + 4 }) ∧
        (translateData s r = .error .miss → Completes (hwStore s ra ty len ea)
          (Faulted s r .dtbmSingle 0x300 (mmWord 7 false false false true))) ∧
        ∀ acv fr fw, translateData s r = .error (.violation acv fr fw) →
          Completes (hwStore s ra ty len ea) (Faulted s r .dfault 0x380 (mmWord 7 fw fr acv true)) := by
      intro ty mode hty r hr
      rw [hty, hwStoreVirtual, ← hr]
      refine ⟨fun pa hwf hpa => ?_, fun hmiss => ?_, fun acv fr fw hviolation => ?_⟩
      · rw [reference_ok hpa]
        exact completes_finishHwStore hwf
      · subst hr
        exact reference_miss hmiss rfl _
      · subst hr
        exact reference_violation hviolation rfl _
    exact fun p hp => hstores p.1 p.2 (hwStore_virtual p hp)

end Sys2Proof.Machine
end


/-! # Settling O59: the performance counters (spec/60_exceptions.md section 7) -/

section

namespace Sys2Proof.Machine

/-! ### When the counters count, and what retires -/

theorem enabled_iff (a b c : Bool) : (a && (b || c)) = true ↔ a = true ∧ (b = true ∨ c = true) := by
  rw [Bool.and_eq_true, Bool.or_eq_true]

theorem completed_iff (s : State) : completed s = true ↔
    s.trap = none ∧ s.waiting = false ∨ s.trap = some .arith ∨ s.trap = some .mtFpcr := by
  unfold completed
  split <;> simp_all

theorem retires_iff (w : Option (BitVec 32)) (s : State) : retires w s = true ↔
    ∃ x, w = some x ∧ isSquashed x = false ∧ isPctrWrite x = false ∧
      (s.trap = none ∧ s.waiting = false ∨ s.trap = some .arith ∨ s.trap = some .mtFpcr) := by
  rw [retires, Bool.and_eq_true, completed_iff]
  cases w with
  | none => simp
  | some x => simp [and_comm, and_assoc]

/-! ### Aggregate mode -/

theorem toNat_count (c : BitVec 20) (n : Nat) : (c + BitVec.ofNat 20 n).toNat = (c.toNat + n) % 2 ^ 20 := by
  rw [BitVec.toNat_add, BitVec.toNat_ofNat, Nat.add_mod_mod]

section
variable {pre s : State} {w : Option (BitVec 32)}

theorem aggregate0_eq (h : s.pctr.sl0 = false) (retired : Bool) : aggregate0 s retired =
    if pctr0Enabled s = false then 0 else if s.pctr.sl1.getLsbD 0 then cyclesNow s else if retired then 1 else 0 := by
  rw [aggregate0, h]
  cases pctr0Enabled s <;> rfl

theorem aggregate1_eq (h : s.pctr.sl0 = false) :
    aggregate1 s = if pctr1Enabled s = true ∧ s.pctr.sl1 = 0 then cyclesNow s else 0 := by
  simp only [aggregate1, h, Bool.not_false, Bool.and_true, Bool.and_eq_true, beq_iff_eq]

/-- Where no fetched instruction counts, a step only takes time. -/
theorem account_uncounted (h : countsFetch pre w (tick (retires w s) s) = false) : account pre w s = tick (retires w s) s := by
  rw [account, countFetched_eq, h, if_neg Bool.false_ne_true]

theorem countsFetch_aggregate (h : pre.pctr.sl0 = false) (u : State) : countsFetch pre w u = false := by
  simp only [countsFetch, h, Bool.and_false, Bool.false_and]

/-! ### ProfileMe mode -/

/-- In ProfileMe mode time moves neither counter. -/
theorem tick_profileMe (h : s.pctr.sl0 = true) (retired : Bool) :
    tick retired s = { s with cc := (tick retired s).cc, free := (tick retired s).free } := by
  have h0 : aggregate0 s retired = 0 := by simp [aggregate0, h]
  have h1 : aggregate1 s = 0 := by simp [aggregate1, h]
  have hnone : ∀ c : BitVec 20, overflows c 0 = false := fun c => decide_eq_false (by have := c.isLt; omega)
  simp only [tick, h0, h1, hnone, BitVec.add_zero, Bool.or_false]

/-- When a fetched instruction counts. -/
theorem countsFetch_iff {u : State} : countsFetch pre w u = true ↔ pctr0Enabled pre = true ∧ pctr0Enabled u = true ∧
    pre.pctr.sl0 = true ∧ pre.pmStopped = false ∧ u.waiting = false ∧ ¬(w.any isPctrWrite = true ∧ completed u = true) := by
  have hany : (w.map isPctrWrite).getD false = w.any isPctrWrite := by cases w <;> rfl
  rw [countsFetch, hany]
  simp only [Bool.and_eq_true, Bool.not_eq_true', and_assoc, ← Bool.not_eq_true]

theorem fetchedAmount_eq (w : Option (BitVec 32)) : fetchedAmount w = if w.any isCondMove then 2 else 1 := by
  cases w <;> rfl

theorem account_counted (h : countsFetch pre w (tick (retires w s) s) = true) {n : Nat} (hn : n = fetchedAmount w)
    (hroom : pre.pctr.pctr0.toNat + n < 2 ^ 20) : account pre w s =
      { tick (retires w s) s with pctr := { (tick (retires w s) s).pctr with
          pctr0 := (tick (retires w s) s).pctr.pctr0 + BitVec.ofNat 20 n } } := by
  rw [account, countFetched_eq, if_pos h, ← hn, if_neg]
  rw [overflows, decide_eq_true_iff]
  omega

theorem account_profiled (h : countsFetch pre w (tick (retires w s) s) = true)
    (hfull : 2 ^ 20 ≤ pre.pctr.pctr0.toNat + fetchedAmount w) : account pre w s = profile pre w (tick (retires w s) s) := by
  have hover : overflows pre.pctr.pctr0 (fetchedAmount w) = true := decide_eq_true hfull
  rw [account, countFetched_eq, if_pos h, if_pos hover]

end

/-! ### The profiled instruction -/

section
variable {pre u : State} {w : Option (BitVec 32)}

/-- A counter that does not take the retired inputs stays in the window. -/
theorem profile_pctr1 (h : pctr1Enabled u = false ∨ u.pctr.sl1 ≠ 0) :
    (profile pre w u).pctr.pctr1 = u.pctr.pctr1 ∧ (profile pre w u).pc1Req = u.pc1Req := by
  have hzero : profiled1 u = 0 := by
    rw [profiled1, if_neg]
    rw [Bool.and_eq_true, beq_iff_eq]
    rintro ⟨hon, hsl⟩
    obtain hoff | hne := h
    · exact Bool.false_ne_true (hoff.symm.trans hon)
    · exact hne hsl
  have hnone : overflows u.pctr.pctr1 0 = false := decide_eq_false (by have := u.pctr.pctr1.isLt; omega)
  have hpctr1 : (profile pre w u).pctr.pctr1 = u.pctr.pctr1 + profiled1 u := rfl
  have hreq : (profile pre w u).pc1Req = (u.pc1Req || overflows u.pctr.pctr1 (profiled1 u).toNat) := rfl
  rw [hpctr1, hreq, hzero]
  exact ⟨BitVec.add_zero _, by rw [show (0 : BitVec 20).toNat = 0 from rfl, hnone, Bool.or_false]⟩

theorem profile_pmpc (pre u : State) (w : Option (BitVec 32)) : (profile pre w u).pmpc = profiledPc pre u := rfl

theorem and_or_right (a b m : Word) : (a ||| b) &&& m = (a &&& m) ||| (b &&& m) := by
  refine BitVec.eq_of_getLsbD_eq fun i _ => ?_
  simp only [BitVec.getLsbD_and, BitVec.getLsbD_or, Bool.and_or_distrib_right]

/-- PMPC shows the PALcode entry of a redirection. -/
theorem profiledPc_redirected {e : Entry} {offset marked : Word} (h : u.trap = some e) (htype : trapType e = none)
    (he : entryOffset e = offset) (hmarked : marked = offset ||| 1) (haligned : offset &&& ~~~3#64 = offset)
    (hlow' : 0x00000FFFFFFF8000#64 &&& marked = 0) : profiledPc pre u = (u.palBase &&& 0x00000FFFFFFF8000) + marked := by
  have hpc : profiledPc pre u = pcWithMode (entryPc u e) true := by
    rw [profiledPc, h]
    exact if_pos htype
  have hbase : u.palBase &&& 0x00000FFFFFFF8000 &&& ~~~3#64 = u.palBase &&& 0x00000FFFFFFF8000 := by
    rw [BitVec.and_assoc, show (0x00000FFFFFFF8000 &&& ~~~3#64 : Word) = 0x00000FFFFFFF8000 by decide]
  rw [hpc, pcWithMode, entryPc, he, and_or_right, hbase, haligned, BitVec.or_assoc]
  rw [hmarked] at hlow' ⊢
  exact palBase_or _ _ hlow'

theorem profile_iStat {trap : Bool} {ty : BitVec 4} (h : profiledTrap u (Config.freeQuad u.free) = (trap, ty)) :
    ∃ (b40 b38 : Bool) (ldst : BitVec 4), (profile pre w u).iStat = (u.iStat &&& (0x20000000 : Word)) ||| bitAt 40 b40 |||
      bitAt 39 trap ||| bitAt 38 b38 ||| (ty.setWidth 64 <<< 34) ||| (ldst.setWidth 64 <<< 30) := by
  refine ⟨(Config.freeQuad u.free).getLsbD 1 && trap && (w.bind (branchDirection pre)).isSome, (Config.freeQuad u.free).getLsbD 2,
    (Config.freeQuad u.free).extractLsb' 3 4, ?_⟩
  simp only [profile, h]
  rfl

theorem profile_trapped {e : Entry} {ty : BitVec 4} (h : u.trap = some e) (htype : trapType e = some ty) :
    (profile pre w u).pmpc = faultPc pre ∧ (profile pre w u).iStat.getLsbD 39 = true ∧
      (profile pre w u).iStat.extractLsb' 34 4 = ty := by
  have htrap : ∀ f, profiledTrap u f = (true, ty) := fun f => by
    rw [profiledTrap, h, Option.bind_some, htype]
  obtain ⟨b40, b38, ldst, hiStat⟩ := profile_iStat (pre := pre) (w := w) (htrap _)
  have hlow : ∀ i, 34 ≤ i → (u.iStat &&& 0x20000000).getLsbD i = false := fun i hi => by
    rw [BitVec.getLsbD_and, getLsbD_of_mask (m := 0x20000000) (lo := 29) (hi := 29) (by decide) (by norm_num),
      decide_eq_false (by omega), Bool.and_false]
  have hldst : ∀ i, 4 ≤ i → ldst.getLsbD i = false := fun i hi => BitVec.getLsbD_of_ge _ _ hi
  have hbits : ∀ i, 34 ≤ i → (profile pre w u).iStat.getLsbD i =
      (decide (i = 40) && b40 || decide (i = 39) || decide (i = 38) && b38 || ty.getLsbD (i - 34)) := fun i hi => by
    simp only [hiStat, BitVec.getLsbD_or, getLsbD_bitAt (show 40 < 64 by norm_num), getLsbD_bitAt (show 39 < 64 by norm_num),
      getLsbD_bitAt (show 38 < 64 by norm_num), getLsbD_fieldAt ty (show 4 + 34 ≤ 64 by norm_num),
      getLsbD_fieldAt ldst (show 4 + 30 ≤ 64 by norm_num), hlow i hi, hldst (i - 30) (by omega), decide_eq_true hi, Bool.false_or,
      Bool.and_false, Bool.or_false, Bool.and_true, Bool.true_and]
  refine ⟨?_, ?_, extractLsb'_eq_iff.2 fun i hi => ?_⟩
  · rw [profile_pmpc, profiledPc, h]
    exact if_neg (by rw [htype]; exact Option.some_ne_none ty)
  · rw [hbits 39 (by norm_num)]
    simp
  · rw [hbits _ (by omega)]
    grind

end

/-- Settles O59. -/
theorem performanceCounters : Obligations.PerformanceCounters := by
  unfold Obligations.PerformanceCounters
  rintro pre s _ w rfl
  refine ⟨enabled_iff _ _ _, enabled_iff _ _ _, retires_iff w s, fun hpre hs n0 n1 hn0 hn1 => ?aggregate, fun hpre hs n hn => ?profileMe⟩
  case aggregate =>
    rw [account_uncounted (countsFetch_aggregate hpre _)]
    rw [← aggregate0_eq hs] at hn0
    rw [← aggregate1_eq hs] at hn1
    subst hn0 hn1
    exact ⟨toNat_count _ _, toNat_count _ _, rfl, rfl, rfl, rfl, rfl, rfl⟩
  case profileMe =>
    have htick := tick_profileMe hs (retires w s)
    rw [← fetchedAmount_eq] at hn
    refine ⟨fun hidle => ?idle, fun hon hon' hgoes hwaits hother => ?counts⟩
    case idle =>
      have hnot : countsFetch pre w (tick (retires w s) s) = false := by
        rw [← Bool.not_eq_true, countsFetch_iff]
        rintro ⟨hon, hon', -, hgoes, -⟩
        obtain h | h | h := hidle
        · exact Bool.false_ne_true (h.symm.trans hon)
        · exact Bool.false_ne_true (h.symm.trans hon')
        · exact Bool.false_ne_true (hgoes.symm.trans h)
      rw [account_uncounted hnot, htick]
      exact ⟨rfl, rfl, rfl, rfl, rfl, rfl⟩
    case counts =>
      have hcounts : countsFetch pre w (tick (retires w s) s) = true :=
        countsFetch_iff.2 ⟨hon, hon', hpre, hgoes, hwaits, fun h => Bool.false_ne_true (hother.symm.trans h.1)⟩
      refine ⟨fun hroom => ?_, fun hfull => ?_⟩
      · rw [account_counted hcounts hn hroom, htick]
        exact ⟨rfl, rfl, rfl, rfl, rfl, rfl⟩
      · rw [account_profiled hcounts (hn ▸ hfull), htick]
        generalize hu : { s with cc := (tick (retires w s) s).cc, free := (tick (retires w s) s).free } = u
        have htrap : u.trap = s.trap := by rw [← hu]
        have hpctr : u.pctr = s.pctr := by rw [← hu]
        have hbase : u.palBase = s.palBase := by rw [← hu]
        have hreq : u.pc1Req = s.pc1Req := by rw [← hu]
        have hdone : completed u = completed s := by rw [← hu]; rfl
        have hone : pctr1Enabled u = pctr1Enabled s := by rw [← hu]; rfl
        simp only [← htrap, ← hpctr, ← hbase, ← hreq, ← hdone, ← hone] at hs ⊢
        refine ⟨rfl, rfl, rfl, hs, rfl, fun d hd => ?_, profile_pctr1, fun hnone => ?_, ?redirected, ?trapped⟩
        · show (w.bind (branchDirection pre)).getD _ = d
          rw [hd, Option.getD_some]
        · rw [profile_pmpc, profiledPc, hnone]
        case redirected =>
          simp only [List.forall_mem_cons (l := _ :: _), List.forall_mem_singleton]
          refine ⟨fun h => ?_, fun h => ?_, fun h => ?_⟩
          all_goals exact profiledPc_redirected h rfl rfl (by decide) (by decide) (by decide)
        case trapped =>
          simp only [List.forall_mem_cons (l := _ :: _), List.forall_mem_singleton]
          refine ⟨?_, ?_, ?_, ?_, ?_, ?_, ?_, ?_, ?_, ?_, ?_⟩
          all_goals exact fun h => profile_trapped h rfl

end Sys2Proof.Machine
end


/-! # Settling O58: error events and tag parity (spec/61_errors.md) -/

section

namespace Sys2Proof.Machine

/-! ### What a row of the error table says -/

section
variable (s : State) (e : ErrorEvent)

theorem errorEnabled_eq (k : ErrorCase) : errorEnabled s k =
    if k ∈ [.icacheParity, .dupTagPerr, .bcTagPerr] then true
    else if k ∈ [.dcTagPerrIssue, .dcTagPerrRetry] then s.dcCtl.getLsbD 6
    else s.dcCtl.getLsbD 7 && (k != .probeBcErr || s.writeOnce.enableProbeCheck) := by
  cases k <;> simp [errorEnabled]

theorem errorEvent_off (h : errorEnabled s e.kind = false) : errorEvent s e = s := if_neg (by rw [h]; exact Bool.false_ne_true)

/-- ERROR_REG after an event. -/
def loggedReg : BitVec 66 :=
  match cStat e with
  | none => s.errorReg
  | some c => errorRegOf s e c (Config.freeQuad s.free)

/-- An event touches the log and, by its row, the latches. -/
theorem errorEvent_on (h : errorEnabled s e.kind = true) : ∃ n : Nat, errorEvent s e = { s with
    errorReg := loggedReg s e
    free := n
    dcStat := s.dcStat ||| dcStatBits e
    iStat := if e.kind = .icacheParity then s.iStat ||| 0x20000000 else s.iStat
    crReq := s.crReq || postsCrd e.kind
    mchkDReq := s.mchkDReq || (postsMchkD e.kind && s.iCtl.getLsbD 21)
    mchkIReq := s.mchkIReq || (postsMchkI e.kind && s.iCtl.getLsbD 21)
    icache := if flushesIcache e.kind then [] else s.icache
    tagErr := s.tagErr || e.kind == .dcTagPerrIssue } := by
  rw [errorEvent, if_pos h, logError, loggedReg]
  cases cStat e with
  | none => exact ⟨s.free, rfl⟩
  | some c => exact ⟨s.free + 1, rfl⟩

theorem postsCrd_eq (k : ErrorCase) : postsCrd k = decide (k ∈ [.icacheParity, .dcEccLoad, .dcEccSpecLoad, .dcEccStore, .bcEccIfill,
    .bcEccDfill, .bcEccSpecDfill, .bcVictim, .bcVictimOnMiss, .memEccIfill, .memEccDfill, .memEccSpecDfill, .probeBcErr]) := by
  cases k <;> rfl

theorem postsMchkD_eq (k : ErrorCase) : postsMchkD k =
    decide (k ∈ [.dcTagPerrRetry, .dcStoreSecond, .dupTagPerr, .bcTagPerr, .bcDblDfill, .memDblDfill]) := by
  cases k <;> rfl

theorem postsMchkI_eq (k : ErrorCase) : postsMchkI k = decide (k ∈ [.bcEccIfill, .memEccIfill, .bcDblIfill, .memDblIfill]) := by
  cases k <;> rfl

theorem flushesIcache_iff (k : ErrorCase) : flushesIcache k = true ↔ k ∈ [.icacheParity, .bcEccIfill, .memEccIfill] := by
  cases k <;> decide

theorem or_dcStatBits : s.dcStat ||| dcStatBits e =
    if e.kind ∈ [.dcEccLoad, .dcEccSpecLoad, .bcEccDfill, .memEccDfill, .bcVictimOnMiss] then s.dcStat ||| 0x8
    else if e.kind = .dcEccStore then s.dcStat ||| 0x4 else if e.kind = .dcStoreSecond then s.dcStat ||| 0x14
    else if e.kind = .dcTagPerrRetry then s.dcStat ||| (if e.pipe1 then 0x2 else 0x1) else s.dcStat := by
  unfold dcStatBits
  cases e.kind <;> simp

/-- The cases that the Cbox does not log. -/
theorem cStat_none : e.kind ∈ [.icacheParity, .dcTagPerrIssue, .dcTagPerrRetry, .dcEccStore, .dcEccVictim, .dcStoreSecond, .bcVictim,
    .bcVictimOnMiss, .bcVictimOnEcb] → cStat e = none := by
  unfold cStat
  cases e.kind <;> simp

/-! ### The fields of ERROR_REG -/

/-- The fields of a chain of 62 bits in a register of 66. -/
theorem chain_fields (addr : BitVec 37) (sts : BitVec 4) (st : BitVec 5) (s0 s1 : BitVec 8) {v : BitVec 66}
    (hv : v = (addr ++ sts ++ st ++ s0 ++ s1 : BitVec 62).setWidth 66) :
    v.extractLsb' 25 37 = addr ∧ v.extractLsb' 21 4 = sts ∧ v.extractLsb' 16 5 = st ∧ v.extractLsb' 8 8 = s0 ∧
      v.extractLsb' 0 8 = s1 := by
  subst hv
  refine ⟨?_, ?_, ?_, ?_, ?_⟩ <;>
  · refine extractLsb'_eq_iff.2 fun i hi => ?_
    simp only [BitVec.getLsbD_setWidth, BitVec.getLsbD_append]
    grind

end

section
variable {s : State} {e : ErrorEvent} {c : BitVec 5}

/-- What a logged case puts in ERROR_REG. -/
theorem loggedReg_fields (h : cStat e = some c) :
    ∃ w, (loggedReg s e).extractLsb' 25 37 = cAddr s e w ∧
      (loggedReg s e).extractLsb' 21 4 = (if logsSyndromes e.kind then e.sts else w.extractLsb' 41 4) ∧
      (loggedReg s e).extractLsb' 16 5 = (if isDouble e.kind && s.writeOnce.skewedFillMode then 1#1 ++ w.extractLsb' 37 4 else c) ∧
      (loggedReg s e).extractLsb' 8 8 = (if logsSyndromes e.kind then e.syn0 else w.extractLsb' 45 8) ∧
      (loggedReg s e).extractLsb' 0 8 = (if logsSyndromes e.kind then e.syn1 else w.extractLsb' 53 8) := by
  have hreg : loggedReg s e = errorRegOf s e c (Config.freeQuad s.free) := by rw [loggedReg, h]
  rw [hreg]
  exact ⟨Config.freeQuad s.free, chain_fields _ _ _ _ _ rfl⟩

/-- C_STAT of a case that is no double-bit error. -/
theorem loggedReg_stat (h : cStat e = some c) (hd : isDouble e.kind = false) : (loggedReg s e).extractLsb' 16 5 = c := by
  obtain ⟨w, -, -, hstat, -⟩ := loggedReg_fields (s := s) h
  rw [hstat, hd, Bool.false_and, if_neg Bool.false_ne_true]

theorem loggedReg_addr (h : cStat e = some c) (hd : (isDouble e.kind && s.writeOnce.skewedFillMode) = false)
    (ha : logsAddress e.kind = true) : (loggedReg s e).extractLsb' 25 37 = e.addr := by
  obtain ⟨w, haddr, -⟩ := loggedReg_fields (s := s) h
  rw [haddr, cAddr, hd, if_neg Bool.false_ne_true, if_pos ha]

/-- A double-bit error: the generic code in skewed fill mode, else its own code and the address. -/
theorem loggedReg_double (h : cStat e = some c) (hd : isDouble e.kind = true) (ha : logsAddress e.kind = true) :
    if s.writeOnce.skewedFillMode then (loggedReg s e).getLsbD 20 = true
    else (loggedReg s e).extractLsb' 16 5 = c ∧ (loggedReg s e).extractLsb' 25 37 = e.addr := by
  obtain ⟨w, -, -, hstat, -⟩ := loggedReg_fields (s := s) h
  cases hs : s.writeOnce.skewedFillMode with
  | true =>
    rw [hd, hs, Bool.and_self, if_pos rfl] at hstat
    rw [if_pos rfl, extractLsb'_eq_iff.1 hstat 4 (by norm_num), BitVec.getLsbD_append]
    rfl
  | false =>
    rw [hd, hs] at hstat
    exact ⟨hstat, loggedReg_addr h (by rw [hs, Bool.and_false]) ha⟩

/-- DC_ECC_LOAD logs the low fourteen bits of its address and keeps the rest of C_ADDR. -/
theorem loggedReg_dcEccLoad (h : e.kind = .dcEccLoad) :
    (loggedReg s e).extractLsb' 25 14 = e.addr.extractLsb' 0 14 ∧
      (loggedReg s e).extractLsb' 39 23 = s.errorReg.extractLsb' 39 23 := by
  have hstat : cStat e = some 0b00101 := by rw [cStat, h]
  obtain ⟨w, haddr, -⟩ := loggedReg_fields (s := s) hstat
  have hc : cAddr s e w = s.errorReg.extractLsb' 39 23 ++ e.addr.extractLsb' 0 14 := by
    rw [cAddr, h]
    rfl
  have hbits := extractLsb'_eq_iff.1 (haddr.trans hc)
  refine ⟨extractLsb'_eq_iff.2 fun i hi => ?_, extractLsb'_eq_iff.2 fun i hi => ?_⟩
  · rw [hbits i (by omega), BitVec.getLsbD_append]
    grind
  · have hi' := hbits (14 + i) (by omega)
    rw [BitVec.getLsbD_append] at hi'
    grind

theorem loggedReg_syndromes (h : cStat e = some c) (hs : logsSyndromes e.kind = true) :
    (loggedReg s e).extractLsb' 21 4 = e.sts ∧ (loggedReg s e).extractLsb' 8 8 = e.syn0 ∧
      (loggedReg s e).extractLsb' 0 8 = e.syn1 := by
  obtain ⟨w, -, hsts, -, hsyn0, hsyn1⟩ := loggedReg_fields (s := s) h
  rw [if_pos hs] at hsts hsyn0 hsyn1
  exact ⟨hsts, hsyn0, hsyn1⟩

end

/-! ### The rows of the error table -/

section
variable (e : ErrorEvent)

/-- The codes of the cases that are no double-bit error. -/
theorem cStat_single : ∀ p ∈ ([(.dcEccLoad, 0b00101), (.dupTagPerr, 0b00010), (.bcTagPerr, 0b00001), (.bcEccIfill, 0b01100),
    (.bcEccDfill, 0b00100), (.memEccIfill, 0b01011), (.memEccDfill, 0b00011), (.dcEccSpecLoad, 0), (.bcEccSpecDfill, 0),
    (.memEccSpecDfill, 0), (.probeBcErr, if e.codeBit then 0b00111 else 0b00110)] : List (ErrorCase × BitVec 5)),
    e.kind = p.1 → cStat e = some p.2 ∧ isDouble e.kind = false := by
  unfold cStat
  cases e.kind <;> simp [isDouble]

theorem cStat_double : ∀ p ∈ ([(.bcDblIfill, 0b11100), (.bcDblDfill, 0b10100), (.memDblIfill, 0b11011), (.memDblDfill, 0b10011)]
    : List (ErrorCase × BitVec 5)), e.kind = p.1 → cStat e = some p.2 ∧ isDouble e.kind = true ∧ logsAddress e.kind = true := by
  unfold cStat
  cases e.kind <;> simp [isDouble, logsAddress]

theorem cStat_addressed : e.kind ∈ [.dupTagPerr, .bcTagPerr, .bcEccIfill, .bcEccDfill, .memEccIfill, .memEccDfill, .probeBcErr] →
    ∃ c, cStat e = some c ∧ isDouble e.kind = false ∧ logsAddress e.kind = true := by
  unfold cStat
  cases e.kind <;> simp [isDouble, logsAddress]

theorem cStat_syndromes : e.kind ∈ [.bcEccIfill, .bcEccDfill, .memEccIfill, .memEccDfill, .probeBcErr] →
    ∃ c, cStat e = some c ∧ logsSyndromes e.kind = true := by
  unfold cStat
  cases e.kind <;> simp [logsSyndromes]

end

/-! ### The tag parity error of a reference -/

/-- The parity bit beside the other bits of MM_STAT. -/
theorem mmStatOf_parity (r : DataRef) : mmStatOf r true false false false =
    0x400 ||| mmWord (shownOpcode r.opcode).toNat false false false r.write := by
  rw [← mmStatOf_eq, mmStatOf, mmStatOf, show bitAt 10 true = 0x400#64 from rfl, show bitAt 10 false = 0#64 from rfl]
  simp only [BitVec.or_assoc, BitVec.zero_or]
  rfl

/-- What an armed tag error does to a reference: DFAULT, with MM_STAT[DC_TAG_PERR], and the error is consumed. -/
def ParityFault (s : State) (ea : Word) (op : Nat) (write : Bool) (reg : Reg) (t : State) : Prop :=
  t.excSum.reg = reg ∧
    Entered { s with tagErr := false, va := ea, mmStat := 0x400 ||| mmWord op false false false write } .dfault 0x380 (faultPc s) t

section
variable {s : State} {r : DataRef} {pa : PhysAddr}

theorem parityFault_dataFault (hv : r.vpte = false) : ParityFault s r.ea (shownOpcode r.opcode).toNat r.write r.reg
    (dataFault { s with tagErr := false } r .dfault (mmStatOf r true false false false)) := by
  rw [mmStatOf_parity, dataFault, hv]
  exact ⟨rfl, entered_takeException _ _ _ _ _ rfl⟩

variable (hpar : tagParity s = true)
include hpar

theorem reference_parity (hpa : translateData s r = .ok pa) (k : PhysAddr → Out) :
    reference s r k = .next (dataFault { s with tagErr := false } r .dfault (mmStatOf r true false false false)) := by
  rw [reference, hpa]
  exact if_pos hpar

theorem physReference_parity (hv : r.vpte = false) (k : PhysAddr → Out) :
    Completes (physReference s r k) (ParityFault s r.ea (shownOpcode r.opcode).toNat r.write r.reg) :=
  ⟨_, if_pos hpar, parityFault_dataFault hv⟩

theorem reference_parity_completes (hpa : translateData s r = .ok pa) (hv : r.vpte = false) (k : PhysAddr → Out) :
    Completes (reference s r k) (ParityFault s r.ea (shownOpcode r.opcode).toNat r.write r.reg) :=
  ⟨_, reference_parity hpar hpa k, parityFault_dataFault hv⟩

/-- An ordinary load or store. -/
theorem ordinary_parity {o : Out} {n : Nat} {op : BitVec 6} {write : Bool} {reg : Reg} {ea : Word}
    (hr : r = (if write then storeRef else loadRef) s op reg ea) (ho : RefersAs o s r n) (hop : shownOpcode op = op)
    (haligned : r.ea.toNat % n = 0) (hpa : translateData s r = .ok pa) : Completes o (ParityFault s r.ea op.toNat write reg) := by
  obtain ⟨hv, hw, hopc, hreg⟩ := ordinaryRef_reports write s op reg ea hr
  obtain ⟨k, rfl⟩ := ho
  rw [alignedReference_aligned haligned]
  have h := reference_parity_completes hpar hpa hv k
  rwa [hopc, hop, hw, hreg] at h

theorem ldqU_parity {ra rb : Reg} {disp : BitVec 16} (h31 : ra ≠ 31) (hr : r = loadRef s 0x0B ra (effAddr s rb disp))
    (hpa : translateData s r = .ok pa) : Completes (exec (.ldqU ra rb disp) s) (ParityFault s r.ea 0x0B false ra) := by
  have href : RefersAs (exec (.ldqU ra rb disp) s) s r 1 := hr ▸ ldqU_refersAs h31 rb disp s
  exact ordinary_parity (op := 0x0B) (write := false) hpar hr href (by decide) (Nat.mod_one _) hpa

theorem hwLoadPhysical_parity (ra : Reg) (len : BitVec 1) (ea : Word) (lock : Bool) :
    Completes (hwLoadPhysical s ra len ea lock) (ParityFault s ea 3 false ra) :=
  physReference_parity (r := loadRef s 0x1B ra ea) hpar rfl _

theorem hwStorePhysical_parity (ra : Reg) (ea : Word) (k : PhysAddr → Out) :
    Completes (physReference s (storeRef s 0x1F ra ea) k) (ParityFault s ea 7 true ra) :=
  physReference_parity (r := storeRef s 0x1F ra ea) hpar rfl _

/-- A virtual PTE fetch leaves VA and MM_STAT. -/
theorem reference_vpte_parity (hpa : translateData s r = .ok pa) (hv : r.vpte = true) (k : PhysAddr → Out) :
    Completes (reference s r k) fun t => t.excSum.reg = r.reg ∧ Entered { s with tagErr := false } .dfault 0x380 (faultPc s) t := by
  obtain ⟨hentered, hreg⟩ := entered_vpteFault (s := { s with tagErr := false }) hv .dfault 0x380
    (mmStatOf r true false false false) rfl
  exact ⟨_, reference_parity hpar hpa k, hreg, hentered⟩

end

/-! ### The two halves of O58 -/

/-- Settles O58. -/
theorem errorEventsAndTagParity : Obligations.ErrorEventsAndTagParity := by
  unfold Obligations.ErrorEventsAndTagParity
  refine ⟨fun s rest e on henv hon => ?events, fun s parity harmed hcheck hparity => ?parity⟩
  case events =>
    rw [← errorEnabled_eq] at hon
    subst hon
    have hstep : step s = .next (errorEvent { s with env := rest } e) := step_of_event henv nofun
    rw [hstep]
    refine ⟨fun hoff => congrArg Host.Outcome.next (errorEvent_off { s with env := rest } e hoff), fun hon => ?_⟩
    obtain ⟨n, hevent⟩ := errorEvent_on { s with env := rest } e hon
    have hreg : loggedReg { s with env := rest } e = loggedReg s e := rfl
    rw [hreg] at hevent
    rw [hevent]
    refine completes_next ⟨rfl, rfl, rfl, or_dcStatBits s e, ?crd, ?mchkD, ?mchkI, ?icache, ?tag, ?unlogged, ?single, ?double,
      loggedReg_dcEccLoad, ?addressed, ?syndromes⟩
    case crd => exact congrArg (s.crReq || ·) (postsCrd_eq e.kind)
    case mchkD => exact congrArg (fun b => s.mchkDReq || (b && s.iCtl.getLsbD 21)) (postsMchkD_eq e.kind)
    case mchkI => exact congrArg (fun b => s.mchkIReq || (b && s.iCtl.getLsbD 21)) (postsMchkI_eq e.kind)
    case icache => exact if_congr (flushesIcache_iff e.kind) rfl rfl
    case tag => rfl
    case unlogged =>
      intro hkind
      show loggedReg s e = s.errorReg
      rw [loggedReg, cStat_none e hkind]
    case single =>
      intro p hp hkind
      obtain ⟨hstat, hd⟩ := cStat_single e p hp hkind
      exact loggedReg_stat hstat hd
    case double =>
      intro p hp hkind
      obtain ⟨hstat, hd, ha⟩ := cStat_double e p hp hkind
      exact loggedReg_double hstat hd ha
    case addressed =>
      intro hkind
      obtain ⟨c, hstat, hd, ha⟩ := cStat_addressed e hkind
      exact loggedReg_addr hstat (by rw [hd, Bool.false_and]) ha
    case syndromes =>
      intro hkind
      obtain ⟨c, hstat, hs⟩ := cStat_syndromes e hkind
      exact loggedReg_syndromes hstat hs
  case parity =>
    have hpar : tagParity s = true := by rw [tagParity, harmed, hcheck, Bool.and_true]
    have hfault : ∀ ea op wr reg, parity ea op wr reg = ParityFault s ea op wr reg := fun ea op wr reg =>
      funext fun t => propext (hparity ea op wr reg t)
    simp only [hfault]
    refine ⟨fun p hp ra rb disp r pa hr ha hpa => ?integer, fun ra rb disp r pa h31 hr hpa => ?ldqU,
      fun p hp fa rb disp r pa hr hon ha hpa => ?floating, fun ra rb len disp ea hlegal hea => ?hw⟩
    case integer =>
      exact ordinary_parity hpar hr (hr ▸ integerReferences_refersAs p hp ra rb disp s)
        (shownOpcode_references _ (List.mem_map_of_mem (List.mem_append_left _ hp))) ha hpa
    case ldqU =>
      exact ldqU_parity hpar h31 hr hpa
    case floating =>
      exact ordinary_parity hpar hr (hr ▸ floatingReferences_refersAs p hp fa rb disp s hon)
        (shownOpcode_references _ (List.mem_map_of_mem (List.mem_append_right _ hp))) ha hpa
    case hw =>
      subst hea
      simp only [exec_hwLd hlegal, exec_hwSt hlegal]
      refine ⟨?physical, fun p hp r pa hr hpa => ?loads, fun p hp r pa hr hpa => ?stores, fun r pa hr hpa => ?vpte⟩
      case physical =>
        simp only [List.forall_mem_cons (l := _ :: _), List.forall_mem_singleton]
        exact ⟨⟨hwLoadPhysical_parity hpar _ _ _ false, hwStorePhysical_parity hpar _ _ _⟩,
          ⟨hwLoadPhysical_parity hpar _ _ _ true, hwStorePhysical_parity hpar _ _ _⟩⟩
      case loads =>
        have hvirtual := hwLoad_virtual (s := s) (ra := ra) (len := len) (ea := readInt s rb + disp.signExtend 64)
          (p.1, p.2.1, p.2.2, false) (List.mem_cons_of_mem _ (List.mem_map_of_mem (f := fun p => (p.1, p.2.1, p.2.2, false)) hp))
        rw [hvirtual, hwLoadVirtual, ← hr]
        subst hr
        exact reference_parity_completes hpar hpa rfl _
      case stores =>
        rw [hwStore_virtual p hp, hwStoreVirtual, ← hr]
        subst hr
        exact reference_parity_completes hpar hpa rfl _
      case vpte =>
        subst hr
        exact reference_vpte_parity hpar hpa rfl _

end Sys2Proof.Machine
end


/-! # Rounding to significant bits and to integers (spec/46_fp_operate.md R604, R607)

A number is placed between its two neighbours of `p` bits, `q * 2 ^ k` and `(q + 1) * 2 ^ k`, at the part `f` of the way; the model's
`roundsUp` then says which of the two a mode takes. Negative numbers mirror the positive ones. -/

section

namespace Sys2Proof.Machine

/-! ### Numbers of `p` bits -/

section
variable {p q : ℕ} {k : ℤ} {x y z : ℝ}

theorem HasBits.neg (h : HasBits p y) : HasBits p (-y) := by
  obtain ⟨n, e, hn, rfl⟩ := h
  exact ⟨-n, e, by rwa [abs_neg], by push_cast; ring⟩

theorem HasBits.abs (h : HasBits p y) : HasBits p |y| := by
  obtain hy | hy := abs_choice y
  · rwa [hy]
  · rw [hy]
    exact h.neg

theorem hasBits_natCast_mul (hp : 1 ≤ p) (hq : q ≤ 2 ^ p) : HasBits p (q * 2 ^ k) := by
  obtain hlt | rfl := hq.lt_or_eq
  · exact ⟨q, k, by rw [Nat.abs_cast]; exact_mod_cast hlt, by push_cast; rfl⟩
  · refine ⟨1, p + k, by rw [abs_one]; exact one_lt_pow₀ one_lt_two (by omega), ?_⟩
    rw [zpow_add₀ two_ne_zero, zpow_natCast]
    push_cast
    ring

/-- An even number of `p` bits has one bit less. -/
theorem hasBits_pred_of_even (hp : 2 ≤ p) (hq : q ≤ 2 ^ p) (heven : q % 2 = 0) : HasBits (p - 1) (q * 2 ^ k) := by
  obtain ⟨c, rfl⟩ : ∃ c, q = 2 * c := ⟨q / 2, by omega⟩
  have hpow : 2 ^ p = 2 * 2 ^ (p - 1) := by rw [← pow_succ', Nat.sub_add_cancel (by omega)]
  have hdouble : ((2 * c : ℕ) : ℝ) * 2 ^ k = c * 2 ^ (k + 1) := by
    rw [zpow_add₀ two_ne_zero, zpow_one]
    push_cast
    ring
  rw [hdouble]
  exact hasBits_natCast_mul (by omega) (by omega)

/-- No number of `p` bits stands between two neighbours. -/
theorem HasBits.gap (hz : HasBits p z) (hq : 2 ^ (p - 1) ≤ q) : z ≤ q * 2 ^ k ∨ (q + 1) * 2 ^ k ≤ z := by
  by_contra hbetween
  obtain ⟨hlow, hhigh⟩ : (q : ℝ) * 2 ^ k < z ∧ z < (q + 1) * 2 ^ k := by
    rwa [not_or, not_le, not_le] at hbetween
  obtain ⟨n, e, hn, rfl⟩ := hz
  have hk : (0 : ℝ) < 2 ^ k := zpow_pos two_pos k
  obtain hke | hek := le_or_gt k e
  · obtain ⟨j, rfl⟩ := Int.le.dest hke
    have hsplit : (n : ℝ) * 2 ^ (k + (j : ℤ)) = ((n * 2 ^ j : ℤ) : ℝ) * 2 ^ k := by
      rw [zpow_add₀ two_ne_zero, zpow_natCast]
      push_cast
      ring
    rw [hsplit] at hlow hhigh
    have h1 : (q : ℤ) < n * 2 ^ j := by exact_mod_cast lt_of_mul_lt_mul_right hlow hk.le
    have h2 : n * 2 ^ j < (q : ℤ) + 1 := by exact_mod_cast lt_of_mul_lt_mul_right hhigh hk.le
    omega
  · have hbits : (n : ℝ) < 2 * 2 ^ (p - 1) := by
      have hle : (2 : ℤ) ^ p ≤ 2 * 2 ^ (p - 1) := by
        rw [← pow_succ']
        exact pow_le_pow_right₀ one_le_two (by omega)
      exact_mod_cast (le_abs_self n).trans_lt (hn.trans_le hle)
    have hpow : (2 : ℝ) * 2 ^ e ≤ 2 ^ k := by
      rw [← zpow_one_add₀ two_ne_zero]
      exact zpow_le_zpow_right₀ one_le_two (by omega)
    have hqr : (2 : ℝ) ^ (p - 1) ≤ q := by exact_mod_cast hq
    have he : (0 : ℝ) < 2 ^ e := zpow_pos two_pos e
    have hcontra : (n : ℝ) * 2 ^ e < q * 2 ^ k := calc
      (n : ℝ) * 2 ^ e < 2 * 2 ^ (p - 1) * 2 ^ e := mul_lt_mul_of_pos_right hbits he
      _ = 2 ^ (p - 1) * (2 * 2 ^ e) := by ring
      _ ≤ q * 2 ^ k := mul_le_mul hqr hpow (by positivity) (Nat.cast_nonneg q)
    exact lt_asymm hlow hcontra

end

/-! ### Rounding and signs -/

/-- The mode that the mirrored number is rounded in. -/
def Rounding.mirror : Rounding → Rounding
  | .minus => .plus
  | .plus => .minus
  | m => m

theorem roundsUp_mirror (m : Rounding) (q r k : Nat) (sticky : Bool) :
    roundsUp m true q r k sticky = roundsUp m.mirror false q r k sticky := by
  cases m <;> rfl

theorem Rounding.mirror_mirror (m : Rounding) : m.mirror.mirror = m := by
  cases m <;> rfl

theorem abs_neg_sub (x z : ℝ) : |-x - z| = |x - -z| := by
  rw [← abs_neg]
  ring_nf

section
variable {p : ℕ} {m : Rounding} {x y : ℝ}

theorem RoundsTo.neg (h : RoundsTo p m x y) : RoundsTo p m.mirror (-x) (-y) := by
  obtain ⟨hbits, h⟩ := h
  refine ⟨hbits.neg, ?_⟩
  cases m with
  | chopped =>
    obtain ⟨hsign, hle, hmax⟩ := h
    exact ⟨by rwa [neg_mul_neg], by rwa [abs_neg, abs_neg], fun z hz hzx => by
      rw [abs_neg] at hzx ⊢
      exact hmax z hz hzx⟩
  | minus =>
    obtain ⟨hle, hmax⟩ := h
    exact ⟨neg_le_neg hle, fun z hz hzx => neg_le.1 (hmax (-z) hz.neg (neg_le.1 hzx))⟩
  | plus =>
    obtain ⟨hle, hmin⟩ := h
    exact ⟨neg_le_neg hle, fun z hz hzx => le_neg.1 (hmin (-z) hz.neg (le_neg.1 hzx))⟩
  | nearestEven =>
    obtain ⟨hnear, heven⟩ := h
    refine ⟨fun z hz => ?_, fun z hz heq hne => ?_⟩
    · rw [abs_neg_sub, abs_neg_sub, neg_neg]
      exact hnear (-z) hz.neg
    · rw [abs_neg_sub, abs_neg_sub, neg_neg] at heq
      exact (heven (-z) hz.neg heq fun h => hne (by rw [← h, neg_neg])).neg
  | nearestAway =>
    intro z hz
    rw [abs_neg_sub, abs_neg_sub, neg_neg, abs_neg, ← abs_neg z]
    exact h (-z) hz.neg

/-- A number of `p` bits rounds to itself. -/
theorem HasBits.roundsTo_self (h : HasBits p x) (m : Rounding) : RoundsTo p m x x := by
  have heq : ∀ z : ℝ, |x - z| = |x - x| → z = x := fun z hz => by
    rw [sub_self, abs_zero, abs_eq_zero, sub_eq_zero] at hz
    exact hz.symm
  refine ⟨h, ?_⟩
  cases m with
  | chopped => exact ⟨mul_self_nonneg x, le_rfl, fun z _ hz => hz⟩
  | minus | plus => exact ⟨le_rfl, fun z _ hz => hz⟩
  | nearestEven => exact ⟨fun z _ => by rw [sub_self, abs_zero]; exact abs_nonneg _, fun z _ hz hne => absurd (heq z hz) hne⟩
  | nearestAway =>
    exact fun z _ => ⟨by rw [sub_self, abs_zero]; exact abs_nonneg _, fun hz => by rw [heq z hz]⟩

end

/-! ### A number between its neighbours -/

/-- A positive number strictly between two numbers of `p` bits that have none between them. -/
structure Neighbours (p : ℕ) (lo x hi : ℝ) : Prop where
  nonneg : 0 ≤ lo
  lower : lo < x
  upper : x < hi
  bitsLo : HasBits p lo
  bitsHi : HasBits p hi
  gap : ∀ z, HasBits p z → z ≤ lo ∨ hi ≤ z

section
variable {p : ℕ} {lo x hi : ℝ} (h : Neighbours p lo x hi)
include h

theorem Neighbours.nearer_lo (hd : x - lo ≤ hi - x) {z : ℝ} (hz : HasBits p z) : |x - lo| ≤ |x - z| := by
  rw [abs_of_pos (sub_pos.2 h.lower)]
  obtain hzlo | hzhi := h.gap z hz
  · exact (by linarith : x - lo ≤ x - z).trans (le_abs_self _)
  · exact (by linarith : x - lo ≤ -(x - z)).trans (neg_le_abs _)

theorem Neighbours.nearer_hi (hd : hi - x ≤ x - lo) {z : ℝ} (hz : HasBits p z) : |x - hi| ≤ |x - z| := by
  rw [abs_sub_comm x hi, abs_of_pos (sub_pos.2 h.upper)]
  obtain hzlo | hzhi := h.gap z hz
  · exact (by linarith : hi - x ≤ x - z).trans (le_abs_self _)
  · exact (by linarith : hi - x ≤ -(x - z)).trans (neg_le_abs _)

/-- The only number as near as the nearer neighbour below. -/
theorem Neighbours.eq_lo (hd : x - lo < hi - x) {z : ℝ} (hz : HasBits p z) (heq : |x - z| = |x - lo|) : z = lo := by
  have hlower := h.lower
  rw [abs_of_pos (sub_pos.2 hlower)] at heq
  obtain hzlo | hzhi := h.gap z hz
  · rw [abs_of_nonneg (by linarith)] at heq
    linarith
  · have := (neg_le_abs (x - z)).trans_eq heq
    linarith

theorem Neighbours.eq_hi (hd : hi - x < x - lo) {z : ℝ} (hz : HasBits p z) (heq : |x - z| = |x - hi|) : z = hi := by
  have hupper := h.upper
  rw [abs_sub_comm x hi, abs_of_pos (sub_pos.2 hupper)] at heq
  obtain hzlo | hzhi := h.gap z hz
  · have := (le_abs_self (x - z)).trans_eq heq
    linarith
  · rw [abs_sub_comm, abs_of_nonneg (by linarith)] at heq
    linarith

/-- When a mode takes the lower neighbour. -/
theorem Neighbours.roundsTo_lo {m : Rounding} (hplus : m ≠ .plus)
    (heven : m = .nearestEven → x - lo < hi - x ∨ x - lo = hi - x ∧ HasBits (p - 1) lo)
    (haway : m = .nearestAway → x - lo < hi - x) : RoundsTo p m x lo := by
  have hlower := h.lower
  have hnonneg := h.nonneg
  refine ⟨h.bitsLo, ?_⟩
  cases m with
  | plus => exact absurd rfl hplus
  | chopped =>
    rw [abs_of_nonneg hnonneg, abs_of_nonneg (hnonneg.trans hlower.le)]
    refine ⟨by nlinarith, hlower.le, fun z hz hzx => ?_⟩
    exact (h.gap _ hz.abs).resolve_right fun hhi => absurd (hhi.trans hzx) (not_le.2 h.upper)
  | minus => exact ⟨hlower.le, fun z hz hzx => (h.gap z hz).resolve_right fun hhi => absurd (hhi.trans hzx) (not_le.2 h.upper)⟩
  | nearestEven =>
    obtain hd | ⟨hd, hbits⟩ := heven rfl
    · exact ⟨fun z hz => h.nearer_lo hd.le hz, fun z hz heq hne => absurd (h.eq_lo hd hz heq) hne⟩
    · exact ⟨fun z hz => h.nearer_lo hd.le hz, fun _ _ _ _ => hbits⟩
  | nearestAway =>
    have hd := haway rfl
    exact fun z hz => ⟨h.nearer_lo hd.le hz, fun heq => by rw [h.eq_lo hd hz heq]⟩

/-- When a mode takes the upper neighbour. -/
theorem Neighbours.roundsTo_hi {m : Rounding} (hchopped : m ≠ .chopped) (hminus : m ≠ .minus)
    (heven : m = .nearestEven → hi - x < x - lo ∨ hi - x = x - lo ∧ HasBits (p - 1) hi)
    (haway : m = .nearestAway → hi - x ≤ x - lo) : RoundsTo p m x hi := by
  have hlower := h.lower
  have hupper := h.upper
  have hnonneg := h.nonneg
  refine ⟨h.bitsHi, ?_⟩
  cases m with
  | chopped => exact absurd rfl hchopped
  | minus => exact absurd rfl hminus
  | plus => exact ⟨hupper.le, fun z hz hzx => (h.gap z hz).resolve_left fun hlo => absurd (hzx.trans hlo) (not_le.2 hlower)⟩
  | nearestEven =>
    obtain hd | ⟨hd, hbits⟩ := heven rfl
    · exact ⟨fun z hz => h.nearer_hi hd.le hz, fun z hz heq hne => absurd (h.eq_hi hd hz heq) hne⟩
    · exact ⟨fun z hz => h.nearer_hi hd.le hz, fun _ _ _ _ => hbits⟩
  | nearestAway =>
    have hd := haway rfl
    refine fun z hz => ⟨h.nearer_hi hd hz, fun heq => ?_⟩
    rw [abs_sub_comm x hi, abs_of_pos (sub_pos.2 hupper)] at heq
    have hleft := (le_abs_self (x - z)).trans_eq heq
    have hright := (neg_le_abs (x - z)).trans_eq heq
    rw [abs_of_nonneg (by linarith : 0 ≤ hi)]
    exact abs_le.2 ⟨by linarith, by linarith⟩

end

/-! ### The model's choice -/

/-- A positive number of `q` units and a part `f` of the next one is rounded up. -/
def Rounding.Upward (m : Rounding) (q : ℕ) (f : ℝ) : Prop :=
  match m with
  | .chopped => False
  | .minus => False
  | .plus => 0 < f
  | .nearestEven => 1 / 2 < f ∨ f = 1 / 2 ∧ q % 2 = 1
  | .nearestAway => 1 / 2 ≤ f

/-- The part `f` of a unit that `r` of `2 ^ k` places and a rest below one make, the rest marked by `sticky`. -/
structure IsPart (r k : ℕ) (sticky : Bool) (f : ℝ) : Prop where
  rest : ∃ δ : ℝ, 0 ≤ δ ∧ δ < 1 ∧ (sticky = true ↔ δ ≠ 0) ∧ f * 2 ^ k = r + δ
  below : r < 2 ^ k
  whole : k = 0 → sticky = false

section
variable {r k : ℕ} {sticky : Bool} {f : ℝ} (h : IsPart r k sticky f)
include h

theorem IsPart.nonneg : 0 ≤ f := by
  obtain ⟨δ, h0, -, -, hf⟩ := h.rest
  have hk : (0 : ℝ) < 2 ^ k := by positivity
  exact nonneg_of_mul_nonneg_left (by rw [hf]; positivity) hk

theorem IsPart.lt_one : f < 1 := by
  obtain ⟨δ, -, h1, -, hf⟩ := h.rest
  have hr : (r : ℝ) + 1 ≤ 2 ^ k := by exact_mod_cast h.below
  have hk : (0 : ℝ) < 2 ^ k := by positivity
  refine lt_of_mul_lt_mul_right (?_ : f * 2 ^ k < 1 * 2 ^ k) hk.le
  rw [hf]
  linarith

theorem IsPart.eq_zero_iff : f = 0 ↔ (r != 0 || sticky) = false := by
  obtain ⟨δ, h0, -, hs, hf⟩ := h.rest
  have hk : (2 : ℝ) ^ k ≠ 0 := by positivity
  have hfr : f = 0 ↔ (r : ℝ) + δ = 0 := by
    rw [← hf, mul_eq_zero]
    exact ⟨Or.inl, fun h => h.resolve_right hk⟩
  have hr : (0 : ℝ) ≤ r := Nat.cast_nonneg r
  rw [hfr, Bool.or_eq_false_iff, bne_eq_false_iff_eq, ← Bool.not_eq_true, hs, not_not, ← Nat.cast_eq_zero (R := ℝ)]
  exact ⟨fun h => ⟨by linarith, by linarith⟩, fun h => by rw [h.1, h.2, add_zero]⟩

theorem IsPart.pos_iff : 0 < f ↔ (r != 0 || sticky) = true := by
  rw [h.nonneg.lt_iff_ne', ne_eq, h.eq_zero_iff, Bool.not_eq_false]

theorem IsPart.half_le_iff : 1 / 2 ≤ f ↔ (k != 0 && decide (2 ^ k ≤ 2 * r)) = true := by
  obtain ⟨δ, h0, h1, hs, hf⟩ := h.rest
  have hbelow := h.below
  obtain _ | k := k
  · have hr : r = 0 := by omega
    have hδ : δ = 0 := by_contra fun hne => Bool.false_ne_true ((h.whole rfl).symm.trans (hs.2 hne))
    rw [pow_zero, mul_one, hr, hδ] at hf
    rw [hf]
    norm_num
  · have hk : (0 : ℝ) < 2 ^ k := by positivity
    have hhalf : 1 / 2 ≤ f ↔ (2 : ℝ) ^ k ≤ r + δ := by
      rw [← hf, pow_succ]
      constructor <;> intro h <;> nlinarith
    have hnat : (2 : ℝ) ^ k ≤ r + δ ↔ 2 ^ k ≤ r := by
      refine ⟨fun h => ?_, fun h => ?_⟩
      · have hlt : (2 : ℝ) ^ k < r + 1 := by linarith
        exact Nat.lt_succ_iff.1 (by exact_mod_cast hlt)
      · have hle : (2 : ℝ) ^ k ≤ r := by exact_mod_cast h
        linarith
    rw [hhalf, hnat, Bool.and_eq_true, decide_eq_true_iff, pow_succ]
    simp only [bne_iff_ne, ne_eq, Nat.add_eq_zero_iff, one_ne_zero, and_false, not_false_eq_true, true_and]
    omega

theorem IsPart.half_lt_iff :
    1 / 2 < f ↔ (k != 0 && (decide (2 ^ k < 2 * r) || (decide (2 ^ k ≤ 2 * r) && sticky))) = true := by
  obtain ⟨δ, h0, h1, hs, hf⟩ := h.rest
  have hbelow := h.below
  obtain _ | k := k
  · have hr : r = 0 := by omega
    have hδ : δ = 0 := by_contra fun hne => Bool.false_ne_true ((h.whole rfl).symm.trans (hs.2 hne))
    rw [pow_zero, mul_one, hr, hδ] at hf
    rw [hf]
    norm_num
  · have hk : (0 : ℝ) < 2 ^ k := by positivity
    have hhalf : 1 / 2 < f ↔ (2 : ℝ) ^ k < r + δ := by
      rw [← hf, pow_succ]
      constructor <;> intro h <;> nlinarith
    have hnat : (2 : ℝ) ^ k < r + δ ↔ 2 ^ k < r ∨ 2 ^ k ≤ r ∧ δ ≠ 0 := by
      refine ⟨fun h => ?_, ?_⟩
      · have hlt : (2 : ℝ) ^ k < r + 1 := by linarith
        have hle : 2 ^ k ≤ r := Nat.lt_succ_iff.1 (by exact_mod_cast hlt)
        obtain heq | hgt := hle.eq_or_lt
        · have hcast : (2 : ℝ) ^ k = r := by exact_mod_cast heq
          exact .inr ⟨hle, fun hz => by rw [hz] at h; linarith⟩
        · exact .inl hgt
      · rintro (h | ⟨h, hne⟩)
        · have hlt : (2 : ℝ) ^ k < r := by exact_mod_cast h
          linarith
        · have hle : (2 : ℝ) ^ k ≤ r := by exact_mod_cast h
          have hpos := h0.lt_of_ne' hne
          linarith
    have h2r : ∀ c, 2 ^ k * 2 < 2 * c ↔ 2 ^ k < c := fun c => by omega
    have h2r' : ∀ c, 2 ^ k * 2 ≤ 2 * c ↔ 2 ^ k ≤ c := fun c => by omega
    rw [hhalf, hnat, ← hs]
    simp only [Bool.and_eq_true, Bool.or_eq_true, decide_eq_true_iff, pow_succ, bne_iff_ne, ne_eq, Nat.add_eq_zero_iff, one_ne_zero,
      and_false, not_false_eq_true, true_and, h2r, h2r']

/-- The model rounds a positive number up exactly where the mode asks for it. -/
theorem roundsUp_iff (m : Rounding) (q : ℕ) : roundsUp m false q r k sticky = true ↔ m.Upward q f := by
  cases m with
  | chopped | minus => exact iff_of_false Bool.false_ne_true id
  | plus => exact h.pos_iff.symm
  | nearestAway => exact h.half_le_iff.symm
  | nearestEven =>
    show (_ || (_ && q % 2 == 1)) = true ↔ _
    rw [Bool.or_eq_true, ← h.half_lt_iff, Bool.and_eq_true (_ && _), ← h.half_le_iff, beq_iff_eq]
    constructor
    · rintro (hgt | ⟨hge, hodd⟩)
      · exact .inl hgt
      · exact hge.lt_or_eq.imp id fun heq => ⟨heq.symm, hodd⟩
    · exact Or.imp id fun ⟨heq, hodd⟩ => ⟨heq.ge, hodd⟩

end

/-- A positive number of `q` units and a part `f`, rounded to `p` bits. -/
theorem roundsTo_units {p q : ℕ} {k : ℤ} {f : ℝ} (hp : 2 ≤ p) (hq : q < 2 ^ p) (hf0 : 0 ≤ f) (hf1 : f < 1)
    (hnormal : f ≠ 0 → 2 ^ (p - 1) ≤ q) (m : Rounding) {q' : ℕ}
    (hup : m.Upward q f → q' = q + 1) (hdown : ¬m.Upward q f → q' = q) :
    RoundsTo p m ((q + f) * 2 ^ k) (q' * 2 ^ k) := by
  obtain rfl | hf := eq_or_ne f 0
  · have hkeep : ¬m.Upward q 0 := by
      cases m <;> norm_num [Rounding.Upward]
    rw [hdown hkeep, add_zero]
    exact (hasBits_natCast_mul (by omega) hq.le).roundsTo_self m
  · have hpos := hf0.lt_of_ne' hf
    have hk : (0 : ℝ) < 2 ^ k := zpow_pos two_pos k
    have hbetween : Neighbours p (q * 2 ^ k) ((q + f) * 2 ^ k) (((q + 1 : ℕ) : ℝ) * 2 ^ k) := {
      nonneg := by positivity
      lower := mul_lt_mul_of_pos_right (by linarith) hk
      upper := mul_lt_mul_of_pos_right (by push_cast; linarith) hk
      bitsLo := hasBits_natCast_mul (by omega) hq.le
      bitsHi := hasBits_natCast_mul (by omega) hq
      gap := fun z hz => by
        push_cast
        exact hz.gap (hnormal hf) }
    have hlow : (q + f) * (2 : ℝ) ^ k - q * 2 ^ k = f * 2 ^ k := by ring
    have hhigh : ((q + 1 : ℕ) : ℝ) * (2 : ℝ) ^ k - (q + f) * 2 ^ k = (1 - f) * 2 ^ k := by
      push_cast
      ring
    by_cases hm : m.Upward q f
    · rw [hup hm]
      refine hbetween.roundsTo_hi (by rintro rfl; exact hm) (by rintro rfl; exact hm) ?_ ?_
      all_goals rintro rfl
      · rw [hlow, hhigh, mul_lt_mul_iff_left₀ hk, mul_left_inj' hk.ne']
        refine hm.imp (fun hgt => by linarith) fun ⟨heq, hodd⟩ => ⟨by linarith, ?_⟩
        exact hasBits_pred_of_even hp hq (by omega)
      · rw [hlow, hhigh]
        exact mul_le_mul_of_nonneg_right (by have : 1 / 2 ≤ f := hm; linarith) hk.le
    · rw [hdown hm]
      refine hbetween.roundsTo_lo (by rintro rfl; exact hm hpos) ?_ ?_
      all_goals rintro rfl
      · rw [hlow, hhigh, mul_lt_mul_iff_left₀ hk, mul_left_inj' hk.ne']
        obtain ⟨hle, htie⟩ : ¬1 / 2 < f ∧ ¬(f = 1 / 2 ∧ q % 2 = 1) := not_or.1 hm
        obtain heq | hlt := (not_lt.1 hle).eq_or_lt
        · exact .inr ⟨by linarith, hasBits_pred_of_even hp hq.le (Nat.mod_two_ne_one.1 fun h => htie ⟨heq, h⟩)⟩
        · exact .inl (by linarith)
      · rw [hlow, hhigh]
        exact mul_lt_mul_of_pos_right (by have : ¬1 / 2 ≤ f := hm; linarith) hk

end Sys2Proof.Machine
end


/-! # Rounded numbers in the floating formats (spec/46_fp_operate.md R600, R604, R607, R609)

`roundTo` rounds the number that a scaled magnitude stands for; `fpPack` and `fpUnpack` are inverse on the numbers of a format. -/

section

namespace Sys2Proof.Machine

/-! ### The number that a scaled magnitude stands for -/

/-- A real number with a sign. -/
def signed (neg : Bool) (a : ℝ) : ℝ := if neg then -a else a

theorem abs_signed {a : ℝ} (neg : Bool) (ha : 0 ≤ a) : |signed neg a| = a := by
  cases neg with
  | true => exact (abs_neg a).trans (abs_of_nonneg ha)
  | false => exact abs_of_nonneg ha

theorem signed_neg_iff {a : ℝ} (neg : Bool) (ha : 0 < a) : signed neg a < 0 ↔ neg = true := by
  cases neg with
  | true => exact iff_of_true (neg_lt_zero.2 ha) rfl
  | false => exact iff_of_false (not_lt.2 ha.le) Bool.false_ne_true

theorem signed_inj {a b : ℝ} (neg : Bool) : signed neg a = signed neg b ↔ a = b := by
  cases neg with
  | true => exact neg_inj
  | false => exact Iff.rfl

theorem signed_eq_mul (neg : Bool) (a : ℝ) : signed neg a = (if neg then -1 else 1) * a := by
  cases neg with
  | true => exact (neg_one_mul a).symm
  | false => exact (one_mul a).symm

theorem signed_mul (n1 n2 : Bool) (a b : ℝ) : signed n1 a * signed n2 b = signed (n1 ^^ n2) (a * b) := by
  cases n1 <;> cases n2 <;> simp [signed]

theorem signed_div (n1 n2 : Bool) (a b : ℝ) : signed n1 a / signed n2 b = signed (n1 ^^ n2) (a / b) := by
  cases n1 <;> cases n2 <;> simp [signed, neg_div, div_neg]

theorem signed_not (neg : Bool) (a : ℝ) : signed (!neg) a = -signed neg a := by
  cases neg <;> simp [signed]

/-- The number `v` is the one that `x` stands for, some rest below one unit included. -/
def Scaled.Denotes (x : Scaled) (v : ℝ) : Prop :=
  ∃ δ : ℝ, 0 ≤ δ ∧ δ < 1 ∧ (x.sticky = true ↔ δ ≠ 0) ∧ v = signed x.neg ((x.mant + δ) * 2 ^ x.exp)

/-- The number of a magnitude without a rest. -/
noncomputable def Scaled.value (x : Scaled) : ℝ := signed x.neg (x.mant * 2 ^ x.exp)

noncomputable def Rounded.value (r : Rounded) : ℝ := signed r.neg (r.mant * 2 ^ r.exp)

theorem Scaled.denotes_value {x : Scaled} (h : x.sticky = false) : x.Denotes x.value :=
  ⟨0, le_rfl, zero_lt_one, iff_of_false (by rw [h]; exact Bool.false_ne_true) (not_not.2 rfl), by rw [add_zero]; rfl⟩

/-! ### Rounding to a format's bits -/

theorem bitLength_spec {n : ℕ} (h : n ≠ 0) : 2 ^ (bitLength n - 1) ≤ n ∧ n < 2 ^ bitLength n := by
  rw [bitLength, if_neg h]
  exact ⟨Nat.log2_self_le h, Nat.lt_log2_self⟩

theorem bitLength_pos {n : ℕ} (h : n ≠ 0) : 1 ≤ bitLength n := by
  rw [bitLength, if_neg h]
  exact Nat.le_add_left 1 _

theorem lt_bitLength {n p : ℕ} (h : 2 ^ p ≤ n) : p < bitLength n :=
  (Nat.pow_lt_pow_iff_right one_lt_two).1 (h.trans_lt (bitLength_spec (Nat.pos_of_ne_zero fun hn => by
    rw [hn] at h; exact absurd h (not_le.2 (by positivity))).ne').2)

/-- The low places that rounding to `p` bits drops. -/
def droppedBits (p : ℕ) (x : Scaled) : ℕ := bitLength x.mant - p

/-- The units that rounding to `p` bits keeps. -/
def roundedUnits (p : ℕ) (m : Rounding) (x : Scaled) : ℕ :=
  if roundsUp m x.neg (x.mant >>> droppedBits p x) (x.mant % 2 ^ droppedBits p x) (droppedBits p x) x.sticky
  then x.mant >>> droppedBits p x + 1 else x.mant >>> droppedBits p x

theorem roundTo_carry {p : ℕ} {m : Rounding} {x : Scaled} (h : roundedUnits p m x = 2 ^ p) : roundTo p m x =
    { neg := x.neg, mant := 2 ^ (p - 1), exp := x.exp + droppedBits p x + 1,
      inexact := x.mant % 2 ^ droppedBits p x != 0 || x.sticky } := if_pos h

theorem roundTo_kept {p : ℕ} {m : Rounding} {x : Scaled} (h : roundedUnits p m x ≠ 2 ^ p) : roundTo p m x =
    { neg := x.neg, mant := roundedUnits p m x <<< (p - bitLength x.mant),
      exp := x.exp + droppedBits p x - (p - bitLength x.mant : ℕ),
      inexact := x.mant % 2 ^ droppedBits p x != 0 || x.sticky } := if_neg h

section
variable {p : ℕ} {m : Rounding} {x : Scaled} {v : ℝ}

theorem roundTo_neg : (roundTo p m x).neg = x.neg := by
  by_cases h : roundedUnits p m x = 2 ^ p
  · rw [roundTo_carry h]
  · rw [roundTo_kept h]

theorem roundTo_inexact : (roundTo p m x).inexact = (x.mant % 2 ^ droppedBits p x != 0 || x.sticky) := by
  by_cases h : roundedUnits p m x = 2 ^ p
  · rw [roundTo_carry h]
  · rw [roundTo_kept h]

/-- Normalisation does not change the number. -/
theorem roundTo_value (hp : 1 ≤ p) :
    (roundTo p m x).value = signed x.neg (roundedUnits p m x * 2 ^ (x.exp + droppedBits p x)) := by
  by_cases h : roundedUnits p m x = 2 ^ p
  · rw [roundTo_carry h, Rounded.value, signed_inj, h, zpow_add_one₀ two_ne_zero]
    have hpow : (2 : ℝ) ^ p = 2 ^ (p - 1) * 2 := by rw [← pow_succ, Nat.sub_add_cancel hp]
    push_cast
    rw [hpow]
    ring
  · rw [roundTo_kept h, Rounded.value, signed_inj, Nat.shiftLeft_eq, zpow_sub₀ two_ne_zero, zpow_natCast]
    push_cast
    field_simp

theorem kept_lt (hne : x.mant ≠ 0) : x.mant >>> droppedBits p x < 2 ^ p := by
  rw [Nat.shiftRight_eq_div_pow]
  refine Nat.div_lt_of_lt_mul ((bitLength_spec hne).2.trans_le ?_)
  rw [← pow_add]
  exact Nat.pow_le_pow_right two_pos (by rw [droppedBits]; omega)

theorem le_kept (hp : 1 ≤ p) (hne : x.mant ≠ 0) (hlong : p ≤ bitLength x.mant) : 2 ^ (p - 1) ≤ x.mant >>> droppedBits p x := by
  rw [Nat.shiftRight_eq_div_pow, Nat.le_div_iff_mul_le (by positivity), ← pow_add]
  refine le_trans (Nat.pow_le_pow_right two_pos ?_) (bitLength_spec hne).1
  rw [droppedBits]
  omega

/-- The part of the last kept unit that the dropped places make. -/
noncomputable def droppedPart (p : ℕ) (x : Scaled) (δ : ℝ) : ℝ :=
  ((x.mant % 2 ^ droppedBits p x : ℕ) + δ) / 2 ^ droppedBits p x

theorem isPart_dropped {δ : ℝ} (h0 : 0 ≤ δ) (h1 : δ < 1) (hδ : x.sticky = true ↔ δ ≠ 0)
    (hs : x.sticky = true → p < bitLength x.mant) :
    IsPart (x.mant % 2 ^ droppedBits p x) (droppedBits p x) x.sticky (droppedPart p x δ) where
  rest := ⟨δ, h0, h1, hδ, div_mul_cancel₀ _ (by positivity)⟩
  below := Nat.mod_lt _ (by positivity)
  whole := fun hk => by
    rw [← Bool.not_eq_true]
    intro hst
    have := hs hst
    rw [droppedBits] at hk
    omega

/-- A magnitude in units of the last kept place. -/
theorem kept_add_part (p : ℕ) (x : Scaled) (δ : ℝ) :
    (x.mant + δ) * 2 ^ x.exp = ((x.mant >>> droppedBits p x : ℕ) + droppedPart p x δ) * 2 ^ (x.exp + droppedBits p x) := by
  have hsplit : (x.mant : ℝ) = (x.mant >>> droppedBits p x : ℕ) * 2 ^ droppedBits p x + (x.mant % 2 ^ droppedBits p x : ℕ) := by
    rw [Nat.shiftRight_eq_div_pow]
    exact_mod_cast (Nat.div_add_mod' x.mant (2 ^ droppedBits p x)).symm
  have hpart : droppedPart p x δ * 2 ^ droppedBits p x = (x.mant % 2 ^ droppedBits p x : ℕ) + δ :=
    div_mul_cancel₀ _ (by positivity)
  rw [zpow_add₀ two_ne_zero, zpow_natCast]
  calc (x.mant + δ) * 2 ^ x.exp
      = ((x.mant >>> droppedBits p x : ℕ) * 2 ^ droppedBits p x + ((x.mant % 2 ^ droppedBits p x : ℕ) + δ)) * 2 ^ x.exp := by
        rw [hsplit]; ring
    _ = _ := by rw [← hpart]; ring

/-- The mode as a positive number sees it. -/
def Rounding.seen (m : Rounding) (neg : Bool) : Rounding := if neg then m.mirror else m

theorem roundsUp_seen (m : Rounding) (neg : Bool) (q r k : ℕ) (sticky : Bool) :
    roundsUp m neg q r k sticky = roundsUp (m.seen neg) false q r k sticky := by
  cases neg with
  | true => exact roundsUp_mirror m q r k sticky
  | false => rfl

theorem RoundsTo.signed {a b : ℝ} {neg : Bool} (h : RoundsTo p (m.seen neg) a b) : RoundsTo p m (signed neg a) (signed neg b) := by
  cases neg with
  | true => exact m.mirror_mirror ▸ h.neg
  | false => exact h

theorem not_upward_zero (m : Rounding) (q : ℕ) : ¬m.Upward q 0 := by
  cases m <;> norm_num [Rounding.Upward]

section
variable (hs : x.sticky = true → p < bitLength x.mant) (hv : x.Denotes v)
include hs hv

/-- What is dropped shows. -/
theorem roundTo_inexact_iff (hp : 1 ≤ p) : (roundTo p m x).inexact = true ↔ (roundTo p m x).value ≠ v := by
  obtain ⟨δ, h0, h1, hδ, rfl⟩ := hv
  have hpart := isPart_dropped h0 h1 hδ hs
  have hiff := roundsUp_iff hpart (m.seen x.neg) (x.mant >>> droppedBits p x)
  rw [← roundsUp_seen] at hiff
  have hunit : (2 : ℝ) ^ (x.exp + droppedBits p x) ≠ 0 := zpow_ne_zero _ two_ne_zero
  rw [roundTo_value hp, kept_add_part p x δ, roundTo_inexact, ne_eq, signed_inj, mul_left_inj' hunit, ← hpart.pos_iff]
  constructor
  · intro hpos heq
    have hlt := hpart.lt_one
    rw [roundedUnits] at heq
    split at heq
    · push_cast at heq
      linarith
    · linarith
  · intro hdiff
    refine hpart.nonneg.lt_of_ne' fun hzero => hdiff ?_
    rw [hzero] at hiff ⊢
    rw [roundedUnits, if_neg fun h => not_upward_zero _ _ (hiff.1 h), add_zero]

variable (hne : x.mant ≠ 0)
include hne

/-- The model rounds right. -/
theorem roundTo_roundsTo (hp : 2 ≤ p) : RoundsTo p m v (roundTo p m x).value := by
  obtain ⟨δ, h0, h1, hδ, rfl⟩ := hv
  have hpart := isPart_dropped h0 h1 hδ hs
  have hiff := roundsUp_iff hpart (m.seen x.neg) (x.mant >>> droppedBits p x)
  rw [← roundsUp_seen] at hiff
  rw [roundTo_value (by omega), kept_add_part p x δ]
  refine RoundsTo.signed (roundsTo_units hp (kept_lt hne) hpart.nonneg hpart.lt_one (fun hf => ?_) _ (fun hup => ?_) fun hdown => ?_)
  · refine le_kept (by omega) hne ?_
    by_contra hshort
    have hk : droppedBits p x = 0 := by
      rw [droppedBits]
      omega
    refine hf (hpart.eq_zero_iff.2 ?_)
    rw [hpart.whole hk, hk, pow_zero, Nat.mod_one]
    rfl
  · rw [roundedUnits, if_pos (hiff.2 hup)]
  · rw [roundedUnits, if_neg fun h => hdown (hiff.1 h)]

/-- A rounded number has exactly `p` bits. -/
theorem roundTo_normal (hp : 1 ≤ p) : 2 ^ (p - 1) ≤ (roundTo p m x).mant ∧ (roundTo p m x).mant < 2 ^ p := by
  obtain ⟨δ, h0, h1, hδ, -⟩ := hv
  by_cases hcarry : roundedUnits p m x = 2 ^ p
  · rw [roundTo_carry hcarry]
    exact ⟨le_rfl, Nat.pow_lt_pow_right one_lt_two (by omega)⟩
  rw [roundTo_kept hcarry]
  have hkept : x.mant >>> droppedBits p x ≤ roundedUnits p m x ∧ roundedUnits p m x ≤ x.mant >>> droppedBits p x + 1 := by
    rw [roundedUnits]
    split <;> omega
  have hlt : x.mant >>> droppedBits p x < 2 ^ p := kept_lt hne
  obtain hlong | hshort := le_or_gt p (bitLength x.mant)
  · have hle := le_kept hp hne hlong
    show 2 ^ (p - 1) ≤ roundedUnits p m x <<< (p - bitLength x.mant) ∧ roundedUnits p m x <<< (p - bitLength x.mant) < 2 ^ p
    rw [Nat.sub_eq_zero_of_le hlong, Nat.shiftLeft_zero]
    omega
  · have hk : droppedBits p x = 0 := by
      rw [droppedBits]
      omega
    have hpart := isPart_dropped h0 h1 hδ hs
    have hzero := hpart.eq_zero_iff.2 (by rw [hpart.whole hk, hk, pow_zero, Nat.mod_one]; rfl)
    have hdown : ¬roundsUp m x.neg (x.mant >>> droppedBits p x) (x.mant % 2 ^ droppedBits p x) (droppedBits p x) x.sticky = true := by
      rw [roundsUp_seen, roundsUp_iff hpart, hzero]
      exact not_upward_zero _ _
    have hunits : roundedUnits p m x = x.mant := by
      rw [roundedUnits, if_neg hdown, hk, Nat.shiftRight_zero]
    obtain ⟨hlow, hhigh⟩ := bitLength_spec hne
    have hpos := bitLength_pos hne
    show 2 ^ (p - 1) ≤ roundedUnits p m x <<< (p - bitLength x.mant) ∧ roundedUnits p m x <<< (p - bitLength x.mant) < 2 ^ p
    rw [hunits, Nat.shiftLeft_eq]
    constructor
    · refine le_trans (le_of_eq ?_) (Nat.mul_le_mul_right _ hlow)
      rw [← pow_add]
      congr 1
      omega
    · refine lt_of_lt_of_eq (Nat.mul_lt_mul_of_pos_right hhigh (by positivity)) ?_
      rw [← pow_add]
      congr 1
      omega

end
end

/-! ### The exponent of a rounded number -/

theorem Rounded.abs_value (r : Rounded) : |r.value| = r.mant * 2 ^ r.exp := abs_signed _ (by positivity)

section
variable {p : ℕ} {r : Rounded} (hp : 1 ≤ p) (hlow : 2 ^ (p - 1) ≤ r.mant) (hhigh : r.mant < 2 ^ p)
include hp hlow hhigh

theorem Rounded.value_ge_iff (n : ℤ) : (2 : ℝ) ^ (n + 1) ≤ |r.value| ↔ n < r.exp + p - 1 := by
  have hexp : (2 : ℝ) ^ p * 2 ^ r.exp = 2 ^ (r.exp + p) := by
    rw [zpow_add₀ two_ne_zero, zpow_natCast, mul_comm]
  have hexp' : (2 : ℝ) ^ (p - 1) * 2 ^ r.exp = 2 ^ (r.exp + p - 1) := by
    rw [← zpow_natCast, ← zpow_add₀ two_ne_zero]
    congr 1
    omega
  have hunit : (0 : ℝ) < 2 ^ r.exp := zpow_pos two_pos _
  have hlow' : (2 : ℝ) ^ (p - 1) ≤ r.mant := by exact_mod_cast hlow
  have hhigh' : (r.mant : ℝ) < 2 ^ p := by exact_mod_cast hhigh
  rw [Rounded.abs_value]
  constructor
  · intro h
    have hlt : (2 : ℝ) ^ (n + 1) < 2 ^ (r.exp + p) := h.trans_lt (hexp ▸ mul_lt_mul_of_pos_right hhigh' hunit)
    have := (zpow_lt_zpow_iff_right₀ one_lt_two).1 hlt
    omega
  · intro h
    refine le_trans ?_ (mul_le_mul_of_nonneg_right hlow' hunit.le)
    rw [hexp']
    exact zpow_le_zpow_right₀ one_le_two (by omega)

theorem Rounded.value_lt_iff (n : ℤ) : |r.value| < (2 : ℝ) ^ n ↔ r.exp + p - 1 < n := by
  rw [← not_le, ← sub_add_cancel n 1, r.value_ge_iff hp hlow hhigh]
  omega

end

end Sys2Proof.Machine
end


/-! # Exact operations and the images of numbers (spec/46_fp_operate.md R600, R604) -/

section

namespace Sys2Proof.Machine

/-! ### Exact operations -/

section
variable {x y : Scaled}

theorem Scaled.value_eq_zero_iff : x.value = 0 ↔ x.mant = 0 := by
  have hunit : (2 : ℝ) ^ x.exp ≠ 0 := zpow_ne_zero _ two_ne_zero
  have hpos : x.value = 0 ↔ (x.mant : ℝ) * 2 ^ x.exp = 0 := by
    rw [Scaled.value, signed]
    split
    · exact neg_eq_zero
    · exact Iff.rfl
  rw [hpos, mul_eq_zero, Nat.cast_eq_zero]
  exact ⟨fun h => h.resolve_right hunit, .inl⟩

/-- The units of a number at a lower exponent. -/
theorem unitsAt_mul {e : ℤ} (he : e ≤ x.exp) : (unitsAt x e : ℝ) * 2 ^ e = x.value := by
  obtain ⟨n, hn⟩ := Int.le.dest he
  have hshift : ((x.mant <<< (x.exp - e).toNat : ℕ) : ℝ) * 2 ^ e = x.mant * 2 ^ x.exp := by
    have hdiff : (x.exp - e).toNat = n := by omega
    rw [hdiff, Nat.shiftLeft_eq, ← hn, zpow_add₀ two_ne_zero, zpow_natCast]
    push_cast
    ring
  rw [unitsAt, Scaled.value, signed]
  split
  · show ((-(x.mant <<< (x.exp - e).toNat : ℕ) : ℤ) : ℝ) * 2 ^ e = _
    rw [Int.cast_neg, Int.cast_natCast, neg_mul, hshift]
  · exact hshift

theorem signed_natAbs (t : ℤ) (a : ℝ) : signed (decide (t < 0)) (t.natAbs * a) = t * a := by
  rw [Nat.cast_natAbs, Int.cast_abs]
  obtain ht | ht := lt_or_ge t 0
  · rw [decide_eq_true ht, abs_of_neg (Int.cast_lt_zero.2 ht), signed, if_pos rfl, neg_mul, neg_neg]
  · rw [decide_eq_false (not_lt.2 ht), abs_of_nonneg (Int.cast_nonneg ht)]
    rfl

theorem addExact_value : (addExact x y).value = x.value + y.value := by
  have hx := unitsAt_mul (min_le_left x.exp y.exp)
  have hy := unitsAt_mul (min_le_right x.exp y.exp)
  rw [← hx, ← hy, ← add_mul]
  exact_mod_cast signed_natAbs _ _

theorem mulExact_value : (mulExact x y).value = x.value * y.value := by
  rw [Scaled.value, Scaled.value, Scaled.value, signed_mul]
  show signed (x.neg ^^ y.neg) (((x.mant * y.mant : ℕ) : ℝ) * 2 ^ (x.exp + y.exp)) = _
  rw [signed_inj, zpow_add₀ two_ne_zero]
  push_cast
  ring

theorem scaledOfInt_value (i : ℤ) : (scaledOfInt i).value = i := by
  have h := signed_natAbs i 1
  rw [mul_one, mul_one] at h
  rw [← h, Scaled.value]
  show signed _ ((i.natAbs : ℝ) * 2 ^ (0 : ℤ)) = _
  rw [zpow_zero, mul_one]
  rfl

theorem natCast_div_add_part (n : ℕ) {d : ℕ} (hd : d ≠ 0) : ((n / d : ℕ) : ℝ) + (n % d : ℕ) / d = n / d := by
  have hd' : (d : ℝ) ≠ 0 := Nat.cast_ne_zero.2 hd
  have hsplit : (d : ℝ) * (n / d : ℕ) + (n % d : ℕ) = n := by exact_mod_cast Nat.div_add_mod n d
  rw [eq_div_iff hd', add_mul, div_mul_cancel₀ _ hd', mul_comm, hsplit]

/-- The quotient with its first `b` binary places. -/
def divShifted (b : ℕ) (x y : Scaled) : Scaled :=
  { neg := x.neg ^^ y.neg, mant := (x.mant <<< b) / y.mant, exp := x.exp - y.exp - b, sticky := (x.mant <<< b) % y.mant != 0 }

theorem divExact_eq (x y : Scaled) : divExact x y = divShifted 128 x y := rfl

/-- The quotient, its rest below one unit included. -/
theorem divShifted_denotes (b : ℕ) (hy : y.mant ≠ 0) : (divShifted b x y).Denotes (x.value / y.value) := by
  have hym : (0 : ℝ) < y.mant := by exact_mod_cast Nat.pos_of_ne_zero hy
  refine ⟨((x.mant <<< b) % y.mant : ℕ) / y.mant, by positivity, ?_, ?_, ?_⟩
  · rw [div_lt_one hym]
    exact_mod_cast Nat.mod_lt _ (Nat.pos_of_ne_zero hy)
  · show ((x.mant <<< b) % y.mant != 0) = true ↔ _
    rw [bne_iff_ne, ne_eq, ne_eq, div_eq_zero_iff, Nat.cast_eq_zero]
    exact not_congr ⟨.inl, fun h => h.resolve_right hym.ne'⟩
  · rw [Scaled.value, Scaled.value, signed_div]
    show _ = signed (x.neg ^^ y.neg) (((((x.mant <<< b) / y.mant : ℕ) : ℝ) + _) * 2 ^ (x.exp - y.exp - b))
    rw [signed_inj, natCast_div_add_part _ hy, Nat.shiftLeft_eq, zpow_sub₀ two_ne_zero, zpow_sub₀ two_ne_zero, zpow_natCast]
    push_cast
    field_simp

theorem divExact_denotes (hy : y.mant ≠ 0) : (divExact x y).Denotes (x.value / y.value) := by
  rw [divExact_eq]
  exact divShifted_denotes 128 hy

/-- The invariant of the digit-by-digit root. -/
theorem isqrtFrom_spec (n i r : ℕ) (hlow : r * r ≤ n) (hhigh : n < (r + 2 ^ i) * (r + 2 ^ i)) :
    isqrtFrom n i r * isqrtFrom n i r ≤ n ∧ n < (isqrtFrom n i r + 1) * (isqrtFrom n i r + 1) := by
  induction i generalizing r with
  | zero => exact ⟨hlow, hhigh⟩
  | succ i ih =>
    rw [isqrtFrom]
    split
    case isTrue h =>
      refine ih _ h ?_
      rwa [add_assoc, ← two_mul, ← pow_succ']
    case isFalse h => exact ih _ hlow (not_le.1 h)

/-- The places by which the root's operand is shifted: as many as make its exponent even. -/
def rootShift (x : Scaled) : ℕ := if x.exp % 2 = 0 then 128 else 129

theorem rootShift_even (x : Scaled) : 2 * ((x.exp - rootShift x) / 2) = x.exp - rootShift x := by
  rw [rootShift]
  split <;> omega

theorem rootShift_le (x : Scaled) : 128 ≤ rootShift x ∧ rootShift x ≤ 129 := by
  rw [rootShift]
  split <;> omega

theorem sqrtExact_eq (x : Scaled) : sqrtExact x =
    { neg := false, mant := isqrtFrom (x.mant <<< rootShift x) 100 0, exp := (x.exp - rootShift x) / 2,
      sticky := isqrtFrom (x.mant <<< rootShift x) 100 0 * isqrtFrom (x.mant <<< rootShift x) 100 0 != x.mant <<< rootShift x } := by
  rw [sqrtExact, rootShift]

theorem isqrt_shifted_spec (hm : x.mant < 2 ^ 56) {r : ℕ} (hr : r = isqrtFrom (x.mant <<< rootShift x) 100 0) :
    r * r ≤ x.mant <<< rootShift x ∧ x.mant <<< rootShift x < (r + 1) * (r + 1) := by
  subst hr
  refine isqrtFrom_spec _ _ _ (Nat.zero_le _) ?_
  rw [Nat.shiftLeft_eq]
  have hpow : 2 ^ rootShift x ≤ 2 ^ 129 := Nat.pow_le_pow_right two_pos (rootShift_le x).2
  calc x.mant * 2 ^ rootShift x < 2 ^ 56 * 2 ^ 129 := Nat.mul_lt_mul_of_lt_of_le hm hpow (by positivity)
    _ ≤ (0 + 2 ^ 100) * (0 + 2 ^ 100) := by norm_num

/-- The root of a positive number, its rest included. -/
theorem sqrtExact_denotes (hneg : x.neg = false) (hm : x.mant < 2 ^ 56) : (sqrtExact x).Denotes (Real.sqrt x.value) := by
  generalize hr : isqrtFrom (x.mant <<< rootShift x) 100 0 = r
  obtain ⟨hlow, hhigh⟩ := isqrt_shifted_spec hm hr.symm
  generalize hn : x.mant <<< rootShift x = n at hlow hhigh
  have heq := sqrtExact_eq x
  rw [hr, hn] at heq
  have hrr : (0 : ℝ) ≤ r := Nat.cast_nonneg r
  have hlow' : (r : ℝ) ≤ Real.sqrt n := Real.le_sqrt_of_sq_le (by rw [sq]; exact_mod_cast hlow)
  have hhigh' : Real.sqrt n < r + 1 := (Real.sqrt_lt' (by positivity)).2 (by rw [sq]; exact_mod_cast hhigh)
  have hvalue : x.value = n * (2 ^ ((x.exp - rootShift x) / 2)) ^ 2 := by
    rw [← zpow_natCast, ← zpow_mul, Scaled.value, hneg]
    show (x.mant : ℝ) * 2 ^ x.exp = _
    rw [← hn, Nat.shiftLeft_eq]
    have hexp : (x.exp - rootShift x) / 2 * ((2 : ℕ) : ℤ) = x.exp - rootShift x := by
      rw [mul_comm]
      exact rootShift_even x
    rw [hexp, zpow_sub₀ two_ne_zero, zpow_natCast]
    push_cast
    field_simp
  rw [heq]
  refine ⟨Real.sqrt n - r, by linarith, by linarith, ?_, ?_⟩
  · show (r * r != n) = true ↔ _
    rw [bne_iff_ne, ne_eq, ne_eq, sub_eq_zero, Real.sqrt_eq_iff_mul_self_eq (Nat.cast_nonneg n) hrr]
    exact not_congr (by exact_mod_cast eq_comm)
  · show _ = ((r : ℝ) + (Real.sqrt n - r)) * 2 ^ ((x.exp - rootShift x) / 2)
    rw [hvalue, Real.sqrt_mul (Nat.cast_nonneg n), Real.sqrt_sq (zpow_pos two_pos _).le]
    ring

end

/-! ### The length of quotients and roots -/

section
variable {x y : Scaled}

theorem divExact_mant_ge (hx : 2 ^ 52 ≤ x.mant) (hy0 : y.mant ≠ 0) (hy : y.mant < 2 ^ 53) : 2 ^ 56 ≤ (divExact x y).mant := by
  show 2 ^ 56 ≤ (x.mant <<< 128) / y.mant
  rw [Nat.shiftLeft_eq, Nat.le_div_iff_mul_le (Nat.pos_of_ne_zero hy0)]
  calc 2 ^ 56 * y.mant ≤ 2 ^ 56 * 2 ^ 53 := Nat.mul_le_mul_left _ hy.le
    _ ≤ 2 ^ 52 * 2 ^ 128 := by norm_num
    _ ≤ x.mant * 2 ^ 128 := Nat.mul_le_mul_right _ hx

theorem sqrtExact_mant_ge (hx : 2 ^ 52 ≤ x.mant) (hx' : x.mant < 2 ^ 56) : 2 ^ 56 ≤ (sqrtExact x).mant := by
  rw [sqrtExact_eq]
  generalize hr : isqrtFrom (x.mant <<< rootShift x) 100 0 = r
  obtain ⟨-, hhigh⟩ := isqrt_shifted_spec hx' hr.symm
  show 2 ^ 56 ≤ r
  by_contra hlt
  have hsmall : (r + 1) * (r + 1) ≤ 2 ^ 56 * 2 ^ 56 := Nat.mul_le_mul (by omega) (by omega)
  have hlarge : 2 ^ 52 * 2 ^ 128 ≤ x.mant <<< rootShift x := by
    rw [Nat.shiftLeft_eq]
    exact Nat.mul_le_mul hx (Nat.pow_le_pow_right two_pos (rootShift_le x).1)
  have hgap : 2 ^ 56 * 2 ^ 56 < 2 ^ 52 * 2 ^ 128 := by norm_num
  omega

end

/-! ### The fields of a register image -/

/-- The register without its sign. -/
def magnitude (v : Word) : ℕ := v.toNat % 2 ^ 63

theorem magnitude_lt (v : Word) : magnitude v < 2 ^ 63 := Nat.mod_lt _ (by positivity)

theorem expField_toNat (v : Word) : (expField v).toNat = magnitude v / 2 ^ 52 := by
  rw [expField, magnitude, BitVec.extractLsb'_toNat, Nat.shiftRight_eq_div_pow]
  omega

theorem fracField_toNat (v : Word) : (fracField v).toNat = magnitude v % 2 ^ 52 := by
  rw [fracField, magnitude, BitVec.extractLsb'_toNat, Nat.shiftRight_zero]
  omega

theorem word_eq_iff (v w : Word) : v = w ↔ v.getLsbD 63 = w.getLsbD 63 ∧ magnitude v = magnitude w := by
  refine ⟨fun h => h ▸ ⟨rfl, rfl⟩, fun ⟨hsign, hmag⟩ => BitVec.eq_of_toNat_eq ?_⟩
  have hbit : ∀ u : Word, u.getLsbD 63 = decide (u.toNat / 2 ^ 63 % 2 = 1) := fun u => by
    rw [BitVec.getLsbD, Nat.testBit_eq_decide_div_mod_eq]
  rw [hbit, hbit, decide_eq_decide] at hsign
  rw [magnitude, magnitude] at hmag
  have hv := v.isLt
  have hw := w.isLt
  omega

/-- A sign beside a magnitude. -/
theorem signed_image {v : Word} {neg : Bool} {n : ℕ} (hn : n < 2 ^ 63) (hv : v = bitAt 63 neg ||| BitVec.ofNat 64 n) :
    v.getLsbD 63 = neg ∧ magnitude v = n := by
  subst hv
  constructor
  · have hlow : (BitVec.ofNat 64 n).getLsbD 63 = false := by
      rw [BitVec.getLsbD_ofNat, Nat.testBit_lt_two_pow hn, Bool.and_false]
    rw [BitVec.getLsbD_or, getLsbD_bitAt (by norm_num), hlow, Bool.or_false, decide_eq_true rfl, Bool.true_and]
  · have hsign : (bitAt 63 neg).toNat = 2 ^ 63 * neg.toNat := by cases neg <;> rfl
    rw [magnitude, BitVec.toNat_or, hsign, BitVec.toNat_ofNat, Nat.mod_eq_of_lt (hn.trans (by norm_num)),
      ← Nat.two_pow_add_eq_or_of_lt hn, Nat.mul_add_mod, Nat.mod_eq_of_lt hn]

/-! ### Images of numbers -/

section
variable {m : FpFormat} {v : Word}

theorem fpUnpack_eq (m : FpFormat) (v : Word) : fpUnpack m v =
    { neg := v.getLsbD 63, mant := 2 ^ fpFracBits m + magnitude v % 2 ^ fpFracBits m,
      exp := (magnitude v / 2 ^ fpFracBits m : ℕ) - fpBias m - fpFracBits m, sticky := false } := rfl

theorem fpUnpack_mant_bounds (m : FpFormat) (v : Word) :
    2 ^ fpFracBits m ≤ (fpUnpack m v).mant ∧ (fpUnpack m v).mant < 2 ^ (fpFracBits m + 1) := by
  have hfrac := Nat.mod_lt (magnitude v) (show 0 < 2 ^ fpFracBits m by positivity)
  rw [fpUnpack_eq, pow_succ]
  show 2 ^ fpFracBits m ≤ 2 ^ fpFracBits m + magnitude v % 2 ^ fpFracBits m ∧
    2 ^ fpFracBits m + magnitude v % 2 ^ fpFracBits m < 2 ^ fpFracBits m * 2
  omega

theorem fpUnpack_mant_ne_zero (m : FpFormat) (v : Word) : (fpUnpack m v).mant ≠ 0 := by
  have := (fpUnpack_mant_bounds m v).1
  have : 0 < 2 ^ fpFracBits m := by positivity
  omega

theorem fpUnpack_denotes (m : FpFormat) (v : Word) : (fpUnpack m v).Denotes (fpUnpack m v).value := Scaled.denotes_value rfl

/-- The number of a T image. -/
theorem ieeeNumber_eq (h : ieeeClass v = .finite) : (ieeeNumber v : ℝ) = (fpUnpack .t v).value := by
  have hzero : ieeeClass v ≠ .zero := by rw [h]; nofun
  have hfrac : (v.extractLsb' 0 52).toNat = magnitude v % 2 ^ 52 := fracField_toNat v
  have hexp : (v.extractLsb' 52 11).toNat = magnitude v / 2 ^ 52 := expField_toNat v
  rw [ieeeNumber, if_neg hzero, Scaled.value, signed_eq_mul, fpUnpack_eq, hfrac, hexp]
  show _ = _ * (((2 ^ 52 + magnitude v % 2 ^ 52 : ℕ) : ℝ) * 2 ^ ((magnitude v / 2 ^ 52 : ℕ) - (1023 : ℤ) - (52 : ℕ)))
  rw [show ((magnitude v / 2 ^ 52 : ℕ) - (1023 : ℤ) - (52 : ℕ)) = (magnitude v / 2 ^ 52 : ℕ) - 1075 by omega]
  push_cast
  split <;> ring

/-- The number of a G image. -/
theorem vaxNumber_eq (h : v ≠ 0) : (vaxNumber v : ℝ) = (fpUnpack .g v).value := by
  have hfrac : (v.extractLsb' 0 52).toNat = magnitude v % 2 ^ 52 := fracField_toNat v
  have hexp : (v.extractLsb' 52 11).toNat = magnitude v / 2 ^ 52 := expField_toNat v
  rw [vaxNumber, if_neg h, Scaled.value, signed_eq_mul, fpUnpack_eq, hfrac, hexp]
  show _ = _ * (((2 ^ 52 + magnitude v % 2 ^ 52 : ℕ) : ℝ) * 2 ^ ((magnitude v / 2 ^ 52 : ℕ) - (1025 : ℤ) - (52 : ℕ)))
  rw [show ((magnitude v / 2 ^ 52 : ℕ) - (1025 : ℤ) - (52 : ℕ)) = (magnitude v / 2 ^ 52 : ℕ) - 1077 by omega]
  push_cast
  split <;> ring

/-- The number of a D image. -/
theorem vaxNumberD_eq (h : v ≠ 0) : (vaxNumberD v : ℝ) = (fpUnpack .d v).value := by
  have hfrac : (v.extractLsb' 0 55).toNat = magnitude v % 2 ^ 55 := by
    rw [magnitude, BitVec.extractLsb'_toNat, Nat.shiftRight_zero]
    omega
  have hexp : (v.extractLsb' 55 8).toNat = magnitude v / 2 ^ 55 := by
    rw [magnitude, BitVec.extractLsb'_toNat, Nat.shiftRight_eq_div_pow]
    omega
  rw [vaxNumberD, if_neg h, Scaled.value, signed_eq_mul, fpUnpack_eq, hfrac, hexp]
  show _ = _ * (((2 ^ 55 + magnitude v % 2 ^ 55 : ℕ) : ℝ) * 2 ^ ((magnitude v / 2 ^ 55 : ℕ) - (129 : ℤ) - (55 : ℕ)))
  rw [show ((magnitude v / 2 ^ 55 : ℕ) - (129 : ℤ) - (55 : ℕ)) = (magnitude v / 2 ^ 55 : ℕ) - 184 by omega]
  push_cast
  split <;> ring

/-! ### Packing a rounded number -/

theorem format_facts (m : FpFormat) : 2 ≤ fpPrec m ∧ fpPrec m ≤ fpFracBits m + 1 ∧ 1 ≤ fpMinExp m + fpBias m ∧
    fpMaxExp m + fpBias m + 1 ≤ 2 ^ (63 - fpFracBits m) ∧ fpFracBits m ≤ 63 := by
  cases m <;> decide

theorem fpPrec_le (m : FpFormat) : fpPrec m ≤ 56 := by
  cases m <;> decide

section
variable {r : Rounded} (hlow : 2 ^ (fpPrec m - 1) ≤ r.mant) (hhigh : r.mant < 2 ^ fpPrec m)
  (hmin : fpMinExp m ≤ r.exp + fpPrec m - 1) (hmax : r.exp + fpPrec m - 1 ≤ fpMaxExp m)
include hlow hhigh hmin hmax

/-- The fields of a packed number: sign, exponent and fraction. -/
theorem fpPack_fields : (fpPack m r).getLsbD 63 = r.neg ∧
    ((magnitude (fpPack m r) / 2 ^ fpFracBits m : ℕ) : ℤ) = r.exp + fpPrec m - 1 + fpBias m ∧
    2 ^ fpFracBits m + magnitude (fpPack m r) % 2 ^ fpFracBits m = r.mant * 2 ^ (fpFracBits m + 1 - fpPrec m) := by
  obtain ⟨hp2, hpF, hbias, hwidth, hF⟩ := format_facts m
  generalize hE : (r.exp + (fpPrec m : ℤ) - 1 + fpBias m).toNat = E
  generalize hfrac : (r.mant - 2 ^ (fpPrec m - 1)) <<< (fpFracBits m + 1 - fpPrec m) = frac
  have hpack : fpPack m r = bitAt 63 r.neg ||| BitVec.ofNat 64 (E * 2 ^ fpFracBits m + frac) := by rw [← hE, ← hfrac]; rfl
  have hsplit : 2 ^ fpFracBits m = 2 ^ (fpPrec m - 1) * 2 ^ (fpFracBits m + 1 - fpPrec m) := by
    rw [← pow_add]
    congr 1
    omega
  have hfrac' : 2 ^ fpFracBits m + frac = r.mant * 2 ^ (fpFracBits m + 1 - fpPrec m) := by
    rw [← hfrac, Nat.shiftLeft_eq, hsplit, ← Nat.add_mul, Nat.add_sub_cancel' hlow]
  have hdouble : 2 ^ fpPrec m = 2 * 2 ^ (fpPrec m - 1) := by
    rw [← pow_succ']
    congr 1
    omega
  have hlt : frac < 2 ^ fpFracBits m := by
    rw [← hfrac, Nat.shiftLeft_eq, hsplit]
    exact Nat.mul_lt_mul_of_pos_right (by omega) (by positivity)
  have hE' : E + 1 ≤ 2 ^ (63 - fpFracBits m) := by
    zify
    omega
  have htotal : E * 2 ^ fpFracBits m + frac < 2 ^ 63 := calc
    E * 2 ^ fpFracBits m + frac < (E + 1) * 2 ^ fpFracBits m := by rw [Nat.succ_mul]; omega
    _ ≤ 2 ^ (63 - fpFracBits m) * 2 ^ fpFracBits m := Nat.mul_le_mul_right _ hE'
    _ = 2 ^ 63 := by rw [← pow_add, Nat.sub_add_cancel hF]
  obtain ⟨hsign, hmag⟩ := signed_image htotal hpack
  have hpos : 0 < 2 ^ fpFracBits m := by positivity
  refine ⟨hsign, ?_, ?_⟩
  · rw [hmag, Nat.mul_comm, Nat.mul_add_div hpos, Nat.div_eq_of_lt hlt]
    omega
  · rw [hmag, Nat.mul_comm E, Nat.mul_add_mod, Nat.mod_eq_of_lt hlt, hfrac']

/-- Unpacking a packed number gives the number back. -/
theorem fpUnpack_fpPack_value : (fpUnpack m (fpPack m r)).value = r.value := by
  obtain ⟨-, hpF, -, -, -⟩ := format_facts m
  obtain ⟨hsign, hexp, hmant⟩ := fpPack_fields hlow hhigh hmin hmax
  rw [fpUnpack_eq, Scaled.value, Rounded.value]
  show signed ((fpPack m r).getLsbD 63) (((2 ^ fpFracBits m + magnitude (fpPack m r) % 2 ^ fpFracBits m : ℕ) : ℝ) *
    2 ^ ((magnitude (fpPack m r) / 2 ^ fpFracBits m : ℕ) - fpBias m - fpFracBits m)) = _
  rw [hsign, hmant, hexp, signed_inj]
  have hunits : (2 : ℝ) ^ (fpFracBits m + 1 - fpPrec m : ℕ) * 2 ^ (r.exp + fpPrec m - 1 + fpBias m - fpBias m - fpFracBits m) =
      2 ^ r.exp := by
    rw [← zpow_natCast, ← zpow_add₀ two_ne_zero]
    congr 1
    omega
  rw [Nat.cast_mul, Nat.cast_pow, Nat.cast_ofNat, mul_assoc, hunits]

end


end

end Sys2Proof.Machine
end


/-! # Settling O47: IEEE arithmetic (spec/46_fp_operate.md sections 1 to 3) -/

section

namespace Sys2Proof.Machine

/-! ### Classes of operands -/

section
variable {v : Word}

theorem ieeeClass_finite_iff : ieeeClass v = .finite ↔ 1 ≤ magnitude v / 2 ^ 52 ∧ magnitude v / 2 ^ 52 ≤ 2046 := by
  have hones : expField v = 0x7FF ↔ magnitude v / 2 ^ 52 = 2047 := by
    rw [← BitVec.toNat_inj, expField_toNat]
    rfl
  have hzero : expField v = 0 ↔ magnitude v / 2 ^ 52 = 0 := by
    rw [← BitVec.toNat_inj, expField_toNat]
    rfl
  have hlt := magnitude_lt v
  rw [ieeeClass]
  split
  case isTrue h =>
    refine iff_of_false (by split <;> nofun) ?_
    rw [hones] at h
    omega
  case isFalse h =>
    rw [hones] at h
    split
    case isTrue h0 =>
      refine iff_of_false (by split <;> nofun) ?_
      rw [hzero] at h0
      omega
    case isFalse h0 =>
      rw [hzero] at h0
      exact iff_of_true rfl (by omega)

theorem isDenormal_eq_false (h : ieeeClass v ≠ .denormal) : isDenormal v = false := beq_eq_false_iff_ne.2 h

theorem isNaN_eq_false (h : ∀ b, ieeeClass v ≠ .nan b) : isNaN v = false := by
  rw [isNaN]
  split
  next b hb => exact absurd hb (h b)
  next => rfl

theorem flushDenormal_id (h : isDenormal v = false) : flushDenormal v = v := by
  rw [flushDenormal, h, if_neg Bool.false_ne_true]

end

section
variable {m : FpFormat} {c : IeeeCtx} {a b : Word}

/-- Operands that are no NaN and no denormal pass the screen as they are. -/
theorem screenTwo_ordinary (hda : isDenormal a = false) (hdb : isDenormal b = false) (hna : isNaN a = false) (hnb : isNaN b = false)
    (k : Word → Word → FpResult) : screenTwo c m a b k = k a b := by
  rw [screenTwo, flushDenormal_id hda, flushDenormal_id hdb, hda, hdb, hna, hnb]
  rfl

theorem screenOne_ordinary (hd : isDenormal a = false) (hn : isNaN a = false) (k : Word → FpResult) : screenOne c m a k = k a := by
  rw [screenOne, flushDenormal_id hd, hd, hn]
  rfl

theorem finite_ordinary (h : ieeeClass a = .finite) : isDenormal a = false ∧ isNaN a = false :=
  ⟨isDenormal_eq_false (by rw [h]; nofun), isNaN_eq_false (by rw [h]; nofun)⟩

theorem screenTwo_finite (ha : ieeeClass a = .finite) (hb : ieeeClass b = .finite) (k : Word → Word → FpResult) :
    screenTwo c m a b k = k a b :=
  screenTwo_ordinary (finite_ordinary ha).1 (finite_ordinary hb).1 (finite_ordinary ha).2 (finite_ordinary hb).2 k

theorem screenOne_finite (ha : ieeeClass a = .finite) (k : Word → FpResult) : screenOne c m a k = k a :=
  screenOne_ordinary (finite_ordinary ha).1 (finite_ordinary ha).2 k

theorem checkS_ok {ok : Bool} (h : m = .s → ok = true) (r : FpResult) : checkS m ok r = r := by
  cases m with
  | s => rw [h rfl]; rfl
  | _ => rfl

end

/-! ### The delivered number -/

/-- A packed number is a finite image, and in S format an S image. -/
theorem fpPack_image {m : FpFormat} {r : Rounded} (hm : m = .s ∨ m = .t) (hlow : 2 ^ (fpPrec m - 1) ≤ r.mant)
    (hhigh : r.mant < 2 ^ fpPrec m) (hmin : fpMinExp m ≤ r.exp + fpPrec m - 1) (hmax : r.exp + fpPrec m - 1 ≤ fpMaxExp m) :
    ieeeClass (fpPack m r) = .finite ∧ (m = .s → isSImage (fpPack m r) = true) := by
  obtain ⟨-, hexp, hmant⟩ := fpPack_fields hlow hhigh hmin hmax
  obtain rfl | rfl := hm
  · have hrange : 897 ≤ magnitude (fpPack .s r) / 2 ^ 52 ∧ magnitude (fpPack .s r) / 2 ^ 52 ≤ 1150 := by
      simp only [fpMinExp, fpMaxExp, fpPrec, fpFracBits, fpBias] at hexp hmin hmax
      omega
    have hfrac : 2 ^ 52 + magnitude (fpPack .s r) % 2 ^ 52 = r.mant * 2 ^ 29 := hmant
    refine ⟨ieeeClass_finite_iff.2 (by omega), fun _ => ?_⟩
    have hzeros : (fpPack .s r).extractLsb' 0 29 = 0#29 := by
      apply BitVec.eq_of_toNat_eq
      rw [BitVec.extractLsb'_toNat, Nat.shiftRight_zero]
      rw [magnitude] at hfrac
      show _ = 0
      omega
    rw [isSImage, hzeros, expField_toNat, decide_eq_true hrange.1, decide_eq_true hrange.2]
    simp
  · have hrange : 1 ≤ magnitude (fpPack .t r) / 2 ^ 52 ∧ magnitude (fpPack .t r) / 2 ^ 52 ≤ 2046 := by
      simp only [fpMinExp, fpMaxExp, fpPrec, fpFracBits, fpBias] at hexp hmin hmax
      omega
    exact ⟨ieeeClass_finite_iff.2 hrange, nofun⟩

/-- S images have the fields of T images. -/
theorem fpUnpack_ieee {m : FpFormat} (hm : m = .s ∨ m = .t) (v : Word) : fpUnpack m v = fpUnpack .t v := by
  obtain rfl | rfl := hm <;> rfl

/-- The sign of the number that a nonzero magnitude stands for. -/
theorem Scaled.Denotes.lt_zero_iff {x : Scaled} {v : ℝ} (h : x.Denotes v) (hne : x.mant ≠ 0) : v < 0 ↔ x.neg = true := by
  obtain ⟨δ, h0, -, -, rfl⟩ := h
  have hmant : (0 : ℝ) < x.mant := by exact_mod_cast Nat.pos_of_ne_zero hne
  exact signed_neg_iff _ (mul_pos (by linarith) (zpow_pos two_pos _))

theorem Scaled.Denotes.ne_zero {x : Scaled} {v : ℝ} (h : x.Denotes v) (hne : x.mant ≠ 0) : v ≠ 0 := by
  obtain ⟨δ, h0, -, -, rfl⟩ := h
  have hmant : (0 : ℝ) < x.mant := by exact_mod_cast Nat.pos_of_ne_zero hne
  have hpos : (0 : ℝ) < (x.mant + δ) * 2 ^ x.exp := mul_pos (by linarith) (zpow_pos two_pos _)
  rw [← abs_pos, abs_signed _ hpos.le]
  exact hpos

/-- R607 (a), (b) of a number whose rest, if it has one, lies below the bits of every format. -/
theorem ieeeDeliver_delivers {m : FpFormat} {c : IeeeCtx} {x : Scaled} {v : ℝ} (hm : m = .s ∨ m = .t) (hc : c.mode ≠ .nearestAway)
    (hne : x.mant ≠ 0) (hs : x.sticky = true → 56 < bitLength x.mant) (hv : x.Denotes v) :
    DeliversIeee m c.mode v (ieeeDeliver c m x) := by
  obtain ⟨hp2, -, -, -, -⟩ := format_facts m
  have hs' : x.sticky = true → fpPrec m < bitLength x.mant := fun h => (fpPrec_le m).trans_lt (hs h)
  have hlow := (roundTo_normal (m := c.mode) hs' hv hne (by omega)).1
  have hhigh := (roundTo_normal (m := c.mode) hs' hv hne (by omega)).2
  have hrounds := roundTo_roundsTo (m := c.mode) hs' hv hne hp2
  have hinexact := roundTo_inexact_iff (m := c.mode) hs' hv (by omega)
  have hneg : (roundTo (fpPrec m) c.mode x).neg = x.neg := roundTo_neg
  have hsign : decide (v < 0) = x.neg := by
    rw [Bool.eq_iff_iff, decide_eq_true_iff, hv.lt_zero_iff hne]
  have hpos : 0 < v ↔ x.neg = false := by
    rw [← Bool.not_eq_true, ← hv.lt_zero_iff hne, not_lt]
    exact ⟨le_of_lt, fun h => h.lt_of_ne' (hv.ne_zero hne)⟩
  rw [ieeeDeliver]
  generalize roundTo (fpPrec m) c.mode x = r at hlow hhigh hrounds hinexact hneg
  refine ⟨r.value, hrounds, ?_⟩
  have hover := r.value_ge_iff (by omega) hlow hhigh (fpMaxExp m)
  have hunder := r.value_lt_iff (by omega) hlow hhigh (fpMinExp m)
  by_cases hbig : fpMaxExp m < r.exp + fpPrec m - 1
  · rw [if_pos hbig, if_pos (hover.2 hbig), hsign, hneg]
    refine ⟨rfl, congrArg some ?_⟩
    simp only [hpos, hv.lt_zero_iff hne]
    cases hmode : c.mode with
    | nearestAway => exact absurd hmode hc
    | chopped | nearestEven => simp
    | minus | plus => cases x.neg <;> simp
  · rw [if_neg hbig, if_neg (mt hover.1 hbig)]
    by_cases hsmall : r.exp + fpPrec m - 1 < fpMinExp m
    · rw [if_pos hsmall, if_pos (hunder.2 hsmall)]
    · rw [if_neg hsmall, if_neg (mt hunder.1 hsmall)]
      obtain ⟨hfinite, himage⟩ := fpPack_image hm hlow hhigh (not_lt.1 hsmall) (not_lt.1 hbig)
      refine ⟨fpPack m r, r.inexact, rfl, hinexact, hfinite, ?_, himage⟩
      rw [ieeeNumber_eq hfinite, ← fpUnpack_ieee hm, fpUnpack_fpPack_value hlow hhigh (not_lt.1 hsmall) (not_lt.1 hbig)]

/-! ### The operand with its sign inverted -/

section
variable (v : Word)

theorem sign_negated : (negated v).getLsbD 63 = !v.getLsbD 63 := by
  rw [negated, BitVec.getLsbD_xor, show (0x8000000000000000 : Word).getLsbD 63 = true from rfl, Bool.xor_true]

theorem magnitude_negated : magnitude (negated v) = magnitude v := by
  rw [magnitude, negated, BitVec.toNat_xor, Nat.xor_mod_two_pow]
  exact Nat.xor_zero _

theorem ieeeClass_negated_finite : ieeeClass (negated v) = .finite ↔ ieeeClass v = .finite := by
  rw [ieeeClass_finite_iff, ieeeClass_finite_iff, magnitude_negated]

theorem fpUnpack_negated (m : FpFormat) : fpUnpack m (negated v) = { fpUnpack m v with neg := !(fpUnpack m v).neg } := by
  rw [fpUnpack_eq, fpUnpack_eq, sign_negated, magnitude_negated]

theorem fpUnpack_negated_value (m : FpFormat) : (fpUnpack m (negated v)).value = -(fpUnpack m v).value := by
  rw [fpUnpack_negated, Scaled.value, Scaled.value, signed_not]

end

/-! ### The operations on finite operands -/

section
variable {m : FpFormat} {c : IeeeCtx} {a b : Word} (hm : m = .s ∨ m = .t) (hc : c.mode ≠ .nearestAway)
include hm hc

/-- An exact nonzero number without a rest is delivered rounded. -/
theorem ieeeDeliver_exact {x : Scaled} (hsticky : x.sticky = false) (hne : x.value ≠ 0) :
    DeliversIeee m c.mode x.value (ieeeDeliver c m x) :=
  ieeeDeliver_delivers hm hc (mt Scaled.value_eq_zero_iff.2 hne) (fun h => absurd (hsticky.symm.trans h) Bool.false_ne_true)
    (Scaled.denotes_value hsticky)

theorem ieeeSum_finite (ha : ieeeClass a = .finite) (hb : ieeeClass b = .finite) {v : ℝ}
    (hv : v = (fpUnpack .t a).value + (fpUnpack .t b).value) :
    (v = 0 → ieeeSum c m a b = plainResult (signedZero (c.mode == .minus))) ∧ (v ≠ 0 → DeliversIeee m c.mode v (ieeeSum c m a b)) := by
  rw [← addExact_value] at hv
  subst hv
  have hsum : ieeeSum c m a b =
      if (addExact (fpUnpack .t a) (fpUnpack .t b)).mant = 0 then plainResult (signedZero (c.mode == .minus))
      else ieeeDeliver c m (addExact (fpUnpack .t a) (fpUnpack .t b)) := by
    rw [ieeeSum, ha, hb]
  rw [hsum]
  refine ⟨fun hzero => if_pos (Scaled.value_eq_zero_iff.1 hzero), fun hne => ?_⟩
  rw [if_neg (mt Scaled.value_eq_zero_iff.2 hne)]
  exact ieeeDeliver_exact hm hc rfl hne

section
variable (ha : ieeeClass a = .finite) (hb : ieeeClass b = .finite) (hs : m = .s → (isSImage a && isSImage b) = true)
include ha hb hs

theorem ieeeAdd_finite {v : ℝ} (hv : v = ieeeNumber a + ieeeNumber b) :
    (v = 0 → ieeeAdd m c a b = plainResult (signedZero (c.mode == .minus))) ∧ (v ≠ 0 → DeliversIeee m c.mode v (ieeeAdd m c a b)) := by
  rw [ieeeNumber_eq ha, ieeeNumber_eq hb] at hv
  rw [ieeeAdd, checkS_ok hs, screenTwo_finite ha hb]
  exact ieeeSum_finite hm hc ha hb hv

theorem ieeeSub_finite {v : ℝ} (hv : v = ieeeNumber a - ieeeNumber b) :
    (v = 0 → ieeeSub m c a b = plainResult (signedZero (c.mode == .minus))) ∧ (v ≠ 0 → DeliversIeee m c.mode v (ieeeSub m c a b)) := by
  rw [ieeeNumber_eq ha, ieeeNumber_eq hb, sub_eq_add_neg, ← fpUnpack_negated_value] at hv
  rw [ieeeSub, checkS_ok hs, screenTwo_finite ha hb]
  exact ieeeSum_finite hm hc ha ((ieeeClass_negated_finite b).2 hb) hv

theorem ieeeMul_finite {v : ℝ} (hv : v = ieeeNumber a * ieeeNumber b) :
    v ≠ 0 ∧ DeliversIeee m c.mode v (ieeeMul m c a b) := by
  have hmant : (mulExact (fpUnpack .t a) (fpUnpack .t b)).mant ≠ 0 :=
    Nat.mul_ne_zero (fpUnpack_mant_ne_zero _ _) (fpUnpack_mant_ne_zero _ _)
  rw [ieeeNumber_eq ha, ieeeNumber_eq hb, ← mulExact_value] at hv
  subst hv
  have hne := mt Scaled.value_eq_zero_iff.1 hmant
  rw [ieeeMul, checkS_ok hs, screenTwo_finite ha hb, ha, hb]
  exact ⟨hne, ieeeDeliver_exact hm hc rfl hne⟩

theorem ieeeDiv_finite {v : ℝ} (hv : v = ieeeNumber a / ieeeNumber b) :
    v ≠ 0 ∧ DeliversIeee m c.mode v (ieeeDiv m c a b) := by
  have hlong := divExact_mant_ge (fpUnpack_mant_bounds .t a).1 (fpUnpack_mant_ne_zero .t b) (fpUnpack_mant_bounds .t b).2
  have hmant : (divExact (fpUnpack .t a) (fpUnpack .t b)).mant ≠ 0 := by
    intro h
    rw [h] at hlong
    norm_num at hlong
  have hdenotes : (divExact (fpUnpack .t a) (fpUnpack .t b)).Denotes v := by
    rw [hv, ieeeNumber_eq ha, ieeeNumber_eq hb]
    exact divExact_denotes (fpUnpack_mant_ne_zero .t b)
  rw [ieeeDiv, checkS_ok hs, screenTwo_finite ha hb, ha, hb]
  exact ⟨hdenotes.ne_zero hmant, ieeeDeliver_delivers hm hc hmant (fun _ => lt_bitLength hlong) hdenotes⟩

end

theorem ieeeSqrt_finite (ha : ieeeClass a = .finite) (hs : m = .s → isSImage a = true) (hsign : a.getLsbD 63 = false) :
    DeliversIeee m c.mode (Real.sqrt (ieeeNumber a)) (ieeeSqrt m c a) := by
  have hbound : (fpUnpack .t a).mant < 2 ^ 56 := (fpUnpack_mant_bounds .t a).2.trans (by decide)
  have hlong := sqrtExact_mant_ge (fpUnpack_mant_bounds .t a).1 hbound
  have hmant : (sqrtExact (fpUnpack .t a)).mant ≠ 0 := by
    intro h
    rw [h] at hlong
    norm_num at hlong
  have hpositive : fpSign a = false := hsign
  rw [ieeeNumber_eq ha, ieeeSqrt, checkS_ok hs, screenOne_finite ha, ha, hpositive]
  exact ieeeDeliver_delivers hm hc hmant (fun _ => lt_bitLength hlong) (sqrtExact_denotes hsign hbound)

end

/-- Settles O47. -/
theorem ieeeArithmeticIsCorrectlyRounded : Obligations.IeeeArithmeticIsCorrectlyRounded := by
  unfold Obligations.IeeeArithmeticIsCorrectlyRounded
  intro m c a b hm hc ha
  have hnumber : (fpUnpack .t a).value ≠ 0 := mt Scaled.value_eq_zero_iff.1 (fpUnpack_mant_ne_zero _ _)
  refine ⟨fun hsa => ⟨fun hb hsb p hp => ?two, ieeeSqrt_finite hm hc ha hsa⟩, ?toS, fun hs => ?toT, if_pos rfl, fun hb => ?ofInt⟩
  case two =>
    have hs : m = .s → (isSImage a && isSImage b) = true := fun h => by rw [hsa h, hsb h, Bool.and_self]
    simp only [List.mem_cons, List.not_mem_nil, or_false] at hp
    obtain rfl | rfl | rfl | rfl := hp
    · exact ieeeAdd_finite hm hc ha hb hs rfl
    · exact ieeeSub_finite hm hc ha hb hs rfl
    · obtain ⟨hne, hdelivers⟩ := ieeeMul_finite hm hc ha hb hs rfl
      exact ⟨fun h => absurd h hne, fun _ => hdelivers⟩
    · obtain ⟨hne, hdelivers⟩ := ieeeDiv_finite hm hc ha hb hs rfl
      exact ⟨fun h => absurd h hne, fun _ => hdelivers⟩
  case toS =>
    rw [ieeeToS, screenOne_finite ha, ha, ieeeNumber_eq ha]
    exact ieeeDeliver_exact (.inl rfl) hc rfl hnumber
  case toT =>
    rw [ieeeToT, checkS_ok fun _ => hs, screenOne_finite ha]
  case ofInt =>
    have hint : (b.toInt : ℝ) ≠ 0 := Int.cast_ne_zero.2 fun h => hb (BitVec.toInt_inj.1 (h.trans BitVec.toInt_zero.symm))
    rw [ieeeOfInt, if_neg hb]
    rw [← scaledOfInt_value] at hint ⊢
    exact ieeeDeliver_exact hm hc rfl hint

end Sys2Proof.Machine
end


/-! # Settling O48: VAX arithmetic (spec/46_fp_operate.md sections 1, 3 and 4) -/

section

namespace Sys2Proof.Machine

/-! ### Operands -/

section
variable {m : FpFormat} {a b : Word}

theorem vaxTwo_usable (ha : vaxClass .g a ≠ .bad) (hb : vaxClass .g b ≠ .bad) (k : Scaled → Scaled → FpResult) :
    vaxTwo a b k = k (vaxValue .g a) (vaxValue .g b) := if_neg (not_or.2 ⟨ha, hb⟩)

theorem vaxTwo_bad (h : vaxClass .g a = .bad ∨ vaxClass .g b = .bad) (k : Scaled → Scaled → FpResult) : vaxTwo a b k = vaxInvalid :=
  if_pos h

theorem vaxOne_usable (ha : vaxClass m a ≠ .bad) (k : Scaled → FpResult) : vaxOne m a k = k (vaxValue m a) := if_neg ha

theorem vaxOne_bad (ha : vaxClass m a = .bad) (k : Scaled → FpResult) : vaxOne m a k = vaxInvalid := if_pos ha

theorem vaxValue_zero (m : FpFormat) : vaxValue m 0 = { neg := false, mant := 0, exp := 0, sticky := false } := if_pos rfl

theorem vaxValue_number (h : a ≠ 0) : vaxValue m a = fpUnpack m a := if_neg h

theorem vaxValue_sticky (m : FpFormat) (a : Word) : (vaxValue m a).sticky = false := by
  by_cases h : a = 0
  · rw [h, vaxValue_zero]
  · rw [vaxValue_number h, fpUnpack_eq]

theorem vaxValue_mant_eq_zero : (vaxValue m a).mant = 0 ↔ a = 0 := by
  by_cases h : a = 0
  · rw [h, vaxValue_zero]
    exact iff_of_true rfl rfl
  · rw [vaxValue_number h]
    exact iff_of_false (fpUnpack_mant_ne_zero m a) h

theorem vaxValue_zero_value (m : FpFormat) : (vaxValue m 0).value = 0 := Scaled.value_eq_zero_iff.2 (vaxValue_mant_eq_zero.2 rfl)

theorem vaxNumber_value (a : Word) : (vaxNumber a : ℝ) = (vaxValue .g a).value := by
  by_cases h : a = 0
  · rw [h, vaxValue_zero_value, vaxNumber, if_pos rfl, Rat.cast_zero]
  · rw [vaxNumber_eq h, vaxValue_number h]

theorem vaxNumberD_value (a : Word) : (vaxNumberD a : ℝ) = (vaxValue .d a).value := by
  by_cases h : a = 0
  · rw [h, vaxValue_zero_value, vaxNumberD, if_pos rfl, Rat.cast_zero]
  · rw [vaxNumberD_eq h, vaxValue_number h]

end

/-! ### The delivered number -/

/-- The image of a number is no true zero. -/
theorem fpPack_ne_zero {m : FpFormat} {r : Rounded} (hlow : 2 ^ (fpPrec m - 1) ≤ r.mant) (hhigh : r.mant < 2 ^ fpPrec m)
    (hmin : fpMinExp m ≤ r.exp + fpPrec m - 1) (hmax : r.exp + fpPrec m - 1 ≤ fpMaxExp m) : fpPack m r ≠ 0 := by
  obtain ⟨-, -, hbias, -, -⟩ := format_facts m
  obtain ⟨-, hexp, -⟩ := fpPack_fields hlow hhigh hmin hmax
  intro h
  have hzero : magnitude (fpPack m r) / 2 ^ fpFracBits m = 0 := by
    rw [h, show magnitude 0 = 0 from rfl, Nat.zero_div]
  rw [hzero] at hexp
  omega

/-- The number of an image in a VAX layout. -/
theorem vaxImage_eq {m : FpFormat} (hm : m = .f ∨ m = .g ∨ m = .d) {v : Word} (h : v ≠ 0) :
    ((if m = .d then vaxNumberD v else vaxNumber v : ℚ) : ℝ) = (fpUnpack m v).value := by
  obtain rfl | rfl | rfl := hm
  · exact vaxNumber_eq h
  · exact vaxNumber_eq h
  · exact vaxNumberD_eq h

/-- R609 of a number whose rest, if it has one, lies below the bits of every format. -/
theorem vaxDeliver_delivers {m : FpFormat} {mode : Rounding} {x : Scaled} {v : ℝ} (hm : m = .f ∨ m = .g ∨ m = .d) (hne : x.mant ≠ 0)
    (hs : x.sticky = true → 56 < bitLength x.mant) (hv : x.Denotes v) : DeliversVax m mode v (vaxDeliver mode m x) := by
  obtain ⟨hp2, -, -, -, -⟩ := format_facts m
  have hs' : x.sticky = true → fpPrec m < bitLength x.mant := fun h => (fpPrec_le m).trans_lt (hs h)
  have hlow := (roundTo_normal (m := mode) hs' hv hne (by omega)).1
  have hhigh := (roundTo_normal (m := mode) hs' hv hne (by omega)).2
  have hrounds := roundTo_roundsTo (m := mode) hs' hv hne hp2
  rw [vaxDeliver, if_neg hne]
  generalize roundTo (fpPrec m) mode x = r at hlow hhigh hrounds
  refine ⟨r.value, hrounds, ?_⟩
  have hover := r.value_ge_iff (by omega) hlow hhigh (fpMaxExp m)
  have hunder := r.value_lt_iff (by omega) hlow hhigh (fpMinExp m)
  by_cases hbig : fpMaxExp m < r.exp + fpPrec m - 1
  · rw [if_pos hbig, if_pos (hover.2 hbig)]
  · rw [if_neg hbig, if_neg (mt hover.1 hbig)]
    by_cases hsmall : r.exp + fpPrec m - 1 < fpMinExp m
    · rw [if_pos hsmall, if_pos (hunder.2 hsmall)]
    · rw [if_neg hsmall, if_neg (mt hunder.1 hsmall)]
      have hnonzero := fpPack_ne_zero hlow hhigh (not_lt.1 hsmall) (not_lt.1 hbig)
      refine ⟨fpPack m r, rfl, hnonzero, ?_⟩
      rw [vaxImage_eq hm hnonzero, fpUnpack_fpPack_value hlow hhigh (not_lt.1 hsmall) (not_lt.1 hbig)]

section
variable {m : FpFormat} {r : Rounding} {a b : Word}

theorem vaxDeliver_zero {x : Scaled} (h : x.value = 0) : vaxDeliver r m x = plainResult 0 := if_pos (Scaled.value_eq_zero_iff.1 h)

section
variable (hm : m = .f ∨ m = .g ∨ m = .d)
include hm

/-- An exact number without a rest. -/
theorem vaxDeliver_exact {x : Scaled} (hsticky : x.sticky = false) :
    (x.value = 0 → vaxDeliver r m x = plainResult 0) ∧ (x.value ≠ 0 → DeliversVax m r x.value (vaxDeliver r m x)) :=
  ⟨vaxDeliver_zero, fun hne => vaxDeliver_delivers hm (mt Scaled.value_eq_zero_iff.2 hne)
    (fun h => absurd (hsticky.symm.trans h) Bool.false_ne_true) (Scaled.denotes_value hsticky)⟩

/-! ### The operations on usable operands -/

section
variable (ha : vaxClass .g a ≠ .bad) (hb : vaxClass .g b ≠ .bad)
include ha hb

theorem vaxAdd_usable {v : ℝ} (hv : v = vaxNumber a + vaxNumber b) :
    (v = 0 → vaxAdd m r a b = plainResult 0) ∧ (v ≠ 0 → DeliversVax m r v (vaxAdd m r a b)) := by
  rw [vaxNumber_value, vaxNumber_value, ← addExact_value] at hv
  rw [vaxAdd, vaxTwo_usable ha hb, hv]
  exact vaxDeliver_exact hm rfl

theorem vaxSub_usable {v : ℝ} (hv : v = vaxNumber a - vaxNumber b) :
    (v = 0 → vaxSub m r a b = plainResult 0) ∧ (v ≠ 0 → DeliversVax m r v (vaxSub m r a b)) := by
  have hneg : -(vaxValue .g b).value = ({ vaxValue .g b with neg := !(vaxValue .g b).neg } : Scaled).value := (signed_not _ _).symm
  rw [vaxNumber_value, vaxNumber_value, sub_eq_add_neg, hneg, ← addExact_value] at hv
  rw [vaxSub, vaxTwo_usable ha hb, hv]
  exact vaxDeliver_exact hm rfl

theorem vaxMul_usable {v : ℝ} (hv : v = vaxNumber a * vaxNumber b) :
    (v = 0 → vaxMul m r a b = plainResult 0) ∧ (v ≠ 0 → DeliversVax m r v (vaxMul m r a b)) := by
  rw [vaxNumber_value, vaxNumber_value, ← mulExact_value] at hv
  rw [vaxMul, vaxTwo_usable ha hb, hv]
  exact vaxDeliver_exact hm rfl

theorem vaxDiv_usable : (b = 0 → vaxDiv m r a b = { value := none, conds := { noConds with dze := true } }) ∧
    (b ≠ 0 → a = 0 → vaxDiv m r a b = plainResult 0) ∧
    (b ≠ 0 → a ≠ 0 → DeliversVax m r (vaxNumber a / vaxNumber b) (vaxDiv m r a b)) := by
  rw [vaxDiv, vaxTwo_usable ha hb]
  refine ⟨fun hb0 => if_pos (vaxValue_mant_eq_zero.2 hb0), fun hb0 ha0 => ?_, fun hb0 ha0 => ?_⟩
  · rw [if_neg (mt vaxValue_mant_eq_zero.1 hb0), if_pos (vaxValue_mant_eq_zero.2 ha0)]
  · rw [if_neg (mt vaxValue_mant_eq_zero.1 hb0), if_neg (mt vaxValue_mant_eq_zero.1 ha0), vaxNumber_value, vaxNumber_value,
      vaxValue_number ha0, vaxValue_number hb0]
    have hlong := divExact_mant_ge (fpUnpack_mant_bounds .g a).1 (fpUnpack_mant_ne_zero .g b) (fpUnpack_mant_bounds .g b).2
    have hmant : (divExact (fpUnpack .g a) (fpUnpack .g b)).mant ≠ 0 := by
      intro h
      rw [h] at hlong
      norm_num at hlong
    exact vaxDeliver_delivers hm hmant (fun _ => lt_bitLength hlong) (divExact_denotes (fpUnpack_mant_ne_zero .g b))

end

theorem vaxSqrt_usable (ha : vaxClass .g a ≠ .bad) : (a = 0 → vaxSqrt m r a = plainResult 0) ∧
    (a ≠ 0 → a.getLsbD 63 = true → vaxSqrt m r a = vaxInvalid) ∧
    (a ≠ 0 → a.getLsbD 63 = false → DeliversVax m r (Real.sqrt (vaxNumber a)) (vaxSqrt m r a)) := by
  rw [vaxSqrt, vaxOne_usable ha]
  refine ⟨fun h0 => if_pos (vaxValue_mant_eq_zero.2 h0), fun h0 hsign => ?_, fun h0 hsign => ?_⟩
  · rw [if_neg (mt vaxValue_mant_eq_zero.1 h0), vaxValue_number h0]
    exact if_pos hsign
  · rw [if_neg (mt vaxValue_mant_eq_zero.1 h0), vaxNumber_value, vaxValue_number h0]
    have hpositive : (fpUnpack .g a).neg = false := hsign
    have hbound : (fpUnpack .g a).mant < 2 ^ 56 := (fpUnpack_mant_bounds .g a).2.trans (by decide)
    have hlong := sqrtExact_mant_ge (fpUnpack_mant_bounds .g a).1 hbound
    have hmant : (sqrtExact (fpUnpack .g a)).mant ≠ 0 := by
      intro h
      rw [h] at hlong
      norm_num at hlong
    rw [hpositive, if_neg Bool.false_ne_true]
    exact vaxDeliver_delivers hm hmant (fun _ => lt_bitLength hlong) (sqrtExact_denotes hpositive hbound)

/-- A conversion between VAX formats. -/
theorem vaxConvert_usable {src : FpFormat} (ha : vaxClass src a ≠ .bad) :
    (a = 0 → vaxConvert src m r a = plainResult 0) ∧
    (a ≠ 0 → DeliversVax m r (vaxValue src a).value (vaxConvert src m r a)) := by
  rw [vaxConvert, vaxOne_usable ha]
  obtain ⟨hzero, hdelivers⟩ := vaxDeliver_exact (r := r) hm (vaxValue_sticky src a)
  refine ⟨fun h0 => hzero (Scaled.value_eq_zero_iff.2 (vaxValue_mant_eq_zero.2 h0)), fun h0 => hdelivers ?_⟩
  rwa [ne_eq, Scaled.value_eq_zero_iff, vaxValue_mant_eq_zero]

theorem vaxOfInt_delivers : (a = 0 → vaxOfInt m r a = plainResult 0) ∧ (a ≠ 0 → DeliversVax m r (a.toInt : ℝ) (vaxOfInt m r a)) := by
  obtain ⟨hzero, hdelivers⟩ := vaxDeliver_exact (r := r) (x := scaledOfInt a.toInt) hm rfl
  rw [scaledOfInt_value] at hzero hdelivers
  refine ⟨fun h0 => hzero (by rw [h0, show (0 : Word).toInt = 0 from rfl, Int.cast_zero]),
    fun h0 => hdelivers (Int.cast_ne_zero.2 fun h => h0 ?_)⟩
  exact BitVec.toInt_inj.1 (h.trans BitVec.toInt_zero.symm)

end
end

/-- Settles O48. -/
theorem vaxArithmeticIsCorrectlyRounded : Obligations.VaxArithmeticIsCorrectlyRounded := by
  unfold Obligations.VaxArithmeticIsCorrectlyRounded
  intro m r a b hfg _
  have hm : m = .f ∨ m = .g ∨ m = .d := hfg.imp_right .inl
  obtain ⟨hint0, hint⟩ := vaxOfInt_delivers (r := r) (a := a) hm
  refine ⟨fun ha hb => ⟨fun p hp => ?two, vaxDiv_usable hm ha hb⟩, fun ha => ?one, fun ha => ?fromD, hint0, hint, fun hbad f hf => ?bad2,
    fun hbad f hf => ?bad1, fun hbad => vaxOne_bad hbad _⟩
  case two =>
    simp only [List.mem_cons, List.not_mem_nil, or_false] at hp
    obtain rfl | rfl | rfl := hp
    · exact vaxAdd_usable hm ha hb rfl
    · exact vaxSub_usable hm ha hb rfl
    · exact vaxMul_usable hm ha hb rfl
  case one =>
    obtain ⟨hsqrt0, hsqrtNeg, hsqrt⟩ := vaxSqrt_usable (r := r) hm ha
    obtain ⟨hf0, hf⟩ := vaxConvert_usable (m := .f) (r := r) (.inl rfl) ha
    obtain ⟨hd0, hd⟩ := vaxConvert_usable (m := .d) (r := r) (.inr (.inr rfl)) ha
    rw [← vaxNumber_value] at hf hd
    exact ⟨fun h0 => ⟨hsqrt0 h0, hf0 h0, hd0 h0⟩, hsqrtNeg, hsqrt, fun h0 => ⟨hf h0, hd h0⟩⟩
  case fromD =>
    have h := vaxConvert_usable (m := .g) (r := r) (.inr (.inl rfl)) ha
    rwa [← vaxNumberD_value] at h
  case bad2 =>
    simp only [List.mem_cons, List.not_mem_nil, or_false] at hf
    obtain rfl | rfl | rfl | rfl := hf <;> exact vaxTwo_bad hbad _
  case bad1 =>
    simp only [List.mem_cons, List.not_mem_nil, or_false] at hf
    obtain rfl | rfl | rfl | rfl := hf <;> exact vaxOne_bad hbad _

end Sys2Proof.Machine
end


/-! # Settling O49: compares and conversions to integers (spec/46_fp_operate.md sections 1, 2 and 4) -/

section

namespace Sys2Proof.Machine

/-! ### Rounding to an integer -/

theorem RoundsToInt.neg {m : Rounding} {x : ℝ} {i : ℤ} (h : RoundsToInt m x i) : RoundsToInt m.mirror (-x) (-i) := by
  have habs : |-x - ((-i : ℤ) : ℝ)| = |x - i| := by
    rw [Int.cast_neg, ← neg_add', abs_neg, sub_eq_add_neg]
  cases m with
  | chopped =>
    obtain ⟨hsign, hle, hlt⟩ := h
    refine ⟨?_, ?_, ?_⟩
    · rwa [Int.cast_neg, neg_mul_neg]
    · rwa [Int.cast_neg, abs_neg, abs_neg]
    · rwa [Int.cast_neg, abs_neg, abs_neg]
  | minus =>
    have hi : i = ⌊x⌋ := h
    show -i = ⌈-x⌉
    rw [Int.ceil_neg, hi]
  | plus =>
    have hi : i = ⌈x⌉ := h
    show -i = ⌊-x⌋
    rw [Int.floor_neg, hi]
  | nearestEven =>
    obtain ⟨hnear, htie⟩ := h
    exact ⟨habs.trans_le hnear, fun h => (htie (habs.symm.trans h)).neg⟩
  | nearestAway =>
    obtain ⟨hnear, htie⟩ := h
    refine ⟨habs.trans_le hnear, fun h => ?_⟩
    rw [Int.cast_neg, abs_neg, abs_neg]
    exact htie (habs.symm.trans h)

theorem RoundsToInt.signed {m : Rounding} {a : ℝ} {i : ℤ} {neg : Bool} (h : RoundsToInt (m.seen neg) a i) :
    RoundsToInt m (signed neg a) (if neg then -i else i) := by
  cases neg with
  | true => exact m.mirror_mirror ▸ h.neg
  | false => exact h

/-- A positive number of `q` units and a part `f`, rounded to an integer. -/
theorem roundsToInt_units {q q' : ℕ} {f : ℝ} (hf0 : 0 ≤ f) (hf1 : f < 1) (m : Rounding) (hup : m.Upward q f → q' = q + 1)
    (hdown : ¬m.Upward q f → q' = q) : RoundsToInt m (q + f) q' := by
  have hq : (0 : ℝ) ≤ q := Nat.cast_nonneg q
  have hlow : |(q : ℝ) + f - ((q : ℤ) : ℝ)| = f := by rw [Int.cast_natCast, add_sub_cancel_left, abs_of_nonneg hf0]
  have hhigh : |(q : ℝ) + f - (((q + 1 : ℕ) : ℤ) : ℝ)| = 1 - f := by
    push_cast
    rw [abs_sub_comm, abs_of_nonneg (by linarith)]
    ring
  have hfloor : ⌊(q : ℝ) + f⌋ = q := Int.floor_eq_iff.2 ⟨by push_cast; linarith, by push_cast; linarith⟩
  cases m with
  | chopped =>
    rw [hdown id]
    refine ⟨by push_cast; positivity, ?_, ?_⟩
    · rw [abs_of_nonneg (by positivity), abs_of_nonneg (by positivity)]
      push_cast
      linarith
    · rw [abs_of_nonneg (by positivity), abs_of_nonneg (by positivity)]
      push_cast
      linarith
  | minus =>
    rw [hdown id]
    exact hfloor.symm
  | plus =>
    obtain rfl | hf := eq_or_ne f 0
    · rw [hdown (lt_irrefl 0)]
      show (q : ℤ) = ⌈(q : ℝ) + 0⌉
      rw [add_zero, Int.ceil_natCast]
    · have hpos := hf0.lt_of_ne' hf
      rw [hup hpos]
      exact (Int.ceil_eq_iff.2 ⟨by push_cast; linarith, by push_cast; linarith⟩).symm
  | nearestEven =>
    by_cases hm : Rounding.nearestEven.Upward q f
    · rw [hup hm]
      refine ⟨?_, fun htie => ?_⟩
      · rw [hhigh]
        obtain h | ⟨h, -⟩ := hm <;> linarith
      · rw [hhigh] at htie
        obtain h | ⟨-, hodd⟩ := hm
        · linarith
        · exact (Int.even_coe_nat _).2 (Nat.even_iff.2 (by omega))
    · rw [hdown hm]
      obtain ⟨hle, htie⟩ : ¬1 / 2 < f ∧ ¬(f = 1 / 2 ∧ q % 2 = 1) := not_or.1 hm
      refine ⟨hlow.trans_le (not_lt.1 hle), fun heq => (Int.even_coe_nat _).2 (Nat.even_iff.2 ?_)⟩
      exact Nat.mod_two_ne_one.1 fun hodd => htie ⟨hlow.symm.trans heq, hodd⟩
  | nearestAway =>
    by_cases hm : Rounding.nearestAway.Upward q f
    · rw [hup hm]
      have hhalf : 1 / 2 ≤ f := hm
      refine ⟨by rw [hhigh]; linarith, fun _ => ?_⟩
      rw [abs_of_nonneg (by positivity), abs_of_nonneg (by positivity)]
      push_cast
      linarith
    · rw [hdown hm]
      have hhalf : f < 1 / 2 := not_le.1 hm
      exact ⟨hlow.trans_le hhalf.le, fun heq => absurd (hlow.symm.trans heq) hhalf.ne⟩

/-! ### The model's rounding to an integer -/

section
variable (x : Scaled)

/-- The whole units of a magnitude. -/
def wholeUnits : ℕ := if x.exp < 0 then x.mant >>> (-x.exp).toNat else x.mant <<< x.exp.toNat

/-- The places below one unit. -/
def belowUnit : ℕ := if x.exp < 0 then x.mant % 2 ^ (-x.exp).toNat else 0

/-- The whole units, rounded. -/
def roundedWhole (m : Rounding) : ℕ :=
  if roundsUp m x.neg (wholeUnits x) (belowUnit x) (-x.exp).toNat x.sticky then wholeUnits x + 1 else wholeUnits x

theorem roundToInt_eq (m : Rounding) :
    roundToInt m x = (if x.neg then -(roundedWhole x m : ℤ) else roundedWhole x m, belowUnit x != 0 || x.sticky) := rfl

/-- The part of a unit below the whole ones. -/
noncomputable def unitPart : ℝ := (belowUnit x : ℝ) / 2 ^ (-x.exp).toNat

theorem isPart_unitPart (h : x.sticky = false) : IsPart (belowUnit x) (-x.exp).toNat x.sticky (unitPart x) where
  rest := ⟨0, le_rfl, zero_lt_one, iff_of_false (by rw [h]; exact Bool.false_ne_true) (not_not.2 rfl), by
    rw [unitPart, div_mul_cancel₀ _ (by positivity), add_zero]⟩
  below := by
    rw [belowUnit]
    split
    · exact Nat.mod_lt _ (by positivity)
    · positivity
  whole := fun _ => h

theorem value_eq_units : x.value = signed x.neg (wholeUnits x + unitPart x) := by
  rw [Scaled.value, signed_inj, unitPart, wholeUnits, belowUnit]
  split
  case isTrue h =>
    obtain ⟨n, hn⟩ : ∃ n : ℕ, x.exp = -n := ⟨(-x.exp).toNat, by omega⟩
    have hpow : (2 : ℝ) ^ n ≠ 0 := by positivity
    have hsplit : ((x.mant / 2 ^ n : ℕ) : ℝ) * 2 ^ n + (x.mant % 2 ^ n : ℕ) = x.mant := by
      exact_mod_cast Nat.div_add_mod' x.mant (2 ^ n)
    rw [hn, neg_neg, Int.toNat_natCast, Nat.shiftRight_eq_div_pow, zpow_neg, zpow_natCast, ← div_eq_mul_inv, div_eq_iff hpow, add_mul,
      div_mul_cancel₀ _ hpow, hsplit]
  case isFalse h =>
    obtain ⟨n, hn⟩ : ∃ n : ℕ, x.exp = n := ⟨x.exp.toNat, by omega⟩
    rw [hn, Int.toNat_natCast, Nat.shiftLeft_eq, zpow_natCast, Nat.cast_zero, zero_div, add_zero]
    push_cast
    rfl

variable {x}

theorem roundToInt_rounds (h : x.sticky = false) (m : Rounding) : RoundsToInt m x.value (roundToInt m x).1 := by
  have hpart := isPart_unitPart x h
  have hiff := roundsUp_iff hpart (m.seen x.neg) (wholeUnits x)
  rw [← roundsUp_seen] at hiff
  rw [value_eq_units, roundToInt_eq]
  refine RoundsToInt.signed (roundsToInt_units hpart.nonneg hpart.lt_one _ (fun hup => ?_) fun hdown => ?_)
  · rw [roundedWhole, if_pos (hiff.2 hup)]
  · rw [roundedWhole, if_neg fun h => hdown (hiff.1 h)]

/-- What is dropped shows. -/
theorem roundToInt_inexact_iff (h : x.sticky = false) (m : Rounding) :
    (roundToInt m x).2 = true ↔ x.value ≠ (roundToInt m x).1 := by
  have hpart := isPart_unitPart x h
  have hiff := roundsUp_iff hpart (m.seen x.neg) (wholeUnits x)
  rw [← roundsUp_seen] at hiff
  have hcast : ((if x.neg then -(roundedWhole x m : ℤ) else roundedWhole x m : ℤ) : ℝ) = signed x.neg (roundedWhole x m) := by
    rw [signed]
    split
    · push_cast
      rfl
    · exact Int.cast_natCast _
  rw [value_eq_units, roundToInt_eq]
  show (belowUnit x != 0 || x.sticky) = true ↔ signed x.neg _ ≠ ((if x.neg then -(roundedWhole x m : ℤ) else roundedWhole x m : ℤ) : ℝ)
  rw [hcast, ne_eq, signed_inj, ← hpart.pos_iff]
  constructor
  · intro hpos heq
    have hlt := hpart.lt_one
    rw [roundedWhole] at heq
    split at heq
    · push_cast at heq
      linarith
    · linarith
  · intro hdiff
    refine hpart.nonneg.lt_of_ne' fun hzero => hdiff ?_
    rw [hzero] at hiff ⊢
    rw [roundedWhole, if_neg fun h => not_upward_zero _ _ (hiff.1 h), add_zero]

end

/-! ### The order of IEEE operands -/

section
variable {v : Word}

theorem expField_eq_zero_iff : expField v = 0 ↔ magnitude v / 2 ^ 52 = 0 := by
  rw [← BitVec.toNat_inj, expField_toNat]
  rfl

theorem expField_eq_ones_iff : expField v = 0x7FF ↔ magnitude v / 2 ^ 52 = 2047 := by
  rw [← BitVec.toNat_inj, expField_toNat]
  rfl

theorem fracField_eq_zero_iff : fracField v = 0 ↔ magnitude v % 2 ^ 52 = 0 := by
  rw [← BitVec.toNat_inj, fracField_toNat]
  rfl

theorem ieeeClass_inf_iff : ieeeClass v = .inf ↔ magnitude v = 2047 * 2 ^ 52 := by
  have hones := expField_eq_ones_iff (v := v)
  have hfrac := fracField_eq_zero_iff (v := v)
  rw [ieeeClass]
  split
  case isTrue h =>
    split
    case isTrue h0 => exact iff_of_true rfl (by have := hones.1 h; have := hfrac.1 h0; omega)
    case isFalse h0 => exact iff_of_false nofun (by rw [hfrac] at h0; omega)
  case isFalse h =>
    rw [hones] at h
    exact iff_of_false (by split <;> [split; skip] <;> nofun) (by omega)

theorem ieeeClass_zero_iff : ieeeClass v = .zero ↔ magnitude v = 0 := by
  have hzero := expField_eq_zero_iff (v := v)
  have hones := expField_eq_ones_iff (v := v)
  have hfrac := fracField_eq_zero_iff (v := v)
  rw [ieeeClass]
  split
  case isTrue h =>
    rw [hones] at h
    exact iff_of_false (by split <;> nofun) (by omega)
  case isFalse h =>
    split
    case isTrue he =>
      rw [hzero] at he
      split
      case isTrue h0 => exact iff_of_true rfl (by have := hfrac.1 h0; omega)
      case isFalse h0 => exact iff_of_false nofun (by rw [hfrac] at h0; omega)
    case isFalse he =>
      rw [hzero] at he
      exact iff_of_false nofun (by omega)

/-- An operand that is no NaN and no denormal is a zero, finite or infinite. -/
theorem ordinary_cases (hn : isNaN v = false) (hd : isDenormal v = false) :
    ieeeClass v = .zero ∨ ieeeClass v = .finite ∨ ieeeClass v = .inf := by
  cases h : ieeeClass v with
  | nan b => rw [isNaN, h] at hn; exact absurd hn.symm Bool.false_ne_true
  | denormal => rw [isDenormal, h] at hd; exact absurd hd.symm Bool.false_ne_true
  | zero => exact .inl rfl
  | finite => exact .inr (.inl rfl)
  | inf => exact .inr (.inr rfl)

/-- The number of a magnitude, the one of infinity above all others. -/
noncomputable def magnitudeNumber (n : ℕ) : ℝ := if n = 0 then 0 else (2 ^ 52 + n % 2 ^ 52 : ℕ) * 2 ^ ((n / 2 ^ 52 : ℕ) - 1075 : ℤ)

theorem magnitudeNumber_pos {n : ℕ} (h : n ≠ 0) : 0 < magnitudeNumber n := by
  rw [magnitudeNumber, if_neg h]
  exact mul_pos (by positivity) (zpow_pos two_pos _)

theorem magnitudeNumber_nonneg (n : ℕ) : 0 ≤ magnitudeNumber n := by
  obtain rfl | h := eq_or_ne n 0
  · rw [magnitudeNumber, if_pos rfl]
  · exact (magnitudeNumber_pos h).le

/-- Numbers are ordered as their magnitudes are. -/
theorem magnitudeNumber_lt {n k : ℕ} (h : n < k) : magnitudeNumber n < magnitudeNumber k := by
  have hk : k ≠ 0 := by omega
  obtain rfl | hn := eq_or_ne n 0
  · rw [magnitudeNumber, if_pos rfl]
    exact magnitudeNumber_pos hk
  rw [magnitudeNumber, magnitudeNumber, if_neg hn, if_neg hk]
  have hunit : (0 : ℝ) < 2 ^ ((n / 2 ^ 52 : ℕ) - 1075 : ℤ) := zpow_pos two_pos _
  obtain heq | hlt := (Nat.div_le_div_right (c := 2 ^ 52) h.le).eq_or_lt
  · rw [← heq]
    refine mul_lt_mul_of_pos_right ?_ hunit
    exact_mod_cast (by omega : 2 ^ 52 + n % 2 ^ 52 < 2 ^ 52 + k % 2 ^ 52)
  · have hfrac : ((2 ^ 52 + n % 2 ^ 52 : ℕ) : ℝ) < 2 ^ 52 * 2 := by
      exact_mod_cast (by omega : 2 ^ 52 + n % 2 ^ 52 < 2 ^ 52 * 2)
    have hfrac' : (2 : ℝ) ^ 52 ≤ ((2 ^ 52 + k % 2 ^ 52 : ℕ) : ℝ) := by
      exact_mod_cast Nat.le_add_right (2 ^ 52) (k % 2 ^ 52)
    calc ((2 ^ 52 + n % 2 ^ 52 : ℕ) : ℝ) * 2 ^ ((n / 2 ^ 52 : ℕ) - 1075 : ℤ)
        < 2 ^ 52 * 2 * 2 ^ ((n / 2 ^ 52 : ℕ) - 1075 : ℤ) := mul_lt_mul_of_pos_right hfrac hunit
      _ = 2 ^ 52 * 2 ^ ((n / 2 ^ 52 : ℕ) - 1075 + 1 : ℤ) := by rw [zpow_add_one₀ two_ne_zero]; ring
      _ ≤ (2 ^ 52 + k % 2 ^ 52 : ℕ) * 2 ^ ((k / 2 ^ 52 : ℕ) - 1075 : ℤ) :=
        mul_le_mul hfrac' (zpow_le_zpow_right₀ one_le_two (by omega)) (zpow_pos two_pos _).le (Nat.cast_nonneg _)

theorem ieeeNumber_magnitude (h : ieeeClass v = .zero ∨ ieeeClass v = .finite) :
    (ieeeNumber v : ℝ) = signed (v.getLsbD 63) (magnitudeNumber (magnitude v)) := by
  obtain h | h := h
  · rw [ieeeNumber, if_pos h, Rat.cast_zero, ieeeClass_zero_iff.1 h, magnitudeNumber, if_pos rfl, signed, neg_zero, ite_self]
  · have hne : magnitude v ≠ 0 := by
      have := (ieeeClass_finite_iff.1 h).1
      omega
    rw [ieeeNumber_eq h, Scaled.value, fpUnpack_eq, magnitudeNumber, if_neg hne]
    show signed (v.getLsbD 63) (((2 ^ 52 + magnitude v % 2 ^ 52 : ℕ) : ℝ) * 2 ^ ((magnitude v / 2 ^ 52 : ℕ) - (1023 : ℤ) - (52 : ℕ))) = _
    rw [show ((magnitude v / 2 ^ 52 : ℕ) - (1023 : ℤ) - (52 : ℕ)) = (magnitude v / 2 ^ 52 : ℕ) - 1075 by omega]

theorem ieeeKey_eq (v : Word) : ieeeKey v = if v.getLsbD 63 then -(magnitude v : ℤ) else magnitude v := rfl

theorem ieeeOrder_number (h : ieeeClass v ≠ .inf) : ieeeOrder v = ((ieeeNumber v : WithTop ℚ) : WithBot (WithTop ℚ)) := if_neg h

theorem ieeeOrder_inf (h : ieeeClass v = .inf) :
    ieeeOrder v = if v.getLsbD 63 then ⊥ else ((⊤ : WithTop ℚ) : WithBot (WithTop ℚ)) := if_pos h

end

section
variable {a b : Word}

theorem magnitude_le_inf (h : ieeeClass a = .zero ∨ ieeeClass a = .finite ∨ ieeeClass a = .inf) : magnitude a ≤ 2047 * 2 ^ 52 := by
  obtain h | h | h := h
  · rw [ieeeClass_zero_iff.1 h]
    exact Nat.zero_le _
  · have := (ieeeClass_finite_iff.1 h).2
    omega
  · exact (ieeeClass_inf_iff.1 h).le

/-- Signed numbers are ordered as their signed magnitudes are. -/
theorem signed_lt_of_key (h : ieeeKey a < ieeeKey b) :
    signed (a.getLsbD 63) (magnitudeNumber (magnitude a)) < signed (b.getLsbD 63) (magnitudeNumber (magnitude b)) := by
  have hna := magnitudeNumber_nonneg (magnitude a)
  have hnb := magnitudeNumber_nonneg (magnitude b)
  rw [ieeeKey_eq, ieeeKey_eq] at h
  cases hsa : a.getLsbD 63 with
  | false =>
    cases hsb : b.getLsbD 63 with
    | false =>
      rw [hsa, hsb] at h
      exact magnitudeNumber_lt (Nat.cast_lt.1 h)
    | true =>
      rw [hsa, hsb] at h
      have h' : (magnitude a : ℤ) < -(magnitude b : ℤ) := h
      omega
  | true =>
    cases hsb : b.getLsbD 63 with
    | false =>
      rw [hsa, hsb] at h
      have h' : -(magnitude a : ℤ) < magnitude b := h
      show -magnitudeNumber (magnitude a) < magnitudeNumber (magnitude b)
      obtain ha | hb : magnitude a ≠ 0 ∨ magnitude b ≠ 0 := by omega
      · have := magnitudeNumber_pos ha
        linarith
      · have := magnitudeNumber_pos hb
        linarith
    | true =>
      rw [hsa, hsb] at h
      have h' : -(magnitude a : ℤ) < -(magnitude b : ℤ) := h
      exact neg_lt_neg (magnitudeNumber_lt (by omega))

theorem ieeeOrder_eq_of_key (h : ieeeKey a = ieeeKey b) : ieeeOrder a = ieeeOrder b := by
  rw [ieeeKey_eq, ieeeKey_eq] at h
  by_cases hzero : magnitude a = 0
  · have hzero' : magnitude b = 0 := by
      split at h <;> split at h <;> omega
    have hac := ieeeClass_zero_iff.2 hzero
    have hbc := ieeeClass_zero_iff.2 hzero'
    rw [ieeeOrder_number (by rw [hac]; nofun), ieeeOrder_number (by rw [hbc]; nofun), ieeeNumber, ieeeNumber, if_pos hac, if_pos hbc]
  · have hsame : a = b := by
      rw [word_eq_iff]
      cases hsa : a.getLsbD 63 <;> cases hsb : b.getLsbD 63 <;> rw [hsa, hsb] at h <;> simp at h ⊢ <;> omega
    rw [hsame]

section
variable (ha : ieeeClass a = .zero ∨ ieeeClass a = .finite ∨ ieeeClass a = .inf)
  (hb : ieeeClass b = .zero ∨ ieeeClass b = .finite ∨ ieeeClass b = .inf)
include ha hb

theorem ieeeOrder_lt_of_key (h : ieeeKey a < ieeeKey b) : ieeeOrder a < ieeeOrder b := by
  have hmax := magnitude_le_inf ha
  have hmax' := magnitude_le_inf hb
  have hkey := h
  rw [ieeeKey_eq, ieeeKey_eq] at hkey
  by_cases hai : ieeeClass a = .inf
  · have hmag := ieeeClass_inf_iff.1 hai
    have hsa : a.getLsbD 63 = true := by
      by_contra hs
      rw [if_neg hs] at hkey
      split at hkey <;> omega
    rw [ieeeOrder_inf hai, if_pos hsa]
    by_cases hbi : ieeeClass b = .inf
    · have hmag' := ieeeClass_inf_iff.1 hbi
      rw [ieeeOrder_inf hbi, if_neg fun hs => by rw [if_pos hs, if_pos hsa] at hkey; omega]
      exact WithBot.bot_lt_coe _
    · rw [ieeeOrder_number hbi]
      exact WithBot.bot_lt_coe _
  · rw [ieeeOrder_number hai]
    by_cases hbi : ieeeClass b = .inf
    · have hmag' := ieeeClass_inf_iff.1 hbi
      have hsb : ¬b.getLsbD 63 = true := fun hs => by
        rw [if_pos hs] at hkey
        split at hkey <;> omega
      rw [ieeeOrder_inf hbi, if_neg hsb, WithBot.coe_lt_coe]
      exact WithTop.coe_lt_top _
    · have ha' := ieeeNumber_magnitude (ha.imp_right fun h => h.resolve_right hai)
      have hb' := ieeeNumber_magnitude (hb.imp_right fun h => h.resolve_right hbi)
      rw [ieeeOrder_number hbi, WithBot.coe_lt_coe, WithTop.coe_lt_coe, ← Rat.cast_lt (K := ℝ), ha', hb']
      exact signed_lt_of_key h

theorem ieeeOrder_lt_iff : ieeeOrder a < ieeeOrder b ↔ ieeeKey a < ieeeKey b := by
  refine ⟨fun h => ?_, ieeeOrder_lt_of_key ha hb⟩
  by_contra hle
  obtain heq | hlt := (not_lt.1 hle).eq_or_lt
  · exact absurd (ieeeOrder_eq_of_key heq) h.ne'
  · exact lt_asymm h (ieeeOrder_lt_of_key hb ha hlt)

theorem ieeeOrder_eq_iff : ieeeOrder a = ieeeOrder b ↔ ieeeKey a = ieeeKey b := by
  rw [le_antisymm_iff, le_antisymm_iff, ← not_lt, ← not_lt, ← not_lt, ← not_lt, ieeeOrder_lt_iff ha hb, ieeeOrder_lt_iff hb ha]

theorem ieeeOrder_le_iff : ieeeOrder a ≤ ieeeOrder b ↔ ieeeKey a ≤ ieeeKey b := by
  rw [← not_lt, ← not_lt, ieeeOrder_lt_iff hb ha]

end
end

/-! ### The compares -/

theorem compareResult_eq {t : Bool} {p : Prop} [Decidable p] (h : t = true ↔ p) :
    compareResult t = plainResult (if p then 0x4000000000000000 else 0) := congrArg plainResult (if_congr h rfl rfl)

theorem ieeeCompare_ordinary {c : IeeeCtx} {a b : Word} (hna : isNaN a = false) (hnb : isNaN b = false) (hda : isDenormal a = false)
    (hdb : isDenormal b = false) (onNaN ordering : Bool) (f : ℤ → ℤ → Bool) :
    ieeeCompare c onNaN ordering f a b = compareResult (f (ieeeKey a) (ieeeKey b)) := by
  rw [ieeeCompare, flushDenormal_id hda, flushDenormal_id hdb, hda, hdb, hna, hnb]
  rfl

section
variable (x y : Scaled)

theorem scaledLt_iff : scaledLt x y = true ↔ x.value < y.value := by
  have hunit : (0 : ℝ) < 2 ^ min x.exp y.exp := zpow_pos two_pos _
  rw [scaledLt, decide_eq_true_iff, ← unitsAt_mul (min_le_left x.exp y.exp), ← unitsAt_mul (min_le_right x.exp y.exp),
    mul_lt_mul_iff_left₀ hunit, Int.cast_lt]

theorem scaledEq_iff : scaledEq x y = true ↔ x.value = y.value := by
  have hunit : (2 : ℝ) ^ min x.exp y.exp ≠ 0 := zpow_ne_zero _ two_ne_zero
  rw [scaledEq, beq_iff_eq, ← unitsAt_mul (min_le_left x.exp y.exp), ← unitsAt_mul (min_le_right x.exp y.exp),
    mul_left_inj' hunit, Int.cast_inj]

end

/-! ### Conversions to integers -/

theorem not_fitsSigned (i : ℤ) : (!fitsSigned 64 i) = decide (¬(-2 ^ 63 ≤ i ∧ i < 2 ^ 63)) := by
  rw [Bool.eq_iff_iff, Bool.not_eq_true', ← Bool.not_eq_true, fitsSigned_iff (by norm_num), decide_eq_true_iff]

theorem ieeeToInt_zero {c : IeeeCtx} {a : Word} (h : ieeeClass a = .zero) : ieeeToInt c a = plainResult 0 := by
  have hd : isDenormal a = false := isDenormal_eq_false (by rw [h]; nofun)
  rw [ieeeToInt, flushDenormal_id hd, hd, h]
  rfl

theorem ieeeToInt_inf {c : IeeeCtx} {a : Word} (h : ieeeClass a = .inf) : ieeeToInt c a = invalid 0 := by
  have hd : isDenormal a = false := isDenormal_eq_false (by rw [h]; nofun)
  rw [ieeeToInt, flushDenormal_id hd, hd, h]
  rfl

theorem ieeeToInt_nan {c : IeeeCtx} {a : Word} {signaling : Bool} (h : ieeeClass a = .nan signaling) : ieeeToInt c a = invalid 0 := by
  have hd : isDenormal a = false := isDenormal_eq_false (by rw [h]; nofun)
  rw [ieeeToInt, flushDenormal_id hd, hd, h]
  rfl

theorem ieeeToInt_finite {c : IeeeCtx} {a : Word} (h : ieeeClass a = .finite) : ∃ i : ℤ, RoundsToInt c.mode (ieeeNumber a) i ∧
    ieeeToInt c a =
      { value := some (BitVec.ofInt 64 i)
        conds := { noConds with inv := decide (¬(-2 ^ 63 ≤ i ∧ i < 2 ^ 63)), iov := decide (¬(-2 ^ 63 ≤ i ∧ i < 2 ^ 63)),
                                ine := decide (ieeeNumber a ≠ i) } } := by
  have hsticky : (fpUnpack .t a).sticky = false := rfl
  have hrounds := roundToInt_rounds hsticky c.mode
  have hinexact := roundToInt_inexact_iff hsticky c.mode
  rw [← ieeeNumber_eq h] at hrounds hinexact
  have hine : (roundToInt c.mode (fpUnpack .t a)).2 = decide (ieeeNumber a ≠ (roundToInt c.mode (fpUnpack .t a)).1) := by
    rw [Bool.eq_iff_iff, hinexact, decide_eq_true_iff]
    exact_mod_cast Iff.rfl
  refine ⟨(roundToInt c.mode (fpUnpack .t a)).1, hrounds, ?_⟩
  have hd := (finite_ordinary h).1
  rw [← not_fitsSigned, ← hine, ieeeToInt, flushDenormal_id hd, hd, h]
  rfl

/-- Settles O49. -/
theorem floatingComparesAndIntegerConversions : Obligations.FloatingComparesAndIntegerConversions := by
  unfold Obligations.FloatingComparesAndIntegerConversions
  refine ⟨fun c a b hna hnb hda hdb => ?ieee, fun a b ha hb => ?vax, fun c a => ⟨ieeeToInt_finite, ieeeToInt_zero, fun h => ?special⟩,
    fun r a ha => ?vaxInt⟩
  case ieee =>
    have ha := ordinary_cases hna hda
    have hb := ordinary_cases hnb hdb
    have hcompare := @ieeeCompare_ordinary c a b hna hnb hda hdb
    refine ⟨hcompare true false _, (hcompare false false _).trans (compareResult_eq ?_), (hcompare false true _).trans (compareResult_eq ?_),
      (hcompare false true _).trans (compareResult_eq ?_)⟩
    · rw [ieeeOrder_eq_iff ha hb, beq_iff_eq]
    · rw [ieeeOrder_lt_iff ha hb, decide_eq_true_iff]
    · rw [ieeeOrder_le_iff ha hb, decide_eq_true_iff]
  case vax =>
    rw [vaxEqual, vaxLess, vaxLessEq, vaxTwo_usable ha hb, vaxTwo_usable ha hb, vaxTwo_usable ha hb]
    refine ⟨compareResult_eq ?_, compareResult_eq ?_, compareResult_eq ?_⟩
    · rw [scaledEq_iff, ← vaxNumber_value, ← vaxNumber_value, Rat.cast_inj]
    · rw [scaledLt_iff, ← vaxNumber_value, ← vaxNumber_value, Rat.cast_lt]
    · rw [Bool.or_eq_true, scaledLt_iff, scaledEq_iff, ← le_iff_lt_or_eq, ← vaxNumber_value, ← vaxNumber_value, Rat.cast_le]
  case special =>
    obtain h | h := h
    · exact ieeeToInt_inf h
    · obtain ⟨b, hb⟩ : ∃ b, ieeeClass a = .nan b := by
        by_contra hno
        exact Bool.false_ne_true ((isNaN_eq_false fun b hb => hno ⟨b, hb⟩).symm.trans h)
      exact ieeeToInt_nan hb
  case vaxInt =>
    refine ⟨(roundToInt r (vaxValue .g a)).1, ?_, ?_⟩
    · rw [vaxNumber_value]
      exact roundToInt_rounds (vaxValue_sticky .g a) r
    · rw [vaxToInt, vaxOne_usable ha, ← not_fitsSigned]

end Sys2Proof.Machine
end


/-! # Settling O50: special IEEE operands (spec/46_fp_operate.md sections 1 to 3) -/

section

namespace Sys2Proof.Machine

/-! ### Images and classes by magnitude -/

section
variable {v w : Word}

theorem lowFraction_eq_zero_iff : v.extractLsb' 0 29 = 0#29 ↔ magnitude v % 2 ^ 29 = 0 := by
  rw [← BitVec.toNat_inj, BitVec.extractLsb'_toNat, Nat.shiftRight_zero, magnitude, BitVec.toNat_zero]
  omega

/-- An S image by its magnitude. -/
theorem isSImage_iff : isSImage v = true ↔ magnitude v % 2 ^ 29 = 0 ∧
    (magnitude v / 2 ^ 52 = 0 ∨ magnitude v / 2 ^ 52 = 2047 ∨ 897 ≤ magnitude v / 2 ^ 52 ∧ magnitude v / 2 ^ 52 ≤ 1150) := by
  rw [isSImage, Bool.and_eq_true, beq_iff_eq, lowFraction_eq_zero_iff, Bool.or_eq_true, Bool.or_eq_true, beq_iff_eq, beq_iff_eq,
    expField_eq_zero_iff, expField_eq_ones_iff, Bool.and_eq_true, decide_eq_true_iff, decide_eq_true_iff, expField_toNat, or_assoc]

theorem isSImage_negated (v : Word) : isSImage (negated v) = isSImage v := by
  rw [Bool.eq_iff_iff, isSImage_iff, isSImage_iff, magnitude_negated]

theorem isSImage_zero (h : ieeeClass v = .zero) : isSImage v = true := by
  rw [isSImage_iff, ieeeClass_zero_iff.1 h]
  exact ⟨rfl, .inl rfl⟩

theorem isSImage_inf (h : ieeeClass v = .inf) : isSImage v = true := by
  rw [isSImage_iff, ieeeClass_inf_iff.1 h]
  exact ⟨by norm_num, .inr (.inl (by norm_num))⟩

/-- The zero of an operand's sign. -/
def zeroOf (v : Word) : Word := v &&& 0x8000000000000000

theorem sign_zeroOf (v : Word) : (zeroOf v).getLsbD 63 = v.getLsbD 63 := by
  rw [zeroOf, BitVec.getLsbD_and, show (0x8000000000000000 : Word).getLsbD 63 = true from rfl, Bool.and_true]

theorem magnitude_zeroOf (v : Word) : magnitude (zeroOf v) = 0 := by
  rw [magnitude, zeroOf, BitVec.toNat_and, Nat.and_mod_two_pow]
  exact Nat.and_zero _

theorem ieeeClass_zeroOf (v : Word) : ieeeClass (zeroOf v) = .zero := ieeeClass_zero_iff.2 (magnitude_zeroOf v)

theorem sign_signedZero (neg : Bool) : (signedZero neg).getLsbD 63 = neg ∧ magnitude (signedZero neg) = 0 := by
  cases neg <;> exact ⟨rfl, rfl⟩

theorem signedZero_eq (h : ieeeClass v = .zero) : signedZero (v.getLsbD 63) = v :=
  (word_eq_iff _ _).2 ⟨(sign_signedZero _).1, (sign_signedZero _).2.trans (ieeeClass_zero_iff.1 h).symm⟩

theorem flushDenormal_of_denormal (h : isDenormal v = true) : flushDenormal v = zeroOf v := by
  rw [flushDenormal, if_pos h, word_eq_iff, sign_zeroOf, magnitude_zeroOf]
  exact sign_signedZero _

theorem zero_ordinary (h : ieeeClass v = .zero) : isDenormal v = false ∧ isNaN v = false :=
  ⟨isDenormal_eq_false (by rw [h]; nofun), isNaN_eq_false (by rw [h]; nofun)⟩

theorem inf_ordinary (h : ieeeClass v = .inf) : isDenormal v = false ∧ isNaN v = false :=
  ⟨isDenormal_eq_false (by rw [h]; nofun), isNaN_eq_false (by rw [h]; nofun)⟩

theorem special_ordinary (h : ieeeClass v = .inf ∨ ieeeClass v = .zero ∨ ieeeClass v = .finite) :
    isDenormal v = false ∧ isNaN v = false := by
  obtain h | h | h := h
  · exact inf_ordinary h
  · exact zero_ordinary h
  · exact finite_ordinary h

theorem isNaN_of_denormal (h : isDenormal v = true) : isNaN v = false ∧ isSNaN v = false := by
  have hc : ieeeClass v = .denormal := beq_iff_eq.1 h
  exact ⟨isNaN_eq_false (by rw [hc]; nofun), by rw [isSNaN, hc]; rfl⟩

theorem isSNaN_of_special (h : isNaN v = false) : isSNaN v = false := by
  rw [isSNaN, beq_eq_false_iff_ne]
  intro hc
  rw [isNaN, hc] at h
  exact Bool.false_ne_true h.symm

theorem isDenormal_of_isNaN (h : isNaN v = true) : isDenormal v = false := by
  rw [← Bool.not_eq_true]
  exact fun hd => Bool.false_ne_true ((isNaN_of_denormal hd).1.symm.trans h)

theorem ieeeClass_negated (h : ieeeClass v = .inf ∨ ieeeClass v = .zero ∨ ieeeClass v = .finite) :
    ieeeClass (negated v) = ieeeClass v := by
  obtain h | h | h := h <;> rw [h]
  · rwa [ieeeClass_inf_iff, magnitude_negated, ← ieeeClass_inf_iff]
  · rwa [ieeeClass_zero_iff, magnitude_negated, ← ieeeClass_zero_iff]
  · rwa [ieeeClass_negated_finite]

end

theorem flushDenormal_zeroOf (v : Word) : flushDenormal (zeroOf v) = zeroOf v := flushDenormal_id (zero_ordinary (ieeeClass_zeroOf v)).1

/-! ### Denormal operands -/

section
variable {m : FpFormat} {c : IeeeCtx} {a b : Word}

theorem checkS_denormalTrap (m : FpFormat) (ok : Bool) : checkS m ok denormalTrap = denormalTrap := by
  cases m <;> cases ok <;> rfl

section
variable (h : isDenormal a = true ∨ isDenormal b = true) (hz : c.dnz = false)
include h hz

theorem denormal_screened : ((isDenormal a || isDenormal b) && !c.dnz) = true := by
  rw [hz, Bool.not_false, Bool.and_true, Bool.or_eq_true]
  exact h

theorem arithmetic_denormal (ok : Bool) (k : Word → Word → FpResult) : checkS m ok (screenTwo c m a b k) = denormalTrap := by
  rw [screenTwo, if_pos (denormal_screened h hz), checkS_denormalTrap]

theorem ieeeCompare_denormal (onNaN ordering : Bool) (f : ℤ → ℤ → Bool) : ieeeCompare c onNaN ordering f a b = denormalTrap :=
  if_pos (denormal_screened h hz)

end

theorem screenOne_denormal (h : isDenormal a = true) (hz : c.dnz = false) (k : Word → FpResult) : screenOne c m a k = denormalTrap :=
  if_pos (by rw [h, hz]; rfl)

section
variable (h : isDenormal a = true) (hz : c.dnz = true)
include h hz

/-- A replaced operand on the left. -/
theorem screenTwo_flush_left (k : Word → Word → FpResult) : screenTwo c m a b k = screenTwo c m (zeroOf a) b k := by
  obtain ⟨hna, hsa⟩ := isNaN_of_denormal h
  obtain ⟨-, hnz⟩ := zero_ordinary (ieeeClass_zeroOf a)
  rw [screenTwo, screenTwo, flushDenormal_of_denormal h, flushDenormal_zeroOf, hz, Bool.not_true, Bool.and_false, Bool.and_false,
    hna, hnz, nanResult, nanResult, hsa, isSNaN_of_special hnz, Bool.false_or]
  cases isNaN b <;> rfl

theorem screenTwo_flush_right (k : Word → Word → FpResult) : screenTwo c m b a k = screenTwo c m b (zeroOf a) k := by
  obtain ⟨hna, hsa⟩ := isNaN_of_denormal h
  obtain ⟨-, hnz⟩ := zero_ordinary (ieeeClass_zeroOf a)
  rw [screenTwo, screenTwo, flushDenormal_of_denormal h, flushDenormal_zeroOf, hz, Bool.not_true, Bool.and_false, Bool.and_false,
    nanResult, nanResult, hna, hnz, hsa, isSNaN_of_special hnz]
  rfl

theorem screenOne_flush (k : Word → FpResult) : screenOne c m a k = screenOne c m (zeroOf a) k := by
  obtain ⟨hna, -⟩ := isNaN_of_denormal h
  obtain ⟨-, hnz⟩ := zero_ordinary (ieeeClass_zeroOf a)
  rw [screenOne, screenOne, flushDenormal_of_denormal h, flushDenormal_zeroOf, hz, Bool.not_true, Bool.and_false, Bool.and_false,
    hna, hnz]
  rfl

theorem ieeeCompare_flush_left (onNaN ordering : Bool) (f : ℤ → ℤ → Bool) :
    ieeeCompare c onNaN ordering f a b = ieeeCompare c onNaN ordering f (zeroOf a) b := by
  obtain ⟨hna, hsa⟩ := isNaN_of_denormal h
  obtain ⟨-, hnz⟩ := zero_ordinary (ieeeClass_zeroOf a)
  rw [ieeeCompare, ieeeCompare, flushDenormal_of_denormal h, flushDenormal_zeroOf, hz, Bool.not_true, Bool.and_false,
    Bool.and_false, hna, hnz, hsa, isSNaN_of_special hnz]

theorem ieeeCompare_flush_right (onNaN ordering : Bool) (f : ℤ → ℤ → Bool) :
    ieeeCompare c onNaN ordering f b a = ieeeCompare c onNaN ordering f b (zeroOf a) := by
  obtain ⟨hna, hsa⟩ := isNaN_of_denormal h
  obtain ⟨-, hnz⟩ := zero_ordinary (ieeeClass_zeroOf a)
  rw [ieeeCompare, ieeeCompare, flushDenormal_of_denormal h, flushDenormal_zeroOf, hz, Bool.not_true, Bool.and_false,
    Bool.and_false, hna, hnz, hsa, isSNaN_of_special hnz]

theorem ieeeToInt_flush : ieeeToInt c a = ieeeToInt c (zeroOf a) := by
  have hzero := ieeeClass_zeroOf a
  rw [ieeeToInt_zero hzero, ieeeToInt, flushDenormal_of_denormal h, hz, Bool.not_true, Bool.and_false, hzero]
  rfl

end
end

/-! ### NaN operands -/

section
variable {m : FpFormat} {c : IeeeCtx} {a b : Word}

/-- A value without its low 29 bits. -/
theorem andNot_onesLow (v : Word) : v &&& ~~~(onesLow 29) = v.extractLsb' 29 35 ++ 0#29 := by
  refine BitVec.eq_of_getLsbD_eq fun i hi => ?_
  have hones : (onesLow 29).getLsbD i = decide (i < 29) := by
    rw [onesLow, BitVec.getLsbD_ofNat, Nat.testBit_two_pow_sub_one, decide_eq_true hi, Bool.true_and]
  rw [BitVec.getLsbD_and, BitVec.getLsbD_not, hones, BitVec.getLsbD_append, BitVec.getLsbD_extractLsb']
  grind

/-- Quieting keeps an S image one. -/
theorem quieted_eq (hm : m = .s ∨ m = .t) {v : Word} (hs : m = .s → isSImage v = true) : quieted m v = v ||| 0x0008000000000000 := by
  obtain rfl | rfl := hm
  · have hlow : v.extractLsb' 0 29 = 0#29 := lowFraction_eq_zero_iff.2 (isSImage_iff.1 (hs rfl)).1
    rw [quieted]
    refine BitVec.eq_of_getLsbD_eq fun i hi => ?_
    have hones : (onesLow 29).getLsbD i = decide (i < 29) := by
      rw [onesLow, BitVec.getLsbD_ofNat, Nat.testBit_two_pow_sub_one, decide_eq_true hi, Bool.true_and]
    have hbit := extractLsb'_eq_iff.1 hlow i
    have hquiet : (0x0008000000000000 : Word).getLsbD i = decide (i = 51) := by
      clear hones hbit
      revert i
      decide
    rw [BitVec.getLsbD_and, BitVec.getLsbD_or, BitVec.getLsbD_not, hones, hquiet]
    grind
  · rfl

section
variable (hda : isDenormal a = false) (hdb : isDenormal b = false) (hn : isNaN a = true ∨ isNaN b = true)
include hda hdb hn

theorem screenTwo_nan (k : Word → Word → FpResult) : screenTwo c m a b k = nanResult m a b := by
  rw [screenTwo, hda, hdb, if_neg (by rw [Bool.or_self, Bool.false_and]; exact Bool.false_ne_true), if_pos]
  rwa [Bool.or_eq_true]

theorem ieeeCompare_nan (onNaN ordering : Bool) (f : ℤ → ℤ → Bool) : ieeeCompare c onNaN ordering f a b =
    { value := some (if onNaN then fpTrue else 0), conds := { noConds with inv := ordering || isSNaN a || isSNaN b } } := by
  rw [ieeeCompare, hda, hdb, if_neg (by rw [Bool.or_self, Bool.false_and]; exact Bool.false_ne_true), if_pos]
  rwa [Bool.or_eq_true]

end

theorem screenOne_nan (hn : isNaN a = true) (k : Word → FpResult) :
    screenOne c m a k = { value := some (quieted m a), conds := { noConds with inv := isSNaN a } } := by
  rw [screenOne, isDenormal_of_isNaN hn, if_neg (by rw [Bool.false_and]; exact Bool.false_ne_true), if_pos hn]

end

/-! ### A finite operand beside a zero -/

/-- A number of the format is delivered as it is. -/
theorem ieeeDeliver_self {m : FpFormat} {c : IeeeCtx} {v : Word} (hm : m = .s ∨ m = .t) (hv : ieeeClass v = .finite)
    (hs : m = .s → isSImage v = true) : ieeeDeliver c m (fpUnpack .t v) = plainResult v := by
  obtain ⟨hE1, hE2⟩ := ieeeClass_finite_iff.1 hv
  have hmant : (fpUnpack .t v).mant = 2 ^ 52 + magnitude v % 2 ^ 52 := rfl
  have hbits : bitLength (fpUnpack .t v).mant = 53 := by
    have hne := fpUnpack_mant_ne_zero .t v
    obtain ⟨hlow, hhigh⟩ := fpUnpack_mant_bounds .t v
    rw [bitLength, if_neg hne, (Nat.log2_eq_iff hne).2 ⟨hlow, hhigh⟩]
    rfl
  have hdropped : droppedBits (fpPrec m) (fpUnpack .t v) = 53 - fpPrec m := by rw [droppedBits, hbits]
  have hprec : fpPrec m ≤ 53 := by obtain rfl | rfl := hm <;> decide
  have hfracBits : fpFracBits m = 52 := by obtain rfl | rfl := hm <;> rfl
  have hbias : fpBias m = 1023 := by obtain rfl | rfl := hm <;> rfl
  have hwhole : (fpUnpack .t v).mant % 2 ^ (53 - fpPrec m) = 0 := by
    obtain rfl | rfl := hm
    · have hlow := (isSImage_iff.1 (hs rfl)).1
      show (2 ^ 52 + magnitude v % 2 ^ 52) % 2 ^ 29 = 0
      omega
    · exact Nat.mod_one _
  have hnotUp : ¬roundsUp c.mode (fpUnpack .t v).neg ((fpUnpack .t v).mant >>> (53 - fpPrec m)) 0 (53 - fpPrec m) false = true := by
    rw [roundsUp_seen, roundsUp_iff (f := 0) ⟨⟨0, le_rfl, zero_lt_one, by simp, by simp⟩, by positivity, fun _ => rfl⟩]
    exact not_upward_zero _ _
  have hunits : roundedUnits (fpPrec m) c.mode (fpUnpack .t v) = (fpUnpack .t v).mant >>> (53 - fpPrec m) := by
    rw [roundedUnits, hdropped, hwhole]
    exact if_neg hnotUp
  have hkept : roundedUnits (fpPrec m) c.mode (fpUnpack .t v) ≠ 2 ^ fpPrec m := by
    have hlt := kept_lt (p := fpPrec m) (fpUnpack_mant_ne_zero .t v)
    rw [hdropped] at hlt
    rw [hunits]
    exact hlt.ne
  have hround : roundTo (fpPrec m) c.mode (fpUnpack .t v) =
      { neg := v.getLsbD 63, mant := (fpUnpack .t v).mant / 2 ^ (53 - fpPrec m),
        exp := (magnitude v / 2 ^ 52 : ℕ) - 1023 - 52 + (53 - fpPrec m : ℕ), inexact := false } := by
    rw [roundTo_kept hkept, hunits, hdropped, hwhole, hbits, Nat.sub_eq_zero_of_le hprec, Nat.shiftLeft_zero, Nat.shiftRight_eq_div_pow,
      Nat.cast_zero, sub_zero]
    rfl
  have hnormal := roundTo_normal (m := c.mode) (p := fpPrec m) (x := fpUnpack .t v) (fun h => absurd h Bool.false_ne_true)
    (fpUnpack_denotes .t v) (fpUnpack_mant_ne_zero .t v) (by have := (format_facts m).1; omega)
  obtain ⟨hlow, hhigh⟩ := hnormal
  have hrange : fpMinExp m ≤ ((magnitude v / 2 ^ 52 : ℕ) : ℤ) - 1023 ∧ ((magnitude v / 2 ^ 52 : ℕ) : ℤ) - 1023 ≤ fpMaxExp m := by
    obtain rfl | rfl := hm
    · have himage := (isSImage_iff.1 (hs rfl)).2
      show (-126 : ℤ) ≤ _ ∧ _ ≤ (127 : ℤ)
      omega
    · show (-1022 : ℤ) ≤ _ ∧ _ ≤ (1023 : ℤ)
      omega
  rw [ieeeDeliver]
  generalize hr : roundTo (fpPrec m) c.mode (fpUnpack .t v) = r at hround hlow hhigh
  have hexp : r.exp + fpPrec m - 1 = (magnitude v / 2 ^ 52 : ℕ) - 1023 := by
    rw [hround]
    show (magnitude v / 2 ^ 52 : ℕ) - (1023 : ℤ) - 52 + (53 - fpPrec m : ℕ) + fpPrec m - 1 = _
    omega
  rw [← hexp] at hrange
  obtain ⟨hsign, hfieldE, hfieldF⟩ := fpPack_fields hlow hhigh hrange.1 hrange.2
  have himage : fpPack m r = v := by
    rw [hfracBits] at hfieldE hfieldF
    rw [hexp, hbias] at hfieldE
    have hE : magnitude (fpPack m r) / 2 ^ 52 = magnitude v / 2 ^ 52 := by omega
    have hF : 2 ^ 52 + magnitude (fpPack m r) % 2 ^ 52 = 2 ^ 52 + magnitude v % 2 ^ 52 := by
      rw [hfieldF, hround]
      exact (Nat.div_mul_cancel (Nat.dvd_of_mod_eq_zero hwhole)).trans hmant
    have hmag : magnitude (fpPack m r) = magnitude v := by omega
    rw [word_eq_iff, hsign]
    exact ⟨by rw [hround], hmag⟩
  have hinexact : r.inexact = false := by rw [hround]
  rw [if_neg (not_lt.2 hrange.2), if_neg (not_lt.2 hrange.1), himage, hinexact]
  rfl

/-! ### Infinities and zeros -/

section
variable {m : FpFormat} {c : IeeeCtx} {a b : Word}

/-- SUB is ADD of the operand with its sign inverted, where that operand is no NaN and no denormal. -/
theorem ieeeSub_eq_add (hb : ieeeClass b = .inf ∨ ieeeClass b = .zero ∨ ieeeClass b = .finite) :
    ieeeSub m c a b = ieeeAdd m c a (negated b) := by
  have hclass := ieeeClass_negated hb
  obtain ⟨hd, hn⟩ := special_ordinary hb
  obtain ⟨hd', hn'⟩ := special_ordinary (v := negated b) (by rwa [hclass])
  rw [ieeeSub, ieeeAdd, isSImage_negated, screenTwo, screenTwo, flushDenormal_id hd, flushDenormal_id hd', nanResult, nanResult, hd, hd',
    hn, hn', isSNaN_of_special hn, isSNaN_of_special hn', if_neg Bool.false_ne_true, if_neg Bool.false_ne_true]

/-- The two operands are S images where the format is S, and no NaN and no denormal. -/
structure Plain (m : FpFormat) (a b : Word) : Prop where
  images : m = .s → (isSImage a && isSImage b) = true
  left : isDenormal a = false ∧ isNaN a = false
  right : isDenormal b = false ∧ isNaN b = false

theorem Plain.swap (h : Plain m a b) : Plain m b a := ⟨fun hm => by rw [Bool.and_comm, h.images hm], h.right, h.left⟩

section
variable (h : Plain m a b)
include h

theorem Plain.screen (k : Word → Word → FpResult) : checkS m (isSImage a && isSImage b) (screenTwo c m a b k) = k a b := by
  rw [checkS_ok h.images, screenTwo_ordinary h.left.1 h.right.1 h.left.2 h.right.2]

theorem Plain.add : ieeeAdd m c a b = ieeeSum c m a b := h.screen _

/-- An infinity added to. -/
theorem ieeeAdd_inf_left (ha : ieeeClass a = .inf) (hb : ieeeClass b = .inf ∨ ieeeClass b = .zero ∨ ieeeClass b = .finite) :
    ieeeAdd m c a b =
      if ieeeClass b = .inf ∧ (a.getLsbD 63 ^^ b.getLsbD 63) = true then invalid 0xFFF8000000000000 else plainResult a := by
  rw [h.add, ieeeSum, ha]
  obtain hb | hb | hb := hb <;> rw [hb]
  · rw [fpSign, fpSign]
    cases a.getLsbD 63 <;> cases b.getLsbD 63 <;> rfl
  all_goals exact (if_neg fun h => by cases h.1).symm

theorem ieeeAdd_inf_right (ha : ieeeClass a = .inf) (hb : ieeeClass b = .zero ∨ ieeeClass b = .finite) :
    ieeeAdd m c b a = plainResult a := by
  rw [h.swap.add, ieeeSum, ha]
  obtain hb | hb := hb <;> rw [hb]

theorem ieeeMul_inf_left (ha : ieeeClass a = .inf) (hb : ieeeClass b = .inf ∨ ieeeClass b = .zero ∨ ieeeClass b = .finite) :
    ieeeMul m c a b =
      if ieeeClass b = .zero then invalid 0xFFF8000000000000 else plainResult (signedInf (a.getLsbD 63 ^^ b.getLsbD 63)) := by
  rw [ieeeMul, h.screen, ha]
  obtain hb | hb | hb := hb <;> rw [hb] <;> rfl

theorem ieeeMul_inf_right (ha : ieeeClass a = .inf) (hb : ieeeClass b = .inf ∨ ieeeClass b = .zero ∨ ieeeClass b = .finite) :
    ieeeMul m c b a =
      if ieeeClass b = .zero then invalid 0xFFF8000000000000 else plainResult (signedInf (a.getLsbD 63 ^^ b.getLsbD 63)) := by
  rw [ieeeMul, h.swap.screen, ha, Bool.xor_comm]
  obtain hb | hb | hb := hb <;> rw [hb] <;> rfl

theorem ieeeDiv_inf_left (ha : ieeeClass a = .inf) (hb : ieeeClass b = .inf ∨ ieeeClass b = .zero ∨ ieeeClass b = .finite) :
    ieeeDiv m c a b =
      if ieeeClass b = .inf then invalid 0xFFF8000000000000 else plainResult (signedInf (a.getLsbD 63 ^^ b.getLsbD 63)) := by
  rw [ieeeDiv, h.screen, ha]
  obtain hb | hb | hb := hb <;> rw [hb] <;> rfl

theorem ieeeDiv_inf_right (ha : ieeeClass a = .inf) (hb : ieeeClass b = .zero ∨ ieeeClass b = .finite) :
    ieeeDiv m c b a = plainResult (signedZero (a.getLsbD 63 ^^ b.getLsbD 63)) := by
  rw [ieeeDiv, h.swap.screen, ha, Bool.xor_comm]
  obtain hb | hb := hb <;> rw [hb] <;> rfl

/-- A zero added to a zero. -/
theorem ieeeAdd_zero_zero (ha : ieeeClass a = .zero) (hb : ieeeClass b = .zero) :
    ieeeAdd m c a b = plainResult (if (a.getLsbD 63 ^^ b.getLsbD 63) = false then b else signedZero (c.mode == .minus)) := by
  rw [h.add, ieeeSum, ha, hb]
  have hzero := signedZero_eq hb
  show plainResult (signedZero (if a.getLsbD 63 = b.getLsbD 63 then a.getLsbD 63 else c.mode == .minus)) = _
  by_cases hsign : a.getLsbD 63 = b.getLsbD 63
  · rw [if_pos hsign, hsign, Bool.xor_self, if_pos rfl, hzero]
  · have hdiffer : ¬(a.getLsbD 63 ^^ b.getLsbD 63) = false := by simpa using hsign
    rw [if_neg hsign, if_neg hdiffer]

/-- A zero added to a finite number, in either order. -/
theorem ieeeAdd_zero_finite (hm : m = .s ∨ m = .t) (ha : ieeeClass a = .zero) (hb : ieeeClass b = .finite) :
    ieeeAdd m c a b = plainResult b ∧ ieeeAdd m c b a = plainResult b := by
  have himage : m = .s → isSImage b = true := fun hs => (Bool.and_eq_true_iff.1 (h.images hs)).2
  have hself := ieeeDeliver_self (c := c) hm hb himage
  rw [h.add, h.swap.add, ieeeSum, ieeeSum, ha, hb]
  exact ⟨hself, hself⟩

theorem ieeeMul_zero (ha : ieeeClass a = .zero) (hb : ieeeClass b = .zero ∨ ieeeClass b = .finite) :
    ieeeMul m c a b = plainResult (signedZero (a.getLsbD 63 ^^ b.getLsbD 63)) ∧
      ieeeMul m c b a = plainResult (signedZero (a.getLsbD 63 ^^ b.getLsbD 63)) := by
  rw [ieeeMul, ieeeMul, h.screen, h.swap.screen, ha]
  obtain hb | hb := hb <;> rw [hb]
  all_goals exact ⟨rfl, congrArg (fun x => plainResult (signedZero x)) (Bool.xor_comm _ _)⟩

theorem ieeeDiv_zero_left (ha : ieeeClass a = .zero) (hb : ieeeClass b = .zero ∨ ieeeClass b = .finite) :
    ieeeDiv m c a b =
      if ieeeClass b = .zero then invalid 0xFFF8000000000000 else plainResult (signedZero (a.getLsbD 63 ^^ b.getLsbD 63)) := by
  rw [ieeeDiv, h.screen, ha]
  obtain hb | hb := hb <;> rw [hb] <;> rfl

theorem ieeeDiv_zero_right (ha : ieeeClass a = .zero) (hb : ieeeClass b = .finite) :
    ieeeDiv m c b a =
      { value := some (signedInf (a.getLsbD 63 ^^ b.getLsbD 63)), conds := { noConds with dze := true } } := by
  rw [ieeeDiv, h.swap.screen, ha, hb, Bool.xor_comm]
  rfl

end

/-! ### One operand -/

theorem ieeeSqrt_zero (hs : m = .s → isSImage a = true) (ha : ieeeClass a = .zero) : ieeeSqrt m c a = plainResult a := by
  obtain ⟨hd, hn⟩ := zero_ordinary ha
  rw [ieeeSqrt, checkS_ok hs, screenOne_ordinary hd hn, ha]

theorem ieeeSqrt_inf (hs : m = .s → isSImage a = true) (ha : ieeeClass a = .inf) :
    ieeeSqrt m c a = if a.getLsbD 63 then invalid 0xFFF8000000000000 else plainResult a := by
  obtain ⟨hd, hn⟩ := inf_ordinary ha
  rw [ieeeSqrt, checkS_ok hs, screenOne_ordinary hd hn, ha]
  exact rfl

theorem ieeeSqrt_negative (hs : m = .s → isSImage a = true) (ha : ieeeClass a = .finite) (hsign : a.getLsbD 63 = true) :
    ieeeSqrt m c a = invalid 0xFFF8000000000000 := by
  obtain ⟨hd, hn⟩ := finite_ordinary ha
  rw [ieeeSqrt, checkS_ok hs, screenOne_ordinary hd hn, ha]
  exact if_pos hsign

/-- CVTTS and CVTST leave zeros and infinities as they are. -/
theorem ieeeTo_special (h : ieeeClass a = .zero ∨ ieeeClass a = .inf) : ∀ f ∈ [ieeeToS, ieeeToT], f c a = plainResult a := by
  have hspecial : ieeeClass a = .inf ∨ ieeeClass a = .zero ∨ ieeeClass a = .finite := h.symm.imp_right .inl
  obtain ⟨hd, hn⟩ := special_ordinary hspecial
  have himage : isSImage a = true := h.elim isSImage_zero isSImage_inf
  simp only [List.forall_mem_cons (l := _ :: _), List.forall_mem_singleton]
  constructor
  · rw [ieeeToS, screenOne_ordinary hd hn]
    obtain h | h := h <;> rw [h]
  · rw [ieeeToT, checkS_ok fun _ => himage, screenOne_ordinary hd hn]

end

/-- Settles O50. -/
theorem ieeeSpecialOperands : Obligations.IeeeSpecialOperands := by
  unfold Obligations.IeeeSpecialOperands
  rintro m c a b hm hs x rfl
  have himages : m = .s → (isSImage a && isSImage b) = true := fun h => by rw [(hs h).1, (hs h).2, Bool.and_self]
  have hsa : m = .s → isSImage a = true := fun h => (hs h).1
  refine ⟨fun hd hz f hf => ?denormal2, fun hd hz f hf => ?denormal1, fun hd hz => ⟨fun f hf => ?flush2, fun f hf => ?flush1⟩,
    fun hda hdb hn v hv => ?nan2, fun hn v hv => ?nan1, fun hb => ⟨ieeeSub_eq_add hb, fun ha => ?inf, fun ha hbi => ?zero⟩,
    fun ha f hf => ?zero1, fun ha => ⟨ieeeTo_special (.inr ha), fun hsign => ?inf1⟩, fun ha hsign => ?negative⟩
  case denormal2 =>
    simp only [List.mem_cons, List.not_mem_nil, or_false] at hf
    obtain rfl | rfl | rfl | rfl | rfl | rfl | rfl | rfl := hf
    iterate 4 exact arithmetic_denormal hd hz _ _
    iterate 4 exact ieeeCompare_denormal hd hz _ _ _
  case denormal1 =>
    simp only [List.mem_cons, List.not_mem_nil, or_false] at hf
    obtain rfl | rfl | rfl | rfl := hf
    · rw [ieeeSqrt, screenOne_denormal hd hz, checkS_denormalTrap]
      rfl
    · exact screenOne_denormal hd hz _
    · rw [ieeeToT, screenOne_denormal hd hz, checkS_denormalTrap]
      rfl
    · exact if_pos (by rw [hd, hz]; rfl)
  case flush2 =>
    have hzero : m = .s → isSImage (zeroOf a) = true := fun _ => isSImage_zero (ieeeClass_zeroOf a)
    have hleft : ∀ k, checkS m (isSImage a && isSImage b) (screenTwo c m a b k) =
        checkS m (isSImage (zeroOf a) && isSImage b) (screenTwo c m (zeroOf a) b k) := fun k => by
      rw [checkS_ok himages, checkS_ok fun h => by rw [hzero h, (hs h).2, Bool.and_self], screenTwo_flush_left hd hz]
    have hright : ∀ k, checkS m (isSImage b && isSImage a) (screenTwo c m b a k) =
        checkS m (isSImage b && isSImage (zeroOf a)) (screenTwo c m b (zeroOf a) k) := fun k => by
      rw [checkS_ok fun h => by rw [Bool.and_comm, himages h], checkS_ok fun h => by rw [hzero h, (hs h).2, Bool.and_self],
        screenTwo_flush_right hd hz]
    simp only [List.mem_cons, List.not_mem_nil, or_false] at hf
    obtain rfl | rfl | rfl | rfl | rfl | rfl | rfl | rfl := hf
    iterate 4 exact ⟨hleft _, hright _⟩
    iterate 4 exact ⟨ieeeCompare_flush_left hd hz _ _ _, ieeeCompare_flush_right hd hz _ _ _⟩
  case flush1 =>
    simp only [List.mem_cons, List.not_mem_nil, or_false] at hf
    obtain rfl | rfl | rfl := hf
    · show ieeeSqrt m c a = ieeeSqrt m c (zeroOf a)
      rw [ieeeSqrt, ieeeSqrt, checkS_ok hsa, checkS_ok fun _ => isSImage_zero (ieeeClass_zeroOf a), screenOne_flush hd hz]
    · exact screenOne_flush hd hz _
    · exact ieeeToInt_flush hd hz
  case nan2 =>
    have hquiet : quieted m (if isNaN b then b else a) = v := by
      rw [hv]
      refine quieted_eq hm fun h => ?_
      split
      · exact (hs h).2
      · exact (hs h).1
    refine ⟨fun f hf => ?_, ieeeCompare_nan hda hdb hn _ _ _, ieeeCompare_nan hda hdb hn _ _ _, fun f hf => ?_⟩
    · have harith : ∀ k, checkS m (isSImage a && isSImage b) (screenTwo c m a b k) =
          { value := some v, conds := { noConds with inv := isSNaN a || isSNaN b } } := fun k => by
        rw [checkS_ok himages, screenTwo_nan hda hdb hn, nanResult, hquiet]
      simp only [List.mem_cons, List.not_mem_nil, or_false] at hf
      obtain rfl | rfl | rfl | rfl := hf <;> exact harith _
    · simp only [List.mem_cons, List.not_mem_nil, or_false] at hf
      obtain rfl | rfl := hf <;> exact ieeeCompare_nan hda hdb hn _ _ _
  case nan1 =>
    subst hv
    refine ⟨?_, ?_, fun hsi => ?_⟩
    · rw [ieeeSqrt, checkS_ok hsa, screenOne_nan hn, quieted_eq hm hsa]
    · rw [ieeeToS, screenOne_nan hn, ← andNot_onesLow]
      rfl
    · rw [ieeeToT, checkS_ok fun _ => hsi, screenOne_nan hn]
      rfl
  case inf =>
    have hplain : Plain m a b := ⟨himages, inf_ordinary ha, special_ordinary hb⟩
    refine ⟨ieeeAdd_inf_left hplain ha hb, ieeeMul_inf_left hplain ha hb, ?_, ieeeDiv_inf_left hplain ha hb, fun hbi => ?_⟩
    · rw [ieeeMul_inf_right hplain ha hb, ieeeMul_inf_left hplain ha hb]
    · exact ⟨ieeeAdd_inf_right hplain ha (hb.resolve_left hbi), ieeeDiv_inf_right hplain ha (hb.resolve_left hbi)⟩
  case zero =>
    have hplain : Plain m a b := ⟨himages, zero_ordinary ha, special_ordinary hb⟩
    obtain hbz | hbf := hb.resolve_left hbi
    · have hadd := ieeeAdd_zero_zero (c := c) hplain ha hbz
      have hadd' := ieeeAdd_zero_zero (c := c) hplain.swap hbz ha
      obtain ⟨hmul, hmul'⟩ := ieeeMul_zero (c := c) hplain ha (.inl hbz)
      refine ⟨?_, ?_, hmul, hmul', ieeeDiv_zero_left hplain ha (.inl hbz), fun hbf => ?_⟩
      · rw [hadd, hbz]
        exact congrArg plainResult (if_congr (by simp) rfl rfl)
      · rw [hadd, hadd', Bool.xor_comm]
        refine congrArg plainResult ?_
        split
        next hsign =>
          rw [← signedZero_eq ha, ← signedZero_eq hbz, (by simpa using hsign : a.getLsbD 63 = b.getLsbD 63)]
        next => rfl
      · rw [hbz] at hbf
        cases hbf
    · obtain ⟨hadd, hadd'⟩ := ieeeAdd_zero_finite (c := c) hplain hm ha hbf
      obtain ⟨hmul, hmul'⟩ := ieeeMul_zero (c := c) hplain ha (.inr hbf)
      refine ⟨?_, hadd'.trans hadd.symm, hmul, hmul', ieeeDiv_zero_left hplain ha (.inr hbf), ieeeDiv_zero_right hplain ha⟩
      rw [hadd, if_pos (.inl hbf)]
  case zero1 =>
    have hto := ieeeTo_special (c := c) (.inl ha)
    rw [List.mem_cons] at hf
    obtain rfl | hf := hf
    · exact ieeeSqrt_zero hsa ha
    · exact hto f hf
  case inf1 => rw [ieeeSqrt_inf hsa ha, hsign, if_neg Bool.false_ne_true]
  case negative =>
    obtain ha | ha := ha
    · rw [ieeeSqrt_inf hsa ha, if_pos hsign]
    · exact ieeeSqrt_negative hsa ha hsign

end Sys2Proof.Machine
end
